-- ==== Sys2Proof/Word.lean ====
section
/-! DEFINITION. The word types of the block and the instance numbers of Table 0.4 (00_scope.md R6): each numbered
thing of the module has a bounded index type, so an instance that the part does not have cannot be named. -/

namespace Sys2Proof

/-- A byte. -/
abbrev Byte := BitVec 8
/-- A 16-bit word. -/
abbrev Half := BitVec 16
/-- A 32-bit word: one accumulator entry, one Celulo scalar register. -/
abbrev Word := BitVec 32

/-- Compute die, 0 or 1 (Table 0.1). -/
abbrev DieId := Fin 2
/-- Sector, 0 to 15 (Table 0.4). -/
abbrev SectorId := Fin 16
/-- Parcel, and the PCIe virtual function of the same number (R446). -/
abbrev ParcelId := Fin 16
/-- Tile, global number: sector * 32 + k (Table 0.4). -/
abbrev TileId := Fin 512
/-- Engine number within a tile (Table 5.1); a vector tile has engines 0 to 3 only. -/
abbrev EngineId := Fin 5
/-- Stack, 0 to 11 (Table 0.1). -/
abbrev StackId := Fin 12
/-- Channel, global number: stack * 32 + c (Table 0.4). -/
abbrev ChannelId := Fin 384
/-- Celulo unit, global number: channel * 64 + pair (Table 0.4). -/
abbrev UnitId := Fin 24576
/-- Rhumb port, 0 to 15. -/
abbrev PortId := Fin 16
/-- Lamp module, 0 to 3. -/
abbrev LampId := Fin 4
/-- Temperature sensor, 0 to 51. -/
abbrev SensorId := Fin 52
/-- Clock-domain number, 0x00 to 0x3F (Table 16.2). -/
abbrev DomainId := Fin 64

end Sys2Proof
end

