-- ==== Sys2Proof/Types.lean ====
section
/-! DEFINITION. The data that commands carry: principals, charts, Legend, SPDM and PLDM messages, flits. Where the
spec gives a structure's bits (a submission entry, a launch record, a tensor record, a completion entry, a flit record)
the command carries those bits; where it gives only the content (a chart, R9; a certificate, a firmware image) it carries
that content as plain data. -/

namespace Sys2Proof

/-- Who makes a Legend request (18_legend_interfaces.md Table 18.2). The Cartouche principal never arrives over a
transport (R433). -/
inductive Principal where
  | operator
  | tenant (p : ParcelId)
  | factory
deriving DecidableEq, Repr

/-- A need of a leg template (15_rhumb_links.md R381): `amount` of remote counter `counter`, posted at the launch to
cairn `cairn` of logical tile `tile`. -/
structure RemoteNeed where
  counter : Nat
  amount : Nat
  tile : Nat
  cairn : Nat
deriving DecidableEq, Repr

/-- What a leg template is for (R470). -/
inductive TemplateUse where
  | decode (bucket : Nat)
  | prefill (priorLo priorHi : Nat)
deriving DecidableEq, Repr

/-- Row `row` of the STREAM instruction at `retireIndex` belongs to place `slot` of the leg's batch (R100: the row
map). -/
structure RowMapEntry where
  retireIndex : Nat
  row : Nat
  slot : Nat
deriving DecidableEq, Repr

/-- A leg template of a chart (R9). -/
structure LegTemplate where
  number : Nat
  use : TemplateUse
  /-- cycles: the fixed part and the part per 1,024 positions -/
  fixed : Nat
  perKpos : Nat
  /-- largest declared position count -/
  maxPos : Nat
  minInterval : Nat
  /-- leg manifest entries (Table 12.8) -/
  manifest : List (BitVec 64)
  rowMap : List RowMapEntry
  /-- remote list entries (Table 15.2) -/
  remoteList : List (BitVec 512)
  needs : List RemoteNeed
  /-- the launch records of the leg are built with DUMP set (R128, R129) -/
  dump : Bool
  /-- the entry program counters of its launch records (Table 5.2) -/
  entry : List (BitVec 12)
  /-- its instruction streams and constants: for each logical tile the instruction-memory slots that they fill -/
  streams : List (List (Nat × BitVec 128))
deriving DecidableEq, Repr

/-- A region that the chart declares for the staged version of an inset slot (R9). -/
structure InsetRegion where
  slot : Nat
  base : Nat
  len : Nat
deriving DecidableEq, Repr

/-- A chart (R9). -/
structure Chart where
  sectors : Nat
  /-- the die split its proofs assume; none stands for "any" (R299) -/
  dieSplit : Option Nat
  /-- per logical sector: tiles used (bit k) and channels used (bit k) -/
  tileMasks : List (BitVec 32)
  channelMasks : List (BitVec 24)
  templates : List LegTemplate
  /-- the Celulo image: words from instruction index 0 -/
  celuloImage : List (BitVec 32)
  /-- tensor records (Table 7.4) -/
  tensors : List (BitVec 1024)
  insetRegions : List InsetRegion
  /-- the bytes per tick that the chart's delivery leg declares, if it has one (R334) -/
  deliveryLeg : Option Nat
  qd : Nat
  qp : Nat
  chunk : Nat
  nLayers : Nat
  heads : Nat
deriving DecidableEq, Repr

/-- A firmware image in the module flash (R320, R454): a number that stands for its contents, whether its signature
verifies, and its security version. Image 0 of a component is the factory's. -/
structure FwImage where
  content : Nat
  signed : Bool
  secVersion : Nat
deriving DecidableEq, Repr

/-- The content of a factory token (R456), and whether its signature verifies by the fused key. -/
structure FactoryToken where
  serial : BitVec 64
  epoch : BitVec 32
  expiry : Nat
  signed : Bool
deriving DecidableEq, Repr

/-- What a tenant writes to EXPORT_AUTH (R337): the destination's delivery key, nonce, serial and parcel number, a
bundle id, the host address of the bundle and at most 64 regions (logical address, bytes). -/
structure ExportRequest where
  dkPublic : BitVec 776
  nonce : BitVec 64
  serial : BitVec 64
  parcel : Nat
  bundleId : BitVec 64
  address : BitVec 64
  regions : List (Nat × Nat)
deriving DecidableEq, Repr

/-- How a sensor's conversion came out (R419): a signed count of 0.125 degrees, an open or a shorted sensor. -/
inductive Conversion where
  | value (v : Int)
  | opened
  | shorted
deriving DecidableEq, Repr

/-- The tamper sources of Table 13.13. -/
inductive TamperSource where
  | meshOpen | meshShort | voltage | clock | temperature | light
deriving DecidableEq, Repr

/-- A gate node of a domain (16_clocks_startup.md Table 16.3): tile k, the steward core, or the domain's own node. -/
inductive GateNode where
  | tile (k : Nat)
  | steward
  | own
deriving DecidableEq, Repr

end Sys2Proof
end

