-- ==== Sys2Proof/Syntax.lean ====
section
/-! DEFINITION. The commands of the block: one constructor for each row of the opcode table, in the table's order. An
operand that a row's summary leaves to the outside (a tile and engine, a channel, a register value, a received message)
is an argument; `cyc` counts tile cycles from the launch of the leg in progress. -/

namespace Sys2Proof

/-- A command: an operation or an event of the block. -/
inductive Instr where
  /-- TICK_BOUNDARY (R26). -/
  | tickBoundary (cycles : Nat)
  /-- STRETCH_CHANGE (R45). -/
  | stretchChange
  /-- BUCKET_LEAK (R352). -/
  | bucketLeak
  /-- LANE_COUNT_RESTART (R210). -/
  | laneCountRestart
  /-- POWER_DEMAND_UPDATE (R424). -/
  | powerDemandUpdate (energyUJ : Nat)
  /-- POWER_W_UPDATE (R310). -/
  | powerWUpdate
  /-- REFRESH_SLOT (R203). -/
  | refreshSlot (c : ChannelId)
  /-- SCRUB_SLOT (R205). -/
  | scrubSlot (c : ChannelId)
  /-- CLEAR_SLOT (R206). -/
  | clearSlot (c : ChannelId)
  /-- CLEAR_ENQUEUE (R206). -/
  | clearEnqueue (c : ChannelId) (page : Nat)
  /-- CHANNEL_CLEAR_DONE (R207). -/
  | channelClearDone (c : ChannelId)
  /-- ADMISSION_EVALUATE (R36). -/
  | admissionEvaluate (p : ParcelId)
  /-- PENDING_EXPIRED (R271). -/
  | pendingExpired (p : ParcelId)
  /-- PLAN_COMPOSE (R276). -/
  | planCompose (p : ParcelId)
  /-- COMMAND_SAMPLE (R294). -/
  | commandSample (p : ParcelId)
  /-- LEG_LAUNCH (R108). -/
  | legLaunch (p : ParcelId) (record : BitVec 1024) (tickCyc : Nat)
  /-- LEG_COMPLETE (R31). -/
  | legComplete (p : ParcelId) (tokens : List (Nat × Nat)) (lateCycles : Nat)
  /-- ENGINE_END_RETIRE (R110). -/
  | engineEndRetire (t : TileId) (e : EngineId) (cyc : Nat)
  /-- ENGINE_HALT (R127). -/
  | engineHalt (t : TileId) (e : EngineId) (cyc : Nat)
  /-- LEG_DUMP (R128). -/
  | legDump (p : ParcelId)
  /-- POST_ARRIVAL (R114). -/
  | postArrival (t : TileId) (cairn : BitVec 6) (cyc : Nat)
  /-- WAIT_TIMEOUT (R116). -/
  | waitTimeout (t : TileId) (e : EngineId) (cyc : Nat)
  /-- WAITQ_TIMEOUT (R119). -/
  | waitqTimeout (t : TileId) (e : EngineId) (cyc : Nat)
  /-- COPY_RUN (R472). -/
  | copyRun (t : TileId) (e : EngineId) (ch : Fin 4) (cyc : Nat)
  /-- SEGMENT_TURN (R190). -/
  | segmentTurn (c : ChannelId) (cyc : Nat) (laneErrors : List (Nat × Nat))
  /-- DESCRIPTOR_COMPLETE (R117). -/
  | descriptorComplete (t : TileId) (e : EngineId) (ch : Fin 4) (cyc : Nat)
  /-- FAULT_STOP (R122). -/
  | faultStop (p : ParcelId) (cyc : Nat)
  /-- CONTEXT_TEARDOWN (R305). -/
  | contextTeardown (p : ParcelId)
  /-- NOP (R144). -/
  | tileNop (t : TileId) (e : EngineId) (cyc : Nat)
  /-- END (R144). -/
  | tileEnd (t : TileId) (e : EngineId) (cyc : Nat)
  /-- LOOP (R145). -/
  | tileLoop (t : TileId) (e : EngineId) (cyc : Nat)
  /-- WAIT (R147). -/
  | tileWait (t : TileId) (e : EngineId) (cyc : Nat)
  /-- POST (R148). -/
  | tilePost (t : TileId) (e : EngineId) (cyc : Nat)
  /-- SETO (R149). -/
  | tileSeto (t : TileId) (e : EngineId) (cyc : Nat)
  /-- ADDO (R149). -/
  | tileAddo (t : TileId) (e : EngineId) (cyc : Nat)
  /-- COPY (R150). -/
  | tileCopy (t : TileId) (e : EngineId) (cyc : Nat)
  /-- WAITQ (R152). -/
  | tileWaitq (t : TileId) (e : EngineId) (cyc : Nat)
  /-- CLAUNCH (R153). -/
  | tileClaunch (t : TileId) (e : EngineId) (cyc : Nat)
  /-- WLOAD (R154). -/
  | tileWload (t : TileId) (e : EngineId) (cyc : Nat)
  /-- STREAM (R157). -/
  | tileStream (t : TileId) (e : EngineId) (cyc : Nat)
  /-- DRAIN (R160). -/
  | tileDrain (t : TileId) (e : EngineId) (cyc : Nat)
  /-- VADD (R163). -/
  | tileVadd (t : TileId) (e : EngineId) (cyc : Nat)
  /-- VSUB (R163). -/
  | tileVsub (t : TileId) (e : EngineId) (cyc : Nat)
  /-- VMUL (R163). -/
  | tileVmul (t : TileId) (e : EngineId) (cyc : Nat)
  /-- VFMA (R163). -/
  | tileVfma (t : TileId) (e : EngineId) (cyc : Nat)
  /-- VMAX (R165). -/
  | tileVmax (t : TileId) (e : EngineId) (cyc : Nat)
  /-- VMIN (R165). -/
  | tileVmin (t : TileId) (e : EngineId) (cyc : Nat)
  /-- VABS (R163). -/
  | tileVabs (t : TileId) (e : EngineId) (cyc : Nat)
  /-- VNEG (R163). -/
  | tileVneg (t : TileId) (e : EngineId) (cyc : Nat)
  /-- VCVT (R163). -/
  | tileVcvt (t : TileId) (e : EngineId) (cyc : Nat)
  /-- VEXP2 (R166). -/
  | tileVexp2 (t : TileId) (e : EngineId) (cyc : Nat)
  /-- VLOG2 (R166). -/
  | tileVlog2 (t : TileId) (e : EngineId) (cyc : Nat)
  /-- VRCP (R166). -/
  | tileVrcp (t : TileId) (e : EngineId) (cyc : Nat)
  /-- VRSQRT (R166). -/
  | tileVrsqrt (t : TileId) (e : EngineId) (cyc : Nat)
  /-- VSIG (R166). -/
  | tileVsig (t : TileId) (e : EngineId) (cyc : Nat)
  /-- VRSUM (R165). -/
  | tileVrsum (t : TileId) (e : EngineId) (cyc : Nat)
  /-- VRMAX (R165). -/
  | tileVrmax (t : TileId) (e : EngineId) (cyc : Nat)
  /-- VRSSQ (R165). -/
  | tileVrssq (t : TileId) (e : EngineId) (cyc : Nat)
  /-- VROT (R165). -/
  | tileVrot (t : TileId) (e : EngineId) (cyc : Nat)
  /-- VSPLIT32 (R67). -/
  | tileVsplit32 (t : TileId) (e : EngineId) (cyc : Nat)
  /-- VSPLIT16 (R68). -/
  | tileVsplit16 (t : TileId) (e : EngineId) (cyc : Nat)
  /-- GXPOSE (R167). -/
  | tileGxpose (t : TileId) (e : EngineId) (cyc : Nat)
  /-- GPERM (R168). -/
  | tileGperm (t : TileId) (e : EngineId) (cyc : Nat)
  /-- CELULO_LAUNCH (R234). -/
  | celuloLaunch (u : UnitId) (cyc : Nat)
  /-- PORT_FRAME (R194). -/
  | portFrame (u : UnitId)
  /-- CELULO_FAULT_REPORT (R246). -/
  | celuloFaultReport (u : UnitId)
  /-- LAUNCH_COMPLETION_POST (R235). -/
  | launchCompletionPost (t : TileId) (e : EngineId) (cyc : Nat)
  /-- ALU (R228). -/
  | celuloAlu (u : UnitId) (cyc : Nat)
  /-- ADDI (R228). -/
  | celuloAddi (u : UnitId) (cyc : Nat)
  /-- ANDI (R228). -/
  | celuloAndi (u : UnitId) (cyc : Nat)
  /-- SHI (R228). -/
  | celuloShi (u : UnitId) (cyc : Nat)
  /-- LUI (R228). -/
  | celuloLui (u : UnitId) (cyc : Nat)
  /-- FALU (R228). -/
  | celuloFalu (u : UnitId) (cyc : Nat)
  /-- SEL (R228). -/
  | celuloSel (u : UnitId) (cyc : Nat)
  /-- LDW (R228). -/
  | celuloLdw (u : UnitId) (cyc : Nat)
  /-- STW (R228). -/
  | celuloStw (u : UnitId) (cyc : Nat)
  /-- VLD (R228). -/
  | celuloVld (u : UnitId) (cyc : Nat)
  /-- VST (R228). -/
  | celuloVst (u : UnitId) (cyc : Nat)
  /-- VLDS (R219). -/
  | celuloVlds (u : UnitId) (cyc : Nat)
  /-- VSTW (R221). -/
  | celuloVstw (u : UnitId) (cyc : Nat)
  /-- RSTR (R219). -/
  | celuloRstr (u : UnitId) (cyc : Nat)
  /-- WSTR (R221). -/
  | celuloWstr (u : UnitId) (cyc : Nat)
  /-- WAITW (R223). -/
  | celuloWaitw (u : UnitId) (cyc : Nat)
  /-- VDOT (R230). -/
  | celuloVdot (u : UnitId) (cyc : Nat)
  /-- VMACM (R230). -/
  | celuloVmacm (u : UnitId) (cyc : Nat)
  /-- VF (R228). -/
  | celuloVf (u : UnitId) (cyc : Nat)
  /-- CELULO_VCVT (R230). -/
  | celuloVcvt (u : UnitId) (cyc : Nat)
  /-- SETF (R226). -/
  | celuloSetf (u : UnitId) (cyc : Nat)
  /-- SETS (R226). -/
  | celuloSets (u : UnitId) (cyc : Nat)
  /-- CELULO_LOOP (R231). -/
  | celuloLoop (u : UnitId) (cyc : Nat)
  /-- DONE (R238). -/
  | celuloDone (u : UnitId) (cyc : Nat)
  /-- FAIL (R244). -/
  | celuloFail (u : UnitId) (cyc : Nat)
  /-- ERET (R245). -/
  | celuloEret (u : UnitId) (cyc : Nat)
  /-- CELULO_NOP (R228). -/
  | celuloNop (u : UnitId) (cyc : Nat)
  /-- ADD (R256). -/
  | atomicAdd (p : ParcelId) (addr : Nat) (size : Nat) (op : BitVec 64)
  /-- AND (R256). -/
  | atomicAnd (p : ParcelId) (addr : Nat) (size : Nat) (op : BitVec 64)
  /-- OR (R256). -/
  | atomicOr (p : ParcelId) (addr : Nat) (size : Nat) (op : BitVec 64)
  /-- XOR (R256). -/
  | atomicXor (p : ParcelId) (addr : Nat) (size : Nat) (op : BitVec 64)
  /-- MAX (R256). -/
  | atomicMax (p : ParcelId) (addr : Nat) (size : Nat) (op : BitVec 64)
  /-- MIN (R256). -/
  | atomicMin (p : ParcelId) (addr : Nat) (size : Nat) (op : BitVec 64)
  /-- MAXU (R256). -/
  | atomicMaxu (p : ParcelId) (addr : Nat) (size : Nat) (op : BitVec 64)
  /-- MINU (R256). -/
  | atomicMinu (p : ParcelId) (addr : Nat) (size : Nat) (op : BitVec 64)
  /-- SWAP (R256). -/
  | atomicSwap (p : ParcelId) (addr : Nat) (size : Nat) (op : BitVec 64)
  /-- CAS (R256). -/
  | atomicCas (p : ParcelId) (addr : Nat) (size : Nat) (op compare : BitVec 64)
  /-- FADD32 (R258). -/
  | atomicFadd32 (p : ParcelId) (addr : Nat) (size : Nat) (op : BitVec 64)
  /-- FADD16B (R258). -/
  | atomicFadd16b (p : ParcelId) (addr : Nat) (size : Nat) (op : BitVec 64)
  /-- RETRAIN (R211). -/
  | retrain (who : Principal) (c : ChannelId) (value : Nat)
  /-- TRAINING_COMPLETE (R209). -/
  | trainingComplete (c : ChannelId) (failing : List Nat) (failed : Bool) (eyeWidth eyeHeight worst : Nat)
  /-- TG_START (R213). -/
  | tgStart (who : Principal) (c : ChannelId) (value : Nat)
  /-- TG_STOP (R213). -/
  | tgStop (who : Principal) (c : ChannelId) (value : Nat)
  /-- TG_RUN_BEGIN (R213). -/
  | tgRunBegin (c : ChannelId)
  /-- TG_RUN_END (R213). -/
  | tgRunEnd (c : ChannelId)
  /-- DOORBELL (R266). -/
  | doorbell (p : ParcelId) (r : Fin 8) (tail : BitVec 32)
  /-- ENTRY_READ (R267). -/
  | entryRead (p : ParcelId) (r : Fin 8)
  /-- SUBMIT_NOP (R267). -/
  | submitNop (p : ParcelId) (r : Fin 8) (entry : BitVec 512)
  /-- SUBMIT (R269). -/
  | submit (p : ParcelId) (r : Fin 8) (entry : BitVec 512)
  /-- CANCEL (R273). -/
  | cancel (p : ParcelId) (r : Fin 8) (entry : BitVec 512)
  /-- REGISTER_DATUM (R283). -/
  | registerDatum (p : ParcelId) (r : Fin 8) (entry : BitVec 512)
  /-- RELEASE_DATUM (R283). -/
  | releaseDatum (p : ParcelId) (r : Fin 8) (entry : BitVec 512)
  /-- INSET_PUBLISH (R285). -/
  | insetPublish (p : ParcelId) (r : Fin 8) (entry : BitVec 512)
  /-- INSET_RETIRE (R285). -/
  | insetRetire (p : ParcelId) (r : Fin 8) (entry : BitVec 512)
  /-- PROMPT_READ_DONE (R269). -/
  | promptReadDone (p : ParcelId) (buf : Nat) (tokens : Option (List (BitVec 32)))
  /-- COMPLETION_WRITE (R266). -/
  | completionWrite (p : ParcelId) (r : Fin 8)
  /-- SEAL (R298). -/
  | seal (who : Principal) (p : ParcelId)
  /-- START (R295). -/
  | start (who : Principal) (p : ParcelId)
  /-- JOB_END (R296). -/
  | jobEnd (who : Principal) (p : ParcelId)
  /-- ABORT (R294). -/
  | abort (who : Principal) (p : ParcelId)
  /-- PREEMPT (R302). -/
  | preempt (who : Principal) (p : ParcelId)
  /-- RESUME (R303). -/
  | resume (who : Principal) (p : ParcelId)
  /-- STOP (R294). -/
  | stop (who : Principal) (p : ParcelId)
  /-- RELEASE (R294). -/
  | release (who : Principal) (p : ParcelId)
  /-- PARCEL_SECTORS (R293). -/
  | parcelSectors (who : Principal) (p : ParcelId) (value : Nat)
  /-- RETIRE_TILE (R312). -/
  | retireTile (who : Principal) (k : SectorId) (value : Nat)
  /-- RETIRE_CHANNEL (R312). -/
  | retireChannel (who : Principal) (k : SectorId) (value : Nat)
  /-- RETIRE_STEWARD (R312). -/
  | retireSteward (who : Principal) (k : SectorId) (value : Nat)
  /-- RETIRE_PAGE (R365). -/
  | retirePage (who : Principal) (c : ChannelId) (value : Nat)
  /-- RETIRE_PAIR (R365). -/
  | retirePair (who : Principal) (c : ChannelId) (value : Nat)
  /-- INTERVAL_STEPS (R19). -/
  | intervalSteps (who : Principal) (value : Nat)
  /-- OVERRUN_CLEAR (R40). -/
  | overrunClear (who : Principal) (p : ParcelId) (value : Nat)
  /-- BUCKET_DEPTH (R354). -/
  | bucketDepth (who : Principal) (value : Nat)
  /-- LOG_WRITE (R360). -/
  | logWrite
  /-- DELIVERY_START (R333). -/
  | deliveryStart (who : Principal) (p : ParcelId) (addr : BitVec 64) (header : Option (BitVec 2048))
  /-- DELIVERY_CHUNK (R333). -/
  | deliveryChunk (p : ParcelId) (desc : Option (BitVec 512)) (cipher : Option (List Byte)) (chart : Option Chart)
  /-- DELIVERY_ABORT (R336). -/
  | deliveryAbort (who : Principal) (p : ParcelId) (value : Nat)
  /-- EXPORT_AUTH (R337). -/
  | exportAuth (who : Principal) (p : ParcelId) (request : ExportRequest)
  /-- EXPORT_CHUNK (R337). -/
  | exportChunk (p : ParcelId)
  /-- TAMPER_EVENT (R346). -/
  | tamperEvent (sources : List TamperSource) (keyOp : Bool)
  /-- GET_VERSION (R324). -/
  | getVersion (tr : Nat)
  /-- GET_CAPABILITIES (R324). -/
  | getCapabilities (tr : Nat)
  /-- NEGOTIATE_ALGORITHMS (R324). -/
  | negotiateAlgorithms (tr : Nat)
  /-- GET_DIGESTS (R324). -/
  | getDigests (tr : Nat)
  /-- GET_CERTIFICATE (R324). -/
  | getCertificate (tr : Nat) (slot offset length : Nat)
  /-- CHALLENGE (R324). -/
  | challenge (tr : Nat) (slot : Nat) (nonce : BitVec 256)
  /-- GET_MEASUREMENTS (R325). -/
  | getMeasurements (tr : Nat) (block : Option Nat) (signed : Bool) (fn : Option ParcelId)
  /-- KEY_EXCHANGE (R327). -/
  | keyExchange (tr : Nat) (point : BitVec 776)
  /-- FINISH (R324). -/
  | finish (tr : Nat) (session : Nat)
  /-- KEY_UPDATE (R324). -/
  | keyUpdate (tr : Nat) (session : Nat)
  /-- HEARTBEAT (R324). -/
  | heartbeat (tr : Nat) (session : Nat)
  /-- END_SESSION (R324). -/
  | endSession (tr : Nat) (session : Nat)
  /-- CHUNK_SEND (R324). -/
  | chunkSend (tr : Nat) (seq : Nat) (last : Bool) (data : List Byte)
  /-- CHUNK_GET (R324). -/
  | chunkGet (tr : Nat) (seq : Nat)
  /-- LOCK_INTERFACE_REQUEST (R328). -/
  | lockInterfaceRequest (tr : Nat) (p : ParcelId)
  /-- STOP_INTERFACE_REQUEST (R329). -/
  | stopInterfaceRequest (tr : Nat) (p : ParcelId)
  /-- IDE_KM (R330). -/
  | ideKm (tr : Nat) (session : Nat) (fn : Option ParcelId) (key : BitVec 256) (go : Bool)
  /-- SPDM_UNSUPPORTED (R324). -/
  | spdmUnsupported (tr : Nat) (code : Nat)
  /-- SPDM_RESPONSE_RELEASE (R326). -/
  | spdmResponseRelease (k : Nat)
  /-- POWER_ON_RESET (R408). -/
  | powerOnReset
  /-- MODULE_RESET_N (R408). -/
  | moduleResetN (lowUs : Nat)
  /-- MODULE_RESET (R409). -/
  | moduleReset (who : Principal) (value : Nat)
  /-- BOOT_RELEASE (R411). -/
  | bootRelease (ms : Nat)
  /-- V48_IN_RANGE (R459). -/
  | v48InRange
  /-- V48_DIP (R460). -/
  | v48Dip (millivolts micros : Nat)
  /-- V48_LOSS (R460). -/
  | v48Loss
  /-- V3P3_SB_LOSS (R460). -/
  | v3p3SbLoss
  /-- THERM_TRIP_RELEASE (R461). -/
  | thermTripRelease (absentMs : Nat)
  /-- FLASH_EXT_N (R464). -/
  | flashExtN (low : Bool) (images : List (Nat × FwImage))
  /-- HOST_INTERFACE_RESET (R408). -/
  | hostInterfaceReset (kind : Fin 4)
  /-- VF_FLR (R408). -/
  | vfFlr (p : ParcelId)
  /-- VF_POWER_STATE (R447). -/
  | vfPowerState (p : ParcelId) (present d0 : Bool)
  /-- IDE_STREAM_INSECURE (R329). -/
  | ideStreamInsecure (fn : Option ParcelId)
  /-- CONFIG_REQUEST (R411). -/
  | configRequest (fn register : Nat)
  /-- REF_DEAD (R391). -/
  | refDead (ref : Fin 2)
  /-- REF_CLEAR (R391). -/
  | refClear (who : Principal) (value : Nat) (goodUs : Nat)
  /-- PLL_COAST (R393). -/
  | pllCoast (d : DomainId)
  /-- REF_SEL (R397). -/
  | refSel (who : Principal) (d : DomainId) (value : Nat)
  /-- SWITCH_COMPLETE (R397). -/
  | switchComplete (d : DomainId)
  /-- SWITCH_HUNG (R398). -/
  | switchHung (d : DomainId)
  /-- FORCE_SWITCH (R400). -/
  | forceSwitch (who : Principal) (d : DomainId) (value : Nat)
  /-- FORCED_SWITCH_DONE (R399). -/
  | forcedSwitchDone (d : DomainId)
  /-- CROSSING_REARM (R406). -/
  | crossingRearm (d : DomainId)
  /-- SSC_CONFIG (R395). -/
  | sscConfig (who : Principal) (value : Nat)
  /-- GATE_STOP (R403). -/
  | gateStop (who : Principal) (d : DomainId) (node : GateNode)
  /-- GATE_START (R403). -/
  | gateStart (who : Principal) (d : DomainId) (node : GateNode)
  /-- SENSOR_CONVERSION (R416). -/
  | sensorConversion (i : SensorId) (result : Conversion)
  /-- SENSOR_CLEAR (R421). -/
  | sensorClear (who : Principal) (i : SensorId) (value : Nat)
  /-- TREATMENT (R420). -/
  | treatment (who : Principal) (i : SensorId) (value : Nat)
  /-- PORT_PARCEL (R371). -/
  | portParcel (who : Principal) (q : PortId) (value : Nat)
  /-- IDLE_FLIT (R372). -/
  | idleFlit (q : PortId) (header : BitVec 128) (body : List Byte) (fecBad : Bool) (fecCorrected : Nat)
  /-- DATA_FLIT (R373). -/
  | dataFlit (q : PortId) (header : BitVec 128) (body : List Byte) (fecBad : Bool) (fecCorrected : Nat)
  /-- CONTROL_FLIT (R372). -/
  | controlFlit (q : PortId) (header : BitVec 128) (body : List Byte) (fecBad : Bool) (fecCorrected : Nat)
  /-- LINK_MANAGEMENT_FLIT (R375). -/
  | linkManagementFlit (q : PortId) (header : BitVec 128) (body : List Byte) (fecBad : Bool) (fecCorrected : Nat) (identify : Option (BitVec 64 × Nat))
  /-- REMOTE_SEND (R379). -/
  | remoteSend (p : ParcelId)
  /-- RPUT (R377). -/
  | rput (q : PortId)
  /-- RGET (R377). -/
  | rget (q : PortId)
  /-- RATOMIC (R377). -/
  | ratomic (q : PortId)
  /-- RSIGNAL (R377). -/
  | rsignal (q : PortId)
  /-- RESPONSE (R380). -/
  | response (q : PortId)
  /-- LANE_LOSS_TIMEOUT (R375). -/
  | laneLossTimeout (q : PortId) (lane : Fin 8)
  /-- PORT_TRAINING_DONE (R375). -/
  | portTrainingDone (q : PortId) (localOk peerOk : BitVec 8)
  /-- DOWN_RETRY (R375). -/
  | downRetry (q : PortId)
  /-- TRAINING_PATTERN_DETECT (R412). -/
  | trainingPatternDetect (q : PortId)
  /-- LOW_POWER_IDLE (R384). -/
  | lowPowerIdle (q : PortId)
  /-- FORCED_BURST (R384). -/
  | forcedBurst (q : PortId)
  /-- PORT_VERDICT (R385). -/
  | portVerdict (q : PortId) (lane : Fin 8) (uW : Nat) (los peer : BitVec 8)
  /-- LAMP_CONTROL (R387). -/
  | lampControl (who : Principal) (m : LampId) (value : Nat)
  /-- LAMP_PRESENCE (R463). -/
  | lampPresence (m : LampId) (present : Bool)
  /-- READ (R439). -/
  | read (tr : Nat) (reqId index sub offset length : Nat)
  /-- WRITE (R439). -/
  | write (tr : Nat) (reqId index sub offset : Nat) (data : List Byte)
  /-- POLL (R437). -/
  | poll (tr : Nat) (reqId ticket : Nat)
  /-- READ_SET (R440). -/
  | readSet (tr : Nat) (reqId : Nat) (entries : List (Nat × Nat))
  /-- SLOW_RESULT_READY (R437). -/
  | slowResultReady (tr : Nat) (ticket : Nat)
  /-- TICKET_EXPIRE (R437). -/
  | ticketExpire (tr : Nat) (ticket : Nat)
  /-- MB_DOORBELL (R443). -/
  | mbDoorbell (p : ParcelId) (length : BitVec 32)
  /-- MB_ACK (R443). -/
  | mbAck (p : ParcelId) (value : BitVec 32)
  /-- FACTORY_AUTH (R456). -/
  | factoryAuth (tr : Nat) (token : Option FactoryToken)
  /-- REGISTER_WRITE (R434). -/
  | registerWrite (fn offset size value : Nat) (tee : Bool)
  /-- ENTDAA (R441). -/
  | entdaa (address : Nat)
  /-- PRIVATE_READ (R441). -/
  | privateRead
  /-- SET_ENDPOINT_ID (R442). -/
  | setEndpointId (tr : Nat) (eid : Nat)
  /-- GET_ENDPOINT_ID (R442). -/
  | getEndpointId (tr : Nat)
  /-- GET_MCTP_VERSION_SUPPORT (R442). -/
  | getMctpVersionSupport (tr : Nat)
  /-- GET_MESSAGE_TYPE_SUPPORT (R442). -/
  | getMessageTypeSupport (tr : Nat)
  /-- GET_VENDOR_DEFINED_MESSAGE_SUPPORT (R442). -/
  | getVendorDefinedMessageSupport (tr : Nat)
  /-- GET_TID (R452). -/
  | getTid (tr : Nat)
  /-- SET_TID (R452). -/
  | setTid (tr : Nat) (tid : Nat)
  /-- GET_PLDM_VERSION (R452). -/
  | getPldmVersion (tr : Nat) (type : Nat)
  /-- GET_PLDM_TYPES (R452). -/
  | getPldmTypes (tr : Nat)
  /-- GET_PLDM_COMMANDS (R452). -/
  | getPldmCommands (tr : Nat) (type : Nat)
  /-- GET_PDR_REPOSITORY_INFO (R453). -/
  | getPdrRepositoryInfo (tr : Nat)
  /-- GET_PDR (R453). -/
  | getPdr (tr : Nat) (handle : Nat)
  /-- GET_SENSOR_READING (R453). -/
  | getSensorReading (tr : Nat) (sensor : Nat)
  /-- GET_STATE_SENSOR_READINGS (R453). -/
  | getStateSensorReadings (tr : Nat) (sensor : Nat)
  /-- SET_EVENT_RECEIVER (R453). -/
  | setEventReceiver (tr : Nat) (eid : Nat)
  /-- QUERY_DEVICE_IDENTIFIERS (R454). -/
  | queryDeviceIdentifiers (tr : Nat)
  /-- GET_FIRMWARE_PARAMETERS (R454). -/
  | getFirmwareParameters (tr : Nat)
  /-- REQUEST_UPDATE (R454). -/
  | requestUpdate (tr : Nat) (maxTransfer : Nat)
  /-- PASS_COMPONENT_TABLE (R454). -/
  | passComponentTable (tr : Nat) (component : Nat) (last : Bool)
  /-- UPDATE_COMPONENT (R454). -/
  | updateComponent (tr : Nat) (component size : Nat) (image : FwImage)
  /-- REQUEST_FIRMWARE_DATA (R454). -/
  | requestFirmwareData (tr : Nat) (length : Nat)
  /-- TRANSFER_COMPLETE (R454). -/
  | transferComplete (tr : Nat) (ok : Bool)
  /-- VERIFY_COMPLETE (R454). -/
  | verifyComplete (tr : Nat)
  /-- APPLY_COMPLETE (R454). -/
  | applyComplete (tr : Nat)
  /-- ACTIVATE_FIRMWARE (R454). -/
  | activateFirmware (tr : Nat)
  /-- GET_STATUS (R454). -/
  | getStatus (tr : Nat)
  /-- CANCEL_UPDATE_COMPONENT (R454). -/
  | cancelUpdateComponent (tr : Nat)
  /-- CANCEL_UPDATE (R454). -/
  | cancelUpdate (tr : Nat)
  /-- PLDM_UNSUPPORTED (R452). -/
  | pldmUnsupported (tr : Nat) (command : Nat)
  /-- SPINE_FAILURE (R314). -/
  | spineFailure (d : DieId)
  /-- BRIDGE_FAILURE (R314). -/
  | bridgeFailure
  /-- START_INTERFACE_REQUEST (R328). -/
  | startInterfaceRequest (tr : Nat) (p : ParcelId)
  /-- GET_DEVICE_INTERFACE_REPORT (R328). -/
  | getDeviceInterfaceReport (tr : Nat) (p : ParcelId)
  /-- MODULE_RESET_N_RISE (R410). -/
  | moduleResetNRise
deriving DecidableEq, Repr

end Sys2Proof
end

