-- ==== Sys2Proof/Decode.lean ====
section
/-! DEFINITION. The opcode table gives no row any bits: a command is an operation or an event, and no word spells one.
So the decoder over the table's bits answers no command for any word. (The 128-bit tile words and 32-bit Celulo words of
the spec are data of the tile and Celulo rows, decoded where those rows issue: Machine/TileWord.lean, Operands.lean and
the Celulo files.) -/

namespace Sys2Proof

/-- The command that a word of `nbits` bits spells by the table's bits: none, since no row has bits. -/
def decodeTableWord (_nbits _w : Nat) : Option Instr := none

end Sys2Proof
end

