-- ==== Sys2Proof/Machine/Float.lean ====
section
/-! DEFINITION. Exact binary values and their rounding (03_formats.md R47, R48, R59, R61, R63): a value is NaN, an
infinity, or a sign, a natural mantissa and a power of two, so products and sums are exact until one explicit
rounding to a format. -/

namespace Sys2Proof.Machine

/-- An exact value of floating-point arithmetic: `fin s m e` is (-1)^s * m * 2^e, with both zeros. -/
inductive FVal where
  | nan
  | inf (neg : Bool)
  | fin (neg : Bool) (man : Nat) (exp : Int)
deriving DecidableEq, Repr

/-- Rounding of a magnitude; the first three are the rounding field of Table 3.7, `up` is the rounding away from
zero that the magnitude slot of R91 uses. -/
inductive Rnd where
  | rne | rtz | rna | up
deriving DecidableEq, Repr

/-- Table 3.7: the rounding field; 3 is reserved. -/
def Rnd.ofField : Nat → Option Rnd
  | 0 => some .rne
  | 1 => some .rtz
  | 2 => some .rna
  | _ => none

/-- `m / 2^k` rounded to a natural number. -/
def roundShift (r : Rnd) (m k : Nat) : Nat :=
  if k = 0 then m else
  let q := m >>> k
  let rem := m % 2 ^ k
  let half := 2 ^ (k - 1)
  match r with
  | .rtz => q
  | .rne => if half < rem || (rem = half && q % 2 = 1) then q + 1 else q
  | .rna => if half ≤ rem then q + 1 else q
  | .up => if rem = 0 then q else q + 1

/-- `m * 2^e` rounded to a natural number. -/
def roundNat (r : Rnd) (m : Nat) (e : Int) : Nat :=
  match e with
  | .ofNat k => m <<< k
  | .negSucc k => roundShift r m (k + 1)

namespace FVal

/-- Positive zero. -/
def zero : FVal := .fin false 0 0

/-- The value of an integer; zero is +0. -/
def ofInt (i : Int) : FVal := .fin (i < 0) i.natAbs 0

def isNan : FVal → Bool
  | .nan => true
  | _ => false

def isInf : FVal → Bool
  | .inf _ => true
  | _ => false

def isFin : FVal → Bool
  | .fin .. => true
  | _ => false

def isZero : FVal → Bool
  | .fin _ m _ => m = 0
  | _ => false

def sign : FVal → Bool
  | .nan => false
  | .inf s => s
  | .fin s _ _ => s

def neg : FVal → FVal
  | .nan => .nan
  | .inf s => .inf (!s)
  | .fin s m e => .fin (!s) m e

def abs : FVal → FVal
  | .nan => .nan
  | .inf _ => .inf false
  | .fin _ m e => .fin false m e

/-- The exact product; 0 * infinity is NaN (R59). -/
def mul : FVal → FVal → FVal
  | .nan, _ => .nan
  | _, .nan => .nan
  | .inf s, .inf t => .inf (s != t)
  | .inf s, .fin t m _ => if m = 0 then .nan else .inf (s != t)
  | .fin s m _, .inf t => if m = 0 then .nan else .inf (s != t)
  | .fin s m e, .fin t n f => .fin (s != t) (m * n) (e + f)

/-- A magnitude with its sign as an integer. -/
def toSigned (s : Bool) (m : Nat) : Int := if s then -(m : Int) else (m : Int)

/-- The exact sum; infinity minus infinity is NaN, and an exact zero sum is +0 unless both terms are -0
(IEEE 754 round-to-nearest). -/
def add : FVal → FVal → FVal
  | .nan, _ => .nan
  | _, .nan => .nan
  | .inf s, .inf t => if s = t then .inf s else .nan
  | .inf s, .fin .. => .inf s
  | .fin .., .inf t => .inf t
  | .fin s m e, .fin t n f =>
    if m = 0 && n = 0 then .fin (s && t) 0 0
    else if m = 0 then .fin t n f
    else if n = 0 then .fin s m e
    else
      let g := min e f
      let i := toSigned s (m <<< (e - g).toNat) + toSigned t (n <<< (f - g).toNat)
      .fin (i < 0) i.natAbs g

def sub (a b : FVal) : FVal := add a b.neg

/-- Multiply by a power of two, exactly. -/
def scaleBy (k : Int) : FVal → FVal
  | .fin s m e => .fin s m (e + k)
  | x => x

/-- The floor of log2 of a finite non-zero magnitude. -/
def floorLog2 : FVal → Int
  | .fin _ m e => (Nat.log2 m : Int) + e
  | _ => 0

/-- Ordering of two values, neither NaN; the zeros compare equal. -/
def lt : FVal → FVal → Bool
  | .nan, _ => false
  | _, .nan => false
  | .inf s, .inf t => s && !t
  | .inf s, .fin .. => s
  | .fin .., .inf t => !t
  | .fin s m e, .fin t n f =>
    let g := min e f
    toSigned s (m <<< (e - g).toNat) < toSigned t (n <<< (f - g).toNat)

def le (a b : FVal) : Bool := !a.isNan && !b.isNan && !lt b a

/-- Equality of values, neither NaN; the zeros are equal. -/
def eqv (a b : FVal) : Bool := le a b && le b a

/-- Is the value below zero in sign and magnitude (so not -0)? -/
def isNegative : FVal → Bool
  | .inf s => s
  | .fin s m _ => s && m != 0
  | .nan => false

/-- The value rounded to an integer by `r` (finite values only; 0 otherwise). -/
def toInt (r : Rnd) : FVal → Int
  | .fin s m e => toSigned s (roundNat r m e)
  | _ => 0

end FVal

/-- How a binary format spends its top codes (Table 3.1). -/
inductive Specials where
  /-- E = all ones: infinity for M = 0, NaN otherwise. -/
  | ieee
  /-- FP8 E4M3: only S.1111.111 is NaN, and there is no infinity. -/
  | e4m3
  /-- Every code is a finite number (FP4, FP6). -/
  | finite
deriving DecidableEq, Repr

/-- A sign-exponent-mantissa format. -/
structure FloatFmt where
  ebits : Nat
  mbits : Nat
  bias : Nat
  specials : Specials
deriving DecidableEq, Repr

namespace FloatFmt

/-- Width in bits. -/
def width (f : FloatFmt) : Nat := 1 + f.ebits + f.mbits

/-- The magnitude code of the largest finite value. -/
def maxCode (f : FloatFmt) : Nat :=
  match f.specials with
  | .ieee => (2 ^ f.ebits - 1) * 2 ^ f.mbits - 1
  | .e4m3 => 2 ^ (f.ebits + f.mbits) - 2
  | .finite => 2 ^ (f.ebits + f.mbits) - 1

/-- The code of infinity with sign `s` (formats with infinities). -/
def infCode (f : FloatFmt) (s : Bool) : Nat :=
  (if s then 2 ^ (f.ebits + f.mbits) else 0) + (2 ^ f.ebits - 1) * 2 ^ f.mbits

/-- The canonical NaN of Table 3.2: the top mantissa bit alone, but for the two FP8 formats, whose canonical NaN
is 0x7F. -/
def nanCode (f : FloatFmt) : Nat :=
  if f.width = 8 then 0x7F else (2 ^ f.ebits - 1) * 2 ^ f.mbits + 2 ^ (f.mbits - 1)

/-- The value of a code (R47). -/
def decode (f : FloatFmt) (code : Nat) : FVal :=
  let s := code.testBit (f.ebits + f.mbits)
  let mag := code % 2 ^ (f.ebits + f.mbits)
  let e := mag >>> f.mbits
  let m := mag % 2 ^ f.mbits
  if f.specials = .ieee && e = 2 ^ f.ebits - 1 then
    if m = 0 then .inf s else .nan
  else if f.specials = .e4m3 && mag = 2 ^ (f.ebits + f.mbits) - 1 then .nan
  else if e = 0 then .fin s m (1 - (f.bias : Int) - f.mbits)
  else .fin s (2 ^ f.mbits + m) ((e : Int) - f.bias - f.mbits)

/-- The magnitude code that a non-negative exact value rounds to, with the exponent range taken as unbounded
above: a result over `maxCode` is out of range (R63, R64). -/
def roundMag (f : FloatFmt) (r : Rnd) (m : Nat) (e : Int) : Nat :=
  if m = 0 then 0 else
  let qmin : Int := 1 - (f.bias : Int) - f.mbits
  let q := max ((Nat.log2 m : Int) + e - f.mbits) qmin
  (q - qmin).toNat * 2 ^ f.mbits + roundNat r m (e - q)

/-- Sign bit and magnitude code joined. -/
def join (f : FloatFmt) (s : Bool) (mag : Nat) : Nat := (if s then 2 ^ (f.ebits + f.mbits) else 0) + mag

end FloatFmt

/-- FP32 (Table 3.1). -/
def fmtFp32 : FloatFmt := ⟨8, 23, 127, .ieee⟩
/-- BF16. -/
def fmtBf16 : FloatFmt := ⟨8, 7, 127, .ieee⟩
/-- FP16. -/
def fmtFp16 : FloatFmt := ⟨5, 10, 15, .ieee⟩
/-- FP8 E5M2. -/
def fmtE5m2 : FloatFmt := ⟨5, 2, 15, .ieee⟩
/-- FP8 E4M3. -/
def fmtE4m3 : FloatFmt := ⟨4, 3, 7, .e4m3⟩
/-- FP6 E3M2. -/
def fmtE3m2 : FloatFmt := ⟨3, 2, 3, .finite⟩
/-- FP6 E2M3. -/
def fmtE2m3 : FloatFmt := ⟨2, 3, 1, .finite⟩
/-- FP4 E2M1. -/
def fmtE2m1 : FloatFmt := ⟨2, 1, 1, .finite⟩

/-- Arithmetic rounding to a format with infinities: out of range gives an infinity (R59, R61). -/
def FloatFmt.roundArith (f : FloatFmt) (r : Rnd) : FVal → Nat
  | .nan => f.nanCode
  | .inf s => f.infCode s
  | .fin s m e =>
    let c := f.roundMag r m e
    if f.maxCode < c then f.infCode s else f.join s c

/-- The value of an FP32 word. -/
def f32val (w : Word) : FVal := fmtFp32.decode w.toNat

/-- Round to nearest even to FP32. -/
def f32rne (x : FVal) : Word := BitVec.ofNat 32 (fmtFp32.roundArith .rne x)

/-- The value of an FP32 result after its one rounding. -/
def rne32 (x : FVal) : FVal := f32val (f32rne x)

/-- FP32 sum with one rounding. -/
def f32add (a b : Word) : Word := f32rne (FVal.add (f32val a) (f32val b))
/-- FP32 difference with one rounding. -/
def f32sub (a b : Word) : Word := f32rne (FVal.sub (f32val a) (f32val b))
/-- FP32 product with one rounding. -/
def f32mul (a b : Word) : Word := f32rne (FVal.mul (f32val a) (f32val b))
/-- Fused multiply-add: one rounding (R61). -/
def f32fma (a b c : Word) : Word := f32rne (FVal.add (FVal.mul (f32val a) (f32val b)) (f32val c))

/-- The canonical FP32 NaN (Table 3.2). -/
def f32nan : Word := 0x7FC00000
/-- FP32 one. -/
def f32one : Word := 0x3F800000

end Sys2Proof.Machine
end

