-- ==== Sys2Proof/Machine/Flags.lean ====
section
/-! DEFINITION. The sticky format flags of Table 3.11 (03_formats.md R64, R69) and how arithmetic raises them. -/

namespace Sys2Proof.Machine

/-- The six sticky flags, bits 0 to 5 of FORMAT_STATUS (Table 3.11). -/
abbrev FFlags := BitVec 6

/-- A conversion clamped a finite value or an infinity. -/
def flSaturated : FFlags := 0x01
/-- A NaN converted to a format without NaN. -/
def flNanLost : FFlags := 0x02
/-- A product, sum or conversion produced an infinity from finite inputs. -/
def flInfProduced : FFlags := 0x04
/-- Arithmetic or a conversion produced NaN from non-NaN inputs. -/
def flNanProduced : FFlags := 0x08
/-- A scale of 0xFF was read or generated. -/
def flScaleNan : FFlags := 0x10
/-- A TERN2 code 0b10 was read. -/
def flTernReserved : FFlags := 0x20

/-- The flags that an operation raises: an infinity made from finite inputs, a NaN made from non-NaN inputs
(Table 3.11 bits 2 and 3). -/
def arithFlags (inputs : List FVal) (result : FVal) : FFlags :=
  (if result.isInf && inputs.all FVal.isFin then flInfProduced else 0) |||
  (if result.isNan && !inputs.any FVal.isNan then flNanProduced else 0)

/-- FORMAT_STATUS after engine `e` of the tile raised `f` (Table 3.11: bit 8 + e when engine e raised any flag). -/
def formatStatusAfter (old : Word) (e : Nat) (f : FFlags) : Word :=
  if f = 0 then old else old ||| f.setWidth 32 ||| ((1 : Word) <<< (8 + e))

end Sys2Proof.Machine
end

