-- ==== Sys2Proof/Machine/Tab.lean ====
section
/-! DEFINITION. Sparse tables: a list of (key, value) pairs with strictly rising keys. `Tab.set d` keeps the one
canonical form in which no listed value equals the value `d` that an unlisted key reads as; byte memories are
tables of bytes (`Host.Cell` lists) with `d = 0`. -/

namespace Sys2Proof.Machine

/-- A table keyed by natural numbers; the list's keys rise strictly. -/
abbrev Tab (α : Type) := List (Nat × α)

/-- The value listed at key `k`, if any. -/
def Tab.find {α : Type} : Tab α → Nat → Option α
  | [], _ => none
  | (j, v) :: t, k => if j = k then some v else Tab.find t k

/-- The value at key `k`; an unlisted key reads as `d`. -/
def Tab.get {α : Type} (d : α) (t : Tab α) (k : Nat) : α :=
  match Tab.find t k with
  | some v => v
  | none => d

/-- List `v` at key `k`, in place of what was listed there. -/
def Tab.put {α : Type} : Tab α → Nat → α → Tab α
  | [], k, v => [(k, v)]
  | (j, w) :: t, k, v =>
    if k < j then (k, v) :: (j, w) :: t
    else if k = j then (k, v) :: t
    else (j, w) :: Tab.put t k v

/-- Drop key `k`. -/
def Tab.erase {α : Type} : Tab α → Nat → Tab α
  | [], _ => []
  | (j, w) :: t, k => if k = j then Tab.erase t k else (j, w) :: Tab.erase t k

/-- Write `v` at key `k`, keeping the canonical form: a value equal to the default is not listed. -/
def Tab.set {α : Type} [DecidableEq α] (d : α) (t : Tab α) (k : Nat) (v : α) : Tab α :=
  if v = d then Tab.erase t k else Tab.put t k v

/-- Apply `f` to the value at key `k` and write it back. -/
def Tab.modify {α : Type} [DecidableEq α] (d : α) (t : Tab α) (k : Nat) (f : α → α) : Tab α :=
  Tab.set d t k (f (Tab.get d t k))

/-- Apply `f` to every listed value, dropping what comes to equal the default. -/
def Tab.update {α : Type} [DecidableEq α] (d : α) (f : Nat → α → α) : Tab α → Tab α
  | [] => []
  | (k, v) :: t => if f k v = d then Tab.erase (Tab.update d f t) k else (k, f k v) :: Tab.update d f t

/-- Every key of the half-open range `[lo, hi)` back to the unlisted value. -/
def Tab.clear {α : Type} (t : Tab α) (lo hi : Nat) : Tab α :=
  t.filter (fun c => c.1 < lo || hi ≤ c.1)

/-- The canonical form: keys rise strictly and no listed value is the default. -/
def Tab.wf {α : Type} [DecidableEq α] (d : α) : Tab α → Bool
  | [] => true
  | [(_, v)] => v != d
  | (j, v) :: (k, w) :: t => j < k && v != d && Tab.wf d ((k, w) :: t)

/-- A byte memory in canonical form: an unlisted address reads 0. -/
abbrev Mem := Tab (BitVec 8)

/-- One byte of a memory. -/
def Mem.read (m : Mem) (a : Nat) : BitVec 8 := Tab.get 0 m a

/-- Write one byte. -/
def Mem.write (m : Mem) (a : Nat) (v : BitVec 8) : Mem := Tab.set 0 m a v

/-- `n` bytes from address `a` upward. -/
def Mem.readBytes (m : Mem) (a : Nat) : Nat → List (BitVec 8)
  | 0 => []
  | n + 1 => Mem.read m a :: Mem.readBytes m (a + 1) n

/-- Write a run of bytes from address `a` upward. -/
def Mem.writeBytes (m : Mem) (a : Nat) : List (BitVec 8) → Mem
  | [] => m
  | b :: bs => Mem.writeBytes (Mem.write m a b) (a + 1) bs

/-- A little-endian value of `n` bytes from address `a` (R431: all multi-byte values are little-endian). -/
def Mem.readNat (m : Mem) (a : Nat) : Nat → Nat
  | 0 => 0
  | n + 1 => (Mem.read m a).toNat + 256 * Mem.readNat m (a + 1) n

/-- The `n` low bytes of `v`, lowest first. -/
def bytesOfNat (v : Nat) : Nat → List (BitVec 8)
  | 0 => []
  | n + 1 => BitVec.ofNat 8 v :: bytesOfNat (v / 256) n

/-- The value that little-endian bytes spell. -/
def natOfBytes : List (BitVec 8) → Nat
  | [] => 0
  | b :: bs => b.toNat + 256 * natOfBytes bs

/-- Write the `n` low bytes of `v` from address `a` upward. -/
def Mem.writeNat (m : Mem) (a n v : Nat) : Mem := Mem.writeBytes m a (bytesOfNat v n)

/-- `n` bytes from address `a` back to 0. -/
def Mem.zero (m : Mem) (a n : Nat) : Mem := Tab.clear m a (a + n)

/-- The canonical form of a byte memory. -/
def Mem.wf (m : Mem) : Bool := Tab.wf 0 m

end Sys2Proof.Machine
end

