-- ==== Sys2Proof/Machine/Formats.lean ====
section
/-! DEFINITION. The fifteen element formats (03_formats.md): codes and values (R47), where each is allowed
(Table 3.3), packing (R52), TERN2 (R53), block scales (R54 to R56, R66) and conversion (R62 to R65).
Readings and choices: log entries 13, 14 and 15. -/

namespace Sys2Proof.Machine

/-- The formats of Table 3.1, in the order of their codes 0x0 to 0xE. -/
inductive Fmt where
  | tern2 | int4 | fp4 | fp6e2m3 | fp6e3m2 | int8 | uint8 | e4m3 | e5m2 | int16 | fp16 | bf16 | fp32 | int32 | e8m0
deriving DecidableEq, Repr

/-- The format of a code; 0xF is reserved (R8). -/
def Fmt.ofCode : Nat → Option Fmt
  | 0x0 => some .tern2 | 0x1 => some .int4 | 0x2 => some .fp4 | 0x3 => some .fp6e2m3 | 0x4 => some .fp6e3m2
  | 0x5 => some .int8 | 0x6 => some .uint8 | 0x7 => some .e4m3 | 0x8 => some .e5m2 | 0x9 => some .int16
  | 0xA => some .fp16 | 0xB => some .bf16 | 0xC => some .fp32 | 0xD => some .int32 | 0xE => some .e8m0
  | _ => none

/-- Element width in bits (Table 3.1). -/
def Fmt.bits : Fmt → Nat
  | .tern2 => 2
  | .int4 | .fp4 => 4
  | .fp6e2m3 | .fp6e3m2 => 6
  | .int8 | .uint8 | .e4m3 | .e5m2 | .e8m0 => 8
  | .int16 | .fp16 | .bf16 => 16
  | .fp32 | .int32 => 32

/-- The sign-exponent-mantissa shape of a floating-point format. -/
def Fmt.float? : Fmt → Option FloatFmt
  | .fp4 => some fmtE2m1
  | .fp6e2m3 => some fmtE2m3
  | .fp6e3m2 => some fmtE3m2
  | .e4m3 => some fmtE4m3
  | .e5m2 => some fmtE5m2
  | .fp16 => some fmtFp16
  | .bf16 => some fmtBf16
  | .fp32 => some fmtFp32
  | _ => none

/-- The integer formats: their width, and whether they are signed. -/
def Fmt.int? : Fmt → Option (Nat × Bool)
  | .int4 => some (4, true)
  | .int8 => some (8, true)
  | .uint8 => some (8, false)
  | .int16 => some (16, true)
  | .int32 => some (32, true)
  | _ => none

/-- Table 3.3, Block scale column: a scale may accompany the format. -/
def Fmt.scalable : Fmt → Bool
  | .tern2 | .int4 | .fp4 | .fp6e2m3 | .fp6e3m2 | .int8 | .uint8 | .e4m3 | .e5m2 => true
  | _ => false

/-- Table 3.3, Array weight: the formats WLOAD accepts. -/
def Fmt.weightOk : Fmt → Bool
  | .int16 | .fp32 | .int32 | .e8m0 => false
  | _ => true

/-- Table 3.3, Array activation: the formats STREAM accepts. -/
def Fmt.activationOk : Fmt → Bool
  | .tern2 | .int16 | .fp32 | .int32 | .e8m0 => false
  | _ => true

/-- 16-bit float mode (Table 4.1). -/
def Fmt.is16f : Fmt → Bool
  | .fp16 | .bf16 => true
  | _ => false

/-- Two's complement reading of a `w`-bit code. -/
def intOfCode (w : Nat) (signed : Bool) (c : Nat) : Int :=
  if signed && c.testBit (w - 1) then (c : Int) - 2 ^ w else (c : Int)

/-- The value of an element code before scaling, with the flag a reserved TERN2 code raises (R47, R53). -/
def Fmt.value (f : Fmt) (c : Nat) : FVal × FFlags :=
  match f with
  | .tern2 =>
    match c % 4 with
    | 1 => (.fin false 1 0, 0)
    | 2 => (.zero, flTernReserved)
    | 3 => (.fin true 1 0, 0)
    | _ => (.zero, 0)
  | .e8m0 => if c % 256 = 255 then (.nan, 0) else (.fin false 1 ((c % 256 : Nat) - 127), 0)
  | _ =>
    match f.float? with
    | some ff => (ff.decode (c % 2 ^ f.bits), 0)
    | none =>
      match f.int? with
      | some (w, sg) => (.ofInt (intOfCode w sg (c % 2 ^ w)), 0)
      | none => (.zero, 0)

/-- An element with its E8M0 scale applied exactly: 0xFF makes it NaN whatever the code is (R54, R56). -/
def Fmt.scaledValue (f : Fmt) (c : Nat) (scale : Option Nat) : FVal × FFlags :=
  match scale with
  | none => f.value c
  | some e =>
    if e = 255 then (.nan, flScaleNan)
    else
      let (v, fl) := f.value c
      (v.scaleBy ((e : Int) - 127), fl)

/-- Element `i` of a packed row that starts at byte `base` (R52: from the least significant bit upward). -/
def elemCode (m : Mem) (f : Fmt) (base i : Nat) : Nat :=
  let off := i * f.bits
  (Mem.readNat m (base + off / 8) ((off % 8 + f.bits + 7) / 8) >>> (off % 8)) % 2 ^ f.bits

/-- Bytes that `n` packed elements take; FP6 rows take whole 3-byte groups (R52). -/
def Fmt.rowBytes (f : Fmt) (n : Nat) : Nat :=
  match f with
  | .fp6e2m3 | .fp6e3m2 => (n + 3) / 4 * 3
  | _ => (n * f.bits + 7) / 8

/-- Codes packed from the least significant bit upward, as one number. -/
def packCodes (bits : Nat) : List Nat → Nat
  | [] => 0
  | c :: cs => c % 2 ^ bits + 2 ^ bits * packCodes bits cs

/-- Codes packed into the whole bytes of a row (R52); the bits above the last element are those of `pad`. -/
def Fmt.packRow (f : Fmt) (codes : List Nat) (pad : Nat) : List Byte :=
  bytesOfNat (packCodes f.bits codes + pad * 2 ^ (f.bits * codes.length)) (f.rowBytes codes.length)

/-- Clamp an integer to the range of an integer format; `true` where it clamped. -/
def clampInt (w : Nat) (signed : Bool) (i : Int) : Int × Bool :=
  let lo : Int := if signed then -(2 ^ (w - 1) : Int) else 0
  let hi : Int := if signed then 2 ^ (w - 1) - 1 else 2 ^ w - 1
  if i < lo then (lo, true) else if hi < i then (hi, true) else (i, false)

/-- The two's complement code of an integer. -/
def codeOfInt (w : Nat) (i : Int) : Nat := (i % (2 ^ w : Int)).toNat

/-- Conversion to an integer format (Table 3.8): rounded by the field, then saturated. -/
def convertInt (w : Nat) (signed : Bool) (r : Rnd) (x : FVal) : Nat × FFlags :=
  match x with
  | .nan => (0, flNanLost)
  | .inf s =>
    let i : Int := if s then (if signed then -(2 ^ (w - 1) : Int) else 0) else (if signed then 2 ^ (w - 1) - 1 else 2 ^ w - 1)
    (codeOfInt w i, flSaturated)
  | .fin .. =>
    let (i, c) := clampInt w signed (x.toInt r)
    (codeOfInt w i, if c then flSaturated else 0)

/-- Conversion to a floating-point format (Table 3.8). -/
def convertFloat (f : FloatFmt) (r : Rnd) (sat : Bool) (x : FVal) : Nat × FFlags :=
  match x with
  | .nan => if f.specials = .finite then (0, flNanLost) else (f.nanCode, 0)
  | .inf s =>
    match f.specials with
    | .ieee => (f.infCode s, 0)
    | .e4m3 => if sat then (f.join s f.maxCode, flSaturated) else (f.nanCode, flNanProduced)
    | .finite => (f.join s f.maxCode, flSaturated)
  | .fin s m e =>
    let c := f.roundMag r m e
    if c ≤ f.maxCode then (f.join s c, 0)
    else if sat || f.specials = .finite then (f.join s f.maxCode, flSaturated)
    else if f.specials = .e4m3 then (f.nanCode, flNanProduced)
    else (f.infCode s, flInfProduced)

/-- A value to the E8M0 code of floor(log2 |x|) + 127, clamped to 0x00 to 0xFE; zero gives 0x00, NaN or an
infinity gives 0xFF (R64). -/
def convertE8m0 (x : FVal) : Nat × FFlags :=
  match x with
  | .nan => (0xFF, 0)
  | .inf _ => (0xFF, flNanProduced)
  | .fin _ m _ =>
    if m = 0 then (0, 0)
    else
      let e := x.floorLog2 + 127
      if e < 0 then (0, 0) else if 254 < e then (254, flSaturated) else (e.toNat, 0)

/-- TERN2 by R66: rounded to an integer, clamped to -1 to +1. -/
def convertTern (r : Rnd) (x : FVal) : Nat × FFlags :=
  match x with
  | .nan => (0, flNanLost)
  | .inf s => (if s then 3 else 1, flSaturated)
  | .fin .. =>
    let i := x.toInt r
    if i < -1 then (3, flSaturated) else if 1 < i then (1, flSaturated)
    else if i = -1 then (3, 0) else if i = 1 then (1, 0) else (0, 0)

/-- The conversion of Tables 3.7 and 3.8 to any format. -/
def Fmt.convert (f : Fmt) (r : Rnd) (sat : Bool) (x : FVal) : Nat × FFlags :=
  match f with
  | .tern2 => convertTern r x
  | .e8m0 => convertE8m0 x
  | _ =>
    match f.float? with
    | some ff => convertFloat ff r sat x
    | none =>
      match f.int? with
      | some (w, sg) => convertInt w sg r x
      | none => (0, 0)

/-- Table 3.9: the largest exponent used for a generated scale. -/
def Fmt.emax : Fmt → Int
  | .tern2 => 0
  | .int4 | .fp4 | .fp6e2m3 => 2
  | .fp6e3m2 => 4
  | .int8 => 6
  | .uint8 => 7
  | .e4m3 => 8
  | .e5m2 => 15
  | _ => 0

/-- The largest magnitude of a list of finite values. -/
def maxMag : List FVal → FVal
  | [] => .zero
  | x :: xs => let m := maxMag xs; if FVal.lt m x.abs then x.abs else m

/-- Convert a list element by element, joining the flags. -/
def Fmt.convertAll (f : Fmt) (r : Rnd) (sat : Bool) (k : Int) : List FVal → List Nat × FFlags
  | [] => ([], 0)
  | x :: xs =>
    let (c, fl) := f.convert r sat (x.scaleBy k)
    let (cs, fls) := Fmt.convertAll f r sat k xs
    (c :: cs, fl ||| fls)

/-- R66: one block's generated scale and element codes, with the flags raised. -/
def Fmt.genScale (f : Fmt) (r : Rnd) (xs : List FVal) : Nat × List Nat × FFlags :=
  if xs.any (fun x => x.isNan || x.isInf) then (0xFF, xs.map (fun _ => 0), flScaleNan)
  else
    let amax := maxMag xs
    let scale : Int :=
      if amax.isZero then 127 else max 0 (min 254 (amax.floorLog2 - f.emax + 127))
    let (codes, fl) := f.convertAll r true (127 - scale) xs
    (scale.toNat, codes, fl)

/-- Cut a list into blocks of `k` (R54: blocks of 32 along the row), with fuel the list's length. -/
def chunks {α : Type} (k : Nat) : Nat → List α → List (List α)
  | 0, _ => []
  | _ + 1, [] => []
  | n + 1, x :: xs => (x :: xs).take k :: chunks k n ((x :: xs).drop k)

/-- The blocks of 32 elements of a row (R54). -/
def blocks32 {α : Type} (xs : List α) : List (List α) := chunks 32 xs.length xs

/-- R51: the weight and activation formats that the array pairs. -/
def pairsOk (w a : Fmt) : Bool :=
  if w.is16f then a = w
  else w.weightOk && (a.activationOk && !a.is16f)

/-- R57: the integer path, both operands unscaled and each INT4, INT8, UINT8 or INT16. -/
def integerPath (w a : Fmt) (wScaled aScaled : Bool) : Bool :=
  let i (f : Fmt) : Bool := f = .int4 || f = .int8 || f = .uint8 || f = .int16
  i w && i a && !wScaled && !aScaled

/-- R67: FP32 split into BF16 hi and lo. -/
def splitFp32 (x : Word) : Nat × Nat :=
  match f32val x with
  | .fin .. =>
    let hi := x.toNat >>> 16
    let lo := FVal.sub (f32val x) (fmtBf16.decode hi)
    (hi, fmtBf16.roundArith .rne lo)
  | v => (fmtBf16.roundArith .rne v, 0)

/-- R68: INT16 split into INT8 hi and UINT8 lo. -/
def splitInt16 (x : BitVec 16) : Nat × Nat := ((x.sshiftRight 8).toNat % 256, x.toNat % 256)

end Sys2Proof.Machine
end

