-- ==== Sys2Proof/Machine/Events.lean ====
section
/-! DEFINITION. What the block sends to the outside: the entries of `State.sent`.
Readings and choices: log entry 7. -/

namespace Sys2Proof.Machine

/-- Status codes of a response (18_legend_interfaces.md Table 18.3). -/
inductive Status where
  | ok | pending | absent | access | refused | sealed | type | unavailable | busy | badTicket | badMessage
deriving DecidableEq, Repr

/-- The code of Table 18.3. -/
def Status.code : Status → Nat
  | .ok => 0 | .pending => 1 | .absent => 2 | .access => 3 | .refused => 4 | .sealed => 5 | .type => 6
  | .unavailable => 7 | .busy => 8 | .badTicket => 9 | .badMessage => 0xA

/-- One measurement block in a MEASUREMENTS response (13_cartouche_security.md Table 13.3): its index, and a digest or
a raw value. -/
structure MeasBlock where
  index : Nat
  raw : Bool
  value : List (BitVec 8)
deriving DecidableEq, Repr

/-- Answers of the SPDM responder (R324 to R330). Their wire form is SPDM's, which the spec does not give. -/
inductive Spdm where
  /-- VERSION: 1.3 and 1.2 -/
  | version (versions : List (Nat × Nat))
  /-- CAPABILITIES: names of R324 and the CT exponent -/
  | capabilities (names : List String) (ctExponent : Nat)
  | algorithms (names : List String)
  /-- DIGESTS of the chains in the slots -/
  | digests (slots : List (Nat × BitVec 384))
  /-- CERTIFICATE: slot, the portion and the bytes that remain -/
  | certificate (slot : Nat) (portion : List (BitVec 8)) (remainder : Nat)
  | challengeAuth (slot : Nat) (nonce : BitVec 256) (signature : BitVec 768)
  /-- MEASUREMENTS: the blocks, signed or not -/
  | measurements (blocks : List MeasBlock) (signature : Option (BitVec 768))
  | keyExchangeRsp (session : Nat) (publicPoint : BitVec 776) (signature : BitVec 768)
  | finishRsp (session : Nat)
  | keyUpdateAck (session : Nat)
  | heartbeatAck (session : Nat)
  | endSessionAck (session : Nat)
  | chunkSendAck (seq : Nat)
  | chunkResponse (seq : Nat) (portion : List (BitVec 8))
  /-- TDISP: the state after a lock, start or stop (0 CONFIG_UNLOCKED, 1 CONFIG_LOCKED, 2 RUN, 3 ERROR), with the nonce
  of a lock -/
  | tdisp (fn state : Nat) (nonce : Option (BitVec 256))
  /-- TDISP error: the request is not accepted in the interface's state -/
  | tdispError (fn : Nat)
  /-- interface report: the ranges of the function's BAR (offset, bytes), all TEE-accessible -/
  | interfaceReport (fn : Nat) (ranges : List (Nat × Nat))
  | ideKmAck (stream : Nat)
  | errorUnsupported (code : Nat)
  | errorSessionLimit
  | errorInvalid
deriving DecidableEq, Repr

/-- PLDM completion codes that the spec names (R452, R454, R455). -/
inductive PldmCode where
  | success | unsupportedCmd | alreadyInUpdateMode | notInUpdateMode | invalidState | error | verifyFailed
deriving DecidableEq, Repr

/-- Something the block has sent. -/
inductive Sent where
  /-- a completion entry written to a host ring (Table 11.6): parcel, ring, slot, entry; on the IDE stream of the parcel's
  function, and marked as TEE traffic or not (R330) -/
  | completion (p r : Nat) (slot : BitVec 32) (entry : BitVec 256) (tee : Bool)
  /-- an MSI-X vector (Table 18.9): function (0 the physical one, 1 + p virtual function p) and vector -/
  | msix (fn vector : Nat)
  /-- the controller's answer to an atomic operation of a parcel's steward: the old value, or an error response -/
  | atomicReply (p : Nat) (old : Option Nat)
  /-- the status that answers a write of an object: requester, index, subindex, status -/
  | status (who : Principal) (index sub : Nat) (st : Status)
  /-- the answer to a Legend request (Table 18.5): transport, REQ_ID, INDEX, SUB, status, TICKET, data -/
  | legend (tr reqId index sub : Nat) (st : Status) (ticket : Nat) (data : List (BitVec 8))
  /-- an In-Band Interrupt on I3C (R437, R441) -/
  | ibi
  /-- an SPDM response released on a transport (R326) -/
  | spdm (tr : Nat) (r : Spdm)
  /-- a PLDM response on a transport: command by its row's name, completion code, data -/
  | pldm (tr : Nat) (command : String) (code : PldmCode) (data : List Nat)
  /-- PlatformEventMessage for a sensor (R453): transport, sensor, new state or reading -/
  | pldmEvent (tr sensor : Nat) (value : Int)
  /-- RequestFirmwareData: component, offset, length (R454) -/
  | requestFirmwareData (tr component offset len : Nat)
  /-- an MCTP control response: command by its row's name, values -/
  | mctp (tr : Nat) (command : String) (values : List Nat)
  /-- an Unsupported Request completion from a function (R329): 1 + p for virtual function p -/
  | unsupported (fn : Nat)
  /-- the bytes that an I3C private read returned, or a NACK -/
  | i3c (data : Option (List (BitVec 8)))
  /-- the answer to a PCIe configuration request: none for Configuration Request Retry Status -/
  | config (fn register : Nat) (value : Option Nat)
  /-- a flit sent on a Rhumb port: header and body -/
  | flit (q : Nat) (header : BitVec 128) (body : List (BitVec 8))
  /-- idle flits sent on every lane for 4 us (R384) -/
  | burst (q : Nat)
  /-- a chunk of an export bundle written to host memory (R337): parcel, its descriptor fields (DEST, LEN), ciphertext and tag -/
  | exportHeader (p : Nat) (address : BitVec 64) (header : BitVec 2048) (tee : Bool)
  | exportChunk (p index dest len : Nat) (cipher : List (BitVec 8)) (tag : BitVec 128) (tee : Bool)
deriving DecidableEq, Repr

end Sys2Proof.Machine
end

