-- ==== Sys2Proof/Machine/State.lean ====
section
/-! DEFINITION. The whole state of the block as plain data, and the state right after power-on reset.
Readings and choices: log entries 1, 2, 3, 6 and 7. -/

namespace Sys2Proof.Machine

/-! ## Tiles (chapters 4 to 7) -/

/-- ENGINE_STATUS.STATE (Table 5.6). -/
inductive EngineMode where
  | idle | issuing | waitCairn | waitQueue | halted | ended | faulted | peerHalted
deriving DecidableEq, Repr

/-- The code of Table 5.6. -/
def EngineMode.code : EngineMode → Nat
  | .idle => 0 | .issuing => 1 | .waitCairn => 2 | .waitQueue => 3
  | .halted => 4 | .ended => 5 | .faulted => 6 | .peerHalted => 7

/-- One open counted loop (R145): its body, its trip count and the trips completed. -/
structure LoopFrame where
  first : Nat
  last : Nat
  trips : Nat
  done : Nat
deriving DecidableEq, Repr

/-- A post to be made: the tile (global number), the cairn and the increment (R113). -/
structure Post where
  tile : Nat
  cairn : Nat
  inc : Nat
deriving DecidableEq, Repr

/-- A copy descriptor in a copy channel's queue (R150, R173): its 512 bits, its effective bases, its post, the runs
already started, the runs still in flight, and the last cycle in which bytes of it land. -/
structure CopyDesc where
  raw : BitVec 512
  localBase : Nat
  farBase : Nat
  post : Option Post
  started : Nat
  inFlight : Nat
  landAt : Nat
deriving DecidableEq, Repr

/-- A run in flight between a scratchpad and a stack channel (R190, R472): `pos` bytes of it have moved. -/
structure Run where
  /-- place in the order in which the channel started its runs -/
  seq : Nat
  /-- the descriptor's place among all the channel has enqueued in the leg -/
  desc : Nat
  volatile : Bool
  scratch : Nat
  channel : Nat
  offset : Nat
  len : Nat
  pos : Nat
deriving DecidableEq, Repr

/-- One copy channel of a LOAD or STORE engine (5.4). -/
structure CopyChan where
  /-- descriptors not yet complete, oldest first; at most 16 -/
  queue : List CopyDesc
  /-- descriptors completed since launch: the completion count -/
  completed : Nat
  runSeq : Nat
  runs : List Run
  halted : Bool
  /-- the latest cycle in which entries of the queue became free, and how many did (R118) -/
  freed : Nat × Nat
deriving DecidableEq, Repr

/-- A CLAUNCH that has issued and not made its completion post (R236). -/
structure Launch where
  id : Nat
  /-- units that have not yet completed it -/
  remaining : List Nat
  post : Option Post
deriving DecidableEq, Repr

/-- A destination range of an instruction that has not yet retired (R141). -/
structure PendingDst where
  lo : Nat
  hi : Nat
  retireAt : Nat
deriving DecidableEq, Repr

/-- One engine of a tile (5.1 to 5.6). Cycles count from the leg's launch. -/
structure Engine where
  mode : EngineMode
  pc : BitVec 12
  /-- END has issued and waits under R110 -/
  ending : Bool
  /-- U32 retire counter (R126) -/
  retired : Nat
  /-- open loops, innermost first; at most four -/
  loops : List LoopFrame
  /-- O1 to O7 (R135); an unlisted register holds 0 -/
  offs : Tab (BitVec 40)
  waitCairn : BitVec 6
  waitChannel : BitVec 2
  /-- target of the WAIT, or the free entries of the WAITQ, in progress -/
  waitTarget : Nat
  /-- the cycle in which that wait issued -/
  waitSince : Nat
  /-- the first cycle in which the engine may issue its next instruction (R140) -/
  nextIssue : Nat
  /-- the last retire cycle of its earlier instructions (R140) -/
  retireAt : Nat
  pendingDst : List PendingDst
  /-- the instruction queue (R106): words fetched from `pc` onward and not yet issued, at most 64 -/
  queue : List (BitVec 128)
  /-- the cycle in which the fetch unit's next word arrives (R106) -/
  fetchAt : Nat
  /-- the end of the latest occupancy that counts as busy, and the cycle from which an END's is not yet counted (R307) -/
  busyTo : Nat
  busyFrom : Nat
  /-- copy channels 0 to 3 of a LOAD or STORE engine -/
  chans : Tab CopyChan
  launches : List Launch
  /-- RETIRE_LAST (Table 5.5) -/
  retireLast : BitVec 32
  /-- FAULT_RECORD (Table 5.7) -/
  faultRecord : BitVec 64
  /-- ENGINE_STATUS at the published snapshot (R125) -/
  statusSnap : BitVec 32
  /-- RETIRE_LAST at the published snapshot -/
  retireSnap : BitVec 32
deriving DecidableEq, Repr

/-- An idle copy channel. -/
def CopyChan.idle : CopyChan :=
  { queue := [], completed := 0, runSeq := 0, runs := [], halted := false, freed := (0, 0) }

/-- An engine as reset leaves it (Table 5.5 defaults). -/
def Engine.idle : Engine :=
  { mode := .idle, pc := 0, ending := false, retired := 0, loops := [], offs := [], waitCairn := 0, waitChannel := 0,
    waitTarget := 0, waitSince := 0, nextIssue := 0, retireAt := 0, pendingDst := [], queue := [], fetchAt := 0, busyTo := 0,
    busyFrom := 0, chans := [], launches := [],
    retireLast := 0, faultRecord := 0xE00, statusSnap := 0, retireSnap := 0 }

/-- State of a weight plane (4.3). -/
inductive PlaneMode where
  | empty | loading | ready
deriving DecidableEq, Repr

/-- A weight plane (R77, R78, R90): weights and scales by output column, and the closure column. -/
structure Plane where
  mode : PlaneMode
  /-- the cycle at which a LOADING plane is READY -/
  readyAt : Nat
  /-- the first cycle at which no row slot may still read it (R79) -/
  freeAt : Nat
  fmt : Nat
  kUsed : Nat
  nUsed : Nat
  scaled : Bool
  /-- element codes: per output column, lanes 0 to K_USED - 1 -/
  weights : List (List Nat)
  /-- E8M0 codes: per output column, four blocks of 32 lanes -/
  scales : List (List Nat)
  /-- c[k] of the integer path -/
  closeInt : List Word
  /-- c[k] of the float path -/
  closeFp : List Word
  /-- a[k] of the float path -/
  closeMag : List Word
deriving DecidableEq, Repr

/-- An EMPTY plane, every weight, scale and closure register 0 (R81). -/
def Plane.empty : Plane :=
  { mode := .empty, readyAt := 0, freeAt := 0, fmt := 0, kUsed := 0, nUsed := 0, scaled := false, weights := [],
    scales := [], closeInt := [], closeFp := [], closeMag := [] }

/-- A group of rows that a closure error makes suspect until the boundary (R99, R100). -/
structure SuspectRows where
  /-- the leg's place among the legs that have run in its parcel in the tick -/
  leg : Nat
  retireIndex : Nat
  group : Nat
  /-- bit m: row m of the group -/
  rows : BitVec 64
deriving DecidableEq, Repr

/-- Closure-check state of a tile (4.7 to 4.9). -/
structure Closure where
  /-- CLOSURE_ERROR, CLOSURE_HARD, CHECKER_SILENT, CHECKER_STUCK (Table 4.9) -/
  error : Bool
  hard : Bool
  silent : Bool
  stuck : Bool
  /-- ERROR_THIS_TICK and ERRORS_IN_WINDOW at the published snapshot -/
  errorThisTick : Bool
  errorsInWindow : Nat
  errorTicks : Nat
  last : BitVec 64
  rows : BitVec 64
  tol : BitVec 16
  skipped : Nat
  plantedSkipped : Nat
  /-- the ticks of the latest error ticks, latest first; at most three (R101) -/
  history : List Nat
  /-- a closure error, and a skipped comparison, in the tick in progress -/
  errorNow : Bool
  skippedNow : Bool
  suspects : List SuspectRows
  /-- comparators (0 to 128) that do not report, and that report equal pairs (R471) -/
  silentCmp : List Nat
  stuckCmp : List Nat
deriving DecidableEq, Repr

/-- The closure state after reset (Table 4.8 defaults). -/
def Closure.init : Closure :=
  { error := false, hard := false, silent := false, stuck := false, errorThisTick := false, errorsInWindow := 0,
    errorTicks := 0, last := 0, rows := 0, tol := 0x010C, skipped := 0, plantedSkipped := 0, history := [],
    errorNow := false, skippedNow := false, suspects := [], silentCmp := [], stuckCmp := [] }

/-- A data row of the STREAM group in progress: its element codes, its scale codes and its column sums (R82, R91). -/
structure StreamRow where
  codes : List Nat
  scales : List Nat
  outs : List Word
deriving DecidableEq, Repr

/-- One tile. -/
structure Tile where
  /-- engines 0 to 4 (0 to 3 in a vector tile) -/
  engines : Tab Engine
  /-- operand scratchpad: 768 KiB (array) or 384 KiB (vector) -/
  scratch : Mem
  /-- accumulator: 49,152 entries of 32 bits (R86), array tiles only -/
  acc : Tab Word
  /-- instruction memory: 4,096 words of 128 bits -/
  imem : Tab (BitVec 128)
  /-- 64 cairns (R111) -/
  cairns : Tab Nat
  /-- the posts added in the latest cycle in which posts were added: cycle, cairn, increment (R114) -/
  arrivals : List (Nat × Nat × Nat)
  plane0 : Plane
  plane1 : Plane
  /-- the leg launch record (Table 5.2) -/
  launch : BitVec 1024
  /-- FORMAT_STATUS (Table 3.11) -/
  formatStatus : Word
  closure : Closure
  /-- rows of the STREAM group whose closure slots have not yet issued (R84, R91) -/
  group : List StreamRow
  /-- storage errors not yet corrected: byte of scratchpad, accumulator entry, instruction word; 1 correctable,
  2 uncorrectable (14_errors.md R349) -/
  scratchErr : Tab Nat
  accErr : Tab Nat
  imemErr : Tab Nat
deriving DecidableEq, Repr

/-- A tile after reset: SRAM reads 0 (16_clocks_startup.md Table 16.6), every object at its default. -/
def Tile.init : Tile :=
  { engines := [], scratch := [], acc := [], imem := [], cairns := [], arrivals := [], plane0 := .empty, plane1 := .empty,
    launch := 0, formatStatus := 0, closure := .init, group := [], scratchErr := [], accErr := [], imemErr := [] }

/-! ### Work in flight: what an instruction reads and writes in the cycles after its issue -/

/-- A WLOAD in progress (R77, R154, R155): its place in the engine's sequence, and its fields. -/
structure WloadOp where
  pc : BitVec 12
  index : Nat
  plane : Nat
  fmt : Nat
  src : Nat
  /-- bytes between reads -/
  stride : Nat
  reads : Nat
  kUsed : Nat
  nUsed : Nat
  scl : Option Nat
deriving DecidableEq, Repr

/-- A STREAM in progress (R82 to R84, R157, R158). -/
structure StreamOp where
  pc : BitVec 12
  index : Nat
  template : Nat
  plane : Nat
  fmt : Nat
  src : Nat
  /-- bytes between rows -/
  stride : Nat
  rows : Nat
  scl : Option Nat
  base : Nat
  pitch : Nat
  set : Bool
  shift : Nat
  /-- the cycle in which slot 0 issues -/
  start : Nat
deriving DecidableEq, Repr

/-- A DRAIN in progress (R160, R161). -/
structure DrainOp where
  pc : BitVec 12
  index : Nat
  base : Nat
  pitch : Nat
  cols : Nat
  fp : Bool
  fmt : Nat
  rnd : Nat
  sat : Bool
  shift : Nat
  /-- the tile written, and the first byte of row 0 -/
  tile : Nat
  dst : Nat
  /-- bytes between rows -/
  stride : Nat
  scl : Option Nat
  /-- cycles per row (R160: p) -/
  perRow : Nat
  start : Nat
deriving DecidableEq, Repr

/-- The verdicts on one group of rows (R92). -/
structure GroupVerdict where
  /-- cell columns whose column check failed, ascending -/
  cols : List Nat
  /-- rows whose row check failed -/
  rows : List Nat
  /-- the closure-row comparison failed -/
  closureRow : Bool
  skipped : Bool
deriving DecidableEq, Repr

/-- What happens in one cycle of an instruction or a transfer in progress. -/
inductive Work where
  /-- read `j` of a WLOAD of tile `t` (R77) -/
  | weightRead (t : Nat) (x : WloadOp) (j : Nat)
  /-- the slot of row `m` of a STREAM (R75, R82) -/
  | streamRow (t : Nat) (x : StreamOp) (m : Nat)
  /-- the last closure slot of group `g` of a STREAM (R84, R91) -/
  | closure (t : Nat) (x : StreamOp) (g : Nat)
  /-- the accumulator entries of a row are written, or added to (R76, R82) -/
  | accRow (t : Nat) (x : StreamOp) (m : Nat) (int : Bool) (vals : List Word)
  /-- the verdicts of a group stand (R76, R99) -/
  | verdict (t index template group rows : Nat) (v : GroupVerdict)
  /-- row `m` of a DRAIN is read and converted (R160) -/
  | drainRow (t : Nat) (x : DrainOp) (m : Nat)
  /-- bytes land in a tile's scratchpad (R142, R180) -/
  | scratch (t a : Nat) (bytes : List Byte)
  /-- bytes land in a unit's data SRAM (R237) -/
  | sram (u o : Nat) (bytes : List Byte)
deriving DecidableEq, Repr

/-- Work in flight: the cycle of the leg in which it happens, and its rank among the work of one cycle: reads have rank
0, and of two writes to one byte the one of the higher rank holds (R142, R180). -/
structure Flight where
  cyc : Nat
  rank : Nat
  work : Work
deriving DecidableEq, Repr


/-! ## Channels, staging lines and Celulo units (chapters 8 to 10) -/

/-- TG_STATUS.STATE (Table 8.13). -/
inductive TgState where
  | idle | waiting | writing | reading | done | stopped | refused
deriving DecidableEq, Repr

/-- The code of Table 8.13. -/
def TgState.code : TgState → Nat
  | .idle => 0 | .waiting => 1 | .writing => 2 | .reading => 3 | .done => 4 | .stopped => 5 | .refused => 6

/-- The traffic generator of a channel (8.7). -/
structure TrafficGen where
  control : BitVec 32
  offset : BitVec 64
  length : BitVec 64
  seed : BitVec 32
  state : TgState
  passFailed : Bool
  loopsDone : Nat
  mismatches : Nat
  firstFail : Nat
  laneErrors : Tab Nat
  corrected : Nat
  ticks : Nat
  /-- the fields of the run in progress, as they stood at its start boundary: TG_CONTROL, TG_OFFSET, TG_LENGTH, TG_SEED -/
  runControl : BitVec 32
  runOffset : Nat
  runLength : Nat
  runSeed : BitVec 32
  /-- the tick in which the start was accepted -/
  startTick : Nat
  /-- bytes of the current pass that have moved -/
  pos : Nat
  /-- the run has written to the banks -/
  wrote : Bool
  /-- a STOP or a stopping mismatch waits for the end of the turn; the last loop has ended -/
  stopping : Bool
  finished : Bool
  /-- the granule (offset / 64) that carries the injected error of this loop, and whether its correction was seen (R214) -/
  injectAt : Option Nat
  injectSeen : Bool
deriving DecidableEq, Repr

/-- Table 8.8 defaults. -/
def TrafficGen.init : TrafficGen :=
  { control := 0x6820, offset := 0, length := 0x60000000, seed := 1, state := .idle, passFailed := false,
    loopsDone := 0, mismatches := 0, firstFail := 0, laneErrors := [], corrected := 0, ticks := 0,
    runControl := 0, runOffset := 0, runLength := 0, runSeed := 0, startTick := 0, pos := 0, wrote := false,
    stopping := false, finished := false, injectAt := none, injectSeen := false }

/-- One channel's controller (chapter 8) and the Celulo objects of the channel (9.9). -/
structure Channel where
  trained : Bool
  clearing : Bool
  laneDegraded : Bool
  /-- LANE_MAP (Table 8.10) -/
  laneMap : BitVec 16
  /-- TRAIN_RESULT (Table 8.11) -/
  trainResult : BitVec 32
  swapThreshold : BitVec 16
  /-- LANE_CORRECTED: per lane, since module reset -/
  laneCorrected : Tab Nat
  /-- the counts of R210, and the segment of the last correction counted for each lane -/
  laneWindow : Tab Nat
  laneLastSeg : Tab Nat
  /-- lanes whose count has reached the threshold and that wait for the next refresh slot (R210) -/
  swapDue : List Nat
  /-- 64 KiB page numbers waiting to be cleared, oldest first, with the tick of the enqueue; at most 256 -/
  clearQueue : List (Nat × Nat)
  pagesCleared : Nat
  scrubRow : Nat
  scrubPasses : Nat
  refreshRow : Nat
  channelClears : Nat
  tg : TrafficGen
  /-- the requester granted last: tile * 64 + engine * 8 + copy channel + 1, or 0 for none (R191) -/
  lastGrant : Nat
  /-- the previous turn was a write (R190) -/
  lastWrite : Bool
  /-- 64 Celulo instruction SRAM words of all its units: the chart's image (R232) -/
  image : Tab (BitVec 32)
  /-- the units' registers have been written 0 (R232) since power-on -/
  unitsCleared : Bool
  celuloFault : BitVec 64
  celuloFormatStatus : BitVec 32
  celuloExceptions : Nat
  /-- CELULO_STATUS at the published snapshot -/
  celuloStatusSnap : BitVec 32
  /-- retired 2 MiB pages, in order (R365), retired pairs, and RETIRE_RESULT -/
  retiredPages : List Nat
  retiredPairs : List Nat
  retireResult : BitVec 32
  /-- a RETRAIN is under way, and step 7's clearing follows it -/
  training : Bool
deriving DecidableEq, Repr

/-- A channel after reset (Tables 8.8 and 9.15 defaults). -/
def Channel.init : Channel :=
  { trained := false, clearing := false, laneDegraded := false, laneMap := 0x3FFF, trainResult := 0, swapThreshold := 64,
    laneCorrected := [], laneWindow := [], laneLastSeg := [], swapDue := [], clearQueue := [], pagesCleared := 0, scrubRow := 0,
    scrubPasses := 0, refreshRow := 0, channelClears := 0, tg := .init, lastGrant := 0, lastWrite := false, image := [],
    unitsCleared := false, celuloFault := 0, celuloFormatStatus := 0, celuloExceptions := 0, celuloStatusSnap := 0,
    retiredPages := [], retiredPairs := [], retireResult := 0, training := true }

/-- A staging line (R199): a copy of one 2 KiB segment, given by its channel and segment number, with the granules
of the copy that are in error. -/
structure Line where
  channel : Nat
  segment : Nat
  data : Mem
  errs : Tab Nat
deriving DecidableEq, Repr

/-- A read or write stream of a Celulo unit (R219, R221): the next pair address and the granules left. -/
structure Stream where
  addr : Nat
  left : Nat
deriving DecidableEq, Repr

/-- A granule in the read-stream FIFO: its pair address, its bytes not yet taken, whether it was uncorrectable, and
whether the record of that is written. -/
structure FifoGranule where
  addr : Nat
  bytes : List Byte
  bad : Bool
  logged : Bool
deriving DecidableEq, Repr

/-- A granule in the write queue: its pair address and the bytes appended so far; eligible at 64. -/
structure QueuedGranule where
  addr : Nat
  bytes : List Byte
deriving DecidableEq, Repr

/-- A launch for a unit (R153, R234): entry, argument, and the CLAUNCH it belongs to (tile, launch id). -/
structure UnitLaunch where
  entry : BitVec 11
  arg : Word
  tile : Nat
  id : Nat
deriving DecidableEq, Repr

/-- How a unit is stopped, if it is (R243, R244). -/
inductive UnitHalt where
  | none
  /-- double-fault lock -/
  | lock
  /-- a direct cause, with its program counter and INFO -/
  | direct (cause pc : Nat) (info : Word)
deriving DecidableEq, Repr

/-- One Celulo unit (Table 9.1). -/
structure CUnit where
  /-- s0 to s15; unlisted registers hold 0 -/
  s : Tab Word
  /-- v0 to v7 -/
  v : Tab (BitVec 128)
  fcw : BitVec 32
  /-- the next instruction index; above 2047 where execution has run past the last, or ERET has gone there (R245) -/
  pc : BitVec 32
  loops : List LoopFrame
  inHandler : Bool
  shadowPc : BitVec 11
  shadowCause : BitVec 8
  halt : UnitHalt
  running : Option UnitLaunch
  pendingLaunch : Option UnitLaunch
  openRead : Option Stream
  pendingRead : Option Stream
  fifo : List FifoGranule
  writeStream : Option Stream
  writeQueue : List QueuedGranule
  /-- frames since the last restart, modulo 5 (R193, R194) -/
  frame : Nat
  data : Mem
  dataErr : Tab Nat
  instrErr : Tab Nat
  /-- DONE has been reached and waits for the write queue (R238) -/
  finishing : Bool
  /-- the Celulo cycle from which its busy cycles are not yet counted (R307), and the first in which the next instruction may
  issue -/
  startCyc : Nat
  nextIssue : Nat
  /-- results not usable in the cycle after their issue (R229): s0 to s15 as 0 to 15, v0 to v7 as 16 to 23, data SRAM line i
  as 32 + i; the first cycle in which they are, and whether a VDOT made them -/
  ready : List (Nat × Nat × Bool)
deriving DecidableEq, Repr

/-- An idle unit whose format control word is `f` and whose other registers and SRAM are 0. -/
def CUnit.idle (f : BitVec 32) : CUnit :=
  { s := [], v := [], fcw := f, pc := 0, loops := [], inHandler := false, shadowPc := 0, shadowCause := 0, halt := .none,
    running := none, pendingLaunch := none, openRead := none, pendingRead := none, fifo := [], writeStream := none,
    writeQueue := [], frame := 0, data := [], dataErr := [], instrErr := [], finishing := false,
    startCyc := 0, nextIssue := 0, ready := [] }

/-! ## Parcels: meridian status, plan, job control, accounting, bisection (chapters 2, 5, 12) -/

/-- Leg states (Table 2.4); Composed legs stand in `Parcel.nextPlan`. -/
inductive LegState where
  | composed | committed | running | late | complete | faulted
deriving DecidableEq, Repr

/-- What a leg of a plan does. -/
inductive LegKind where
  /-- a decode layer leg of a step -/
  | decode (step layer : Nat)
  /-- a prefill layer leg of a chunk of a Gazetteer entry -/
  | prefill (entry chunk layer : Nat)
  /-- the save leg and the restore leg of a preemption (R301) -/
  | save
  | restore
deriving DecidableEq, Repr

/-- A leg of a plan. -/
structure Leg where
  kind : LegKind
  template : Nat
  /-- the Gazetteer entries whose rows it carries, in batch order -/
  batch : List Nat
  cost : Nat
  state : LegState
  /-- the leg recomputes a suspect step (R34) -/
  recompute : Bool
  /-- the tick for which it was composed -/
  tick : Nat
  /-- its end-of-leg dump is written (R128) -/
  dumped : Bool
  /-- entries of its batch whose rows are without effect (R274, R275) -/
  masked : List Nat
  /-- its launch record is written (R108) -/
  launched : Bool
deriving DecidableEq, Repr

/-- Parcel states (Table 12.2). -/
inductive ParcelMode where
  | free | defined | sealing | sealed | releasing
deriving DecidableEq, Repr

/-- The code of Table 12.2. -/
def ParcelMode.code : ParcelMode → Nat
  | .free => 0 | .defined => 1 | .sealing => 2 | .sealed => 3 | .releasing => 4

/-- Job states (Table 12.2). -/
inductive JobMode where
  | none | starting | running | draining | saving | preempted | tornDown
deriving DecidableEq, Repr

/-- The code of Table 12.2. -/
def JobMode.code : JobMode → Nat
  | .none => 0 | .starting => 1 | .running => 2 | .draining => 3 | .saving => 4 | .preempted => 5 | .tornDown => 6

/-- PARCEL_TICK_STATUS and its companions (Tables 2.7 and 2.8). -/
structure ParcelTick where
  overrun : Bool
  late : Bool
  overrunCause : Nat
  preemptPending : Bool
  preempted : Bool
  stretchChanged : Bool
  overrunCount : Nat
  overrunTick : Nat
  overrunLeg : Nat
  lateCycles : Nat
deriving DecidableEq, Repr

/-- Table 2.7 defaults. -/
def ParcelTick.init : ParcelTick :=
  { overrun := false, late := false, overrunCause := 0, preemptPending := false, preempted := false,
    stretchChanged := false, overrunCount := 0, overrunTick := 0, overrunLeg := 0, lateCycles := 0 }

/-- Parcel definition and job control (Tables 12.15 to 12.17). -/
structure ParcelCtl where
  mask : BitVec 16
  mode : ParcelMode
  job : JobMode
  /-- PARCEL_STATE at the published snapshot -/
  stateSnap : BitVec 16
  /-- the command held for the next sample, with the principal that wrote it (R294) -/
  held : Option (BitVec 8)
  heldBy : Principal
  /-- a command sampled and valid, applied at the boundary; 0 for none -/
  sampled : BitVec 8
  /-- the command sampled, or the PREEMPT that is pending, is the last one written (Table 12.17) -/
  sampledLast : Bool
  /-- COMMAND_RESULT (Table 12.17) -/
  resultCommand : BitVec 8
  resultOutcome : Nat
  resultTick : Nat
  sealResult : BitVec 8
  jobsStarted : Nat
  saveArea : BitVec 64
  dieSplit : Nat
  teardownRecord : BitVec 64
  /-- an accepted PARCEL_SECTORS mask, in force at the next boundary (R293) -/
  pendingMask : Option (BitVec 16)
  pendingRelease : Bool
  /-- the first failing check of the sealing or starting tick in progress -/
  checkFail : Option Nat
  /-- the teardown's zeroing has ended and the job state follows at the boundary (R305) -/
  tearingDown : Option JobMode
  /-- rw-until-sealed objects refuse writes: from SEALING until FREE, or until a failed sealing ends (R434) -/
  closed : Bool
deriving DecidableEq, Repr

/-- Table 12.15 defaults. -/
def ParcelCtl.init : ParcelCtl :=
  { mask := 0, mode := .free, job := .none, stateSnap := 0, held := none, heldBy := .operator, sampled := 0, sampledLast := false,
    resultCommand := 0, resultOutcome := 0, resultTick := 0, sealResult := 0xFF, jobsStarted := 0, saveArea := 0,
    dieSplit := 0, teardownRecord := 0, pendingMask := none, pendingRelease := false, checkFail := none,
    tearingDown := none, closed := false }

/-- Accounting of a parcel (Table 12.11): accumulators, this tick's counters and the last tick's values are tables
keyed by the subindex 0x02 to 0x17. -/
structure Acct where
  acc : Tab Nat
  cur : Tab Nat
  /-- busy cycles already known that fall in the tick after this one (R307) -/
  next : Tab Nat
  last : Tab Nat
  tick : Nat
  powerW : Nat
  /-- COEFF_SET: 0 before the first snapshot, then the identifier of the set in use (Table 12.11, R428) -/
  coeffSet : Nat
  /-- energy below 1 uJ carried to the next tick, in units of 10^-18 J (R309) -/
  energyCarry : Nat
  /-- energy (10^-18 J) and wall length (ns) of the ticks since the last multiple of 64 (R310) -/
  energy64 : Nat
  wall64 : Nat
deriving DecidableEq, Repr

/-- Table 12.11 defaults. -/
def Acct.init : Acct :=
  { acc := [], cur := [], next := [], last := [], tick := 0, powerW := 0, coeffSet := 0, energyCarry := 0, energy64 := 0, wall64 := 0 }

/-- Bisection objects (Table 5.8). -/
structure Bisect where
  base : BitVec 64
  scope : BitVec 8
  tick : Nat
  template : Nat
  count : Nat
deriving DecidableEq, Repr

/-- Table 5.8 defaults. -/
def Bisect.init : Bisect := { base := 0, scope := 0, tick := 0, template := 0, count := 0 }

/-! ## Serving (chapter 11) -/

/-- States of a Gazetteer entry (Table 11.2). -/
inductive GazState where
  | free | prefill | decode | ended | register | datum
deriving DecidableEq, Repr

/-- The code of Table 11.2. -/
def GazState.code : GazState → Nat
  | .free => 0 | .prefill => 1 | .decode => 2 | .ended => 3 | .register => 4 | .datum => 5

/-- A Gazetteer entry (Table 11.1), with what the steward keeps beside it: its columns, its prompt buffer, its stop
tokens and how far its prefill has been composed and completed. -/
structure GazEntry where
  state : GazState
  cls : Nat
  token : Nat
  ring : Nat
  unchecked : Bool
  recomputed : Bool
  boundMissed : Bool
  promptLen : Nat
  genLimit : Nat
  prefilled : Nat
  generated : Nat
  insetSlot : Nat
  insetVersion : Nat
  handle : Nat
  sharedPos : Nat
  admitTick : Nat
  firstBound : Nat
  tokenBound : Nat
  lastTick : Nat
  hostTag : BitVec 32
  /-- the submission entry it came from -/
  raw : BitVec 512
  cols : List Nat
  promptBuf : Option Nat
  /-- prefill legs composed, and legs complete with clean verdicts -/
  composedLegs : Nat
  doneLegs : Nat
  /-- tokens sampled with clean verdicts; those delivered are GENERATED -/
  sampled : Nat
  /-- ticks that a preemption adds to the bound of the next delivery (R43) -/
  boundExtra : Nat
  /-- the handle cited, by its entry -/
  handleEntry : Option Nat
  /-- a RELEASE_DATUM has taken effect -/
  releasing : Bool
deriving DecidableEq, Repr

/-- A FREE entry. -/
def GazEntry.init : GazEntry :=
  { state := .free, cls := 0, token := 0, ring := 0, unchecked := false, recomputed := false, boundMissed := false,
    promptLen := 0, genLimit := 0, prefilled := 0, generated := 0, insetSlot := 0, insetVersion := 0, handle := 0,
    sharedPos := 0, admitTick := 0, firstBound := 0, tokenBound := 0, lastTick := 0, hostTag := 0, raw := 0, cols := [],
    promptBuf := none, composedLegs := 0, doneLegs := 0, sampled := 0, boundExtra := 0, handleEntry := none,
    releasing := false }

/-- A completion held for a ring (R266): its entry without PHASE and LATE_DELIVERY, and what R277 judges it by: its kind
of bound (none, the first token's, a later token's), the bound, and the tick of the request's previous delivery. -/
structure HeldComp where
  entry : BitVec 256
  token : Nat
  judged : Bool
  first : Bool
  bound : Nat
  prev : Nat
deriving DecidableEq, Repr

/-- A ring block (Table 11.3). -/
structure Ring where
  base : BitVec 64
  sizeLog2 : Nat
  enable : Bool
  head : BitVec 32
  tail : BitVec 32
  intModeration : BitVec 16
  /-- completions held for the ring, oldest first -/
  held : List HeldComp
  /-- the ring's vector: entries added since it last fired, and the tick of that firing (R448) -/
  added : Bool
  lastVector : Option Nat
deriving DecidableEq, Repr

/-- Table 11.3 reset values. -/
def Ring.init : Ring :=
  { base := 0, sizeLog2 := 6, enable := false, head := 0, tail := 0, intModeration := 0, held := [], added := false,
    lastVector := none }

/-- A request whose prompt is being read or that is pending (R269, R271). -/
structure PendReq where
  raw : BitVec 512
  buf : Nat
  /-- the position from which its prompt is read (R269) -/
  shared : Nat
  /-- 0 while the prompt is read; then the tick in which it became pending -/
  since : Option Nat
  /-- ticks it has waited, PREEMPTED ticks left out -/
  waited : Nat
deriving DecidableEq, Repr

/-- What the steward decided when it evaluated the oldest pending request (R36, R271, R284). -/
inductive Evaluation where
  | none
  /-- admitted: its prompt buffer, its entry, the column numbers it will hold, and the handle's entry that it cites -/
  | admission (buf entry : Nat) (cols : List Nat) (handle : Option Nat)
  /-- refused at S5 for a change read in the tick before -/
  | refuse (buf reason : Nat)
deriving DecidableEq, Repr

/-- An inset image in the parcel: the region of the slot that holds it and its digest. -/
structure InsetImage where
  region : Nat
  digest : BitVec 384
deriving DecidableEq, Repr

/-- An inset slot (R285): the staged image, the current version (0 for none), the last version given, and the live
versions with their images. -/
structure InsetSlot where
  staged : Option InsetImage
  current : Nat
  last : Nat
  live : List (Nat × InsetImage)
deriving DecidableEq, Repr

/-- A slot with nothing in it. -/
def InsetSlot.init : InsetSlot := { staged := none, current := 0, last := 0, live := [] }

/-- A datum release, inset publish or inset retire read in some tick (R272 S4). -/
structure ReadChange where
  opcode : Nat
  tick : Nat
  ring : Nat
  hostTag : BitVec 32
  arg : Nat
deriving DecidableEq, Repr

/-- The decode step in flight (R276). -/
structure DecStep where
  no : Nat
  batch : List Nat
  /-- entries of the batch that have ended: the legs composed from then on do not name them (R274) -/
  masked : List Nat
  bucket : Nat
  /-- the next layer to compose -/
  nextLayer : Nat
deriving DecidableEq, Repr

/-- The input of a layer leg that the steward keeps for a request until the leg's verdicts are clean (R278). -/
structure KeptInput where
  kind : LegKind
  entry : Nat
deriving DecidableEq, Repr

/-- Serving state of a parcel. -/
structure Serving where
  qd : Nat
  qp : Nat
  chunk : Nat
  nLayers : Nat
  heads : Nat
  stripeFirst : BitVec 16
  stripeCount : BitVec 16
  promptArea : BitVec 64
  requestArea : BitVec 64
  clearOnFree : Bool
  /-- COLUMNS_TOTAL, COLUMNS_FREE and MAX_LOAD at the snapshot -/
  columnsTotalSnap : Nat
  columnsFreeSnap : Nat
  maxLoadSnap : Nat
  nextToken : Nat
  refusedTotal : Nat
  tokensDelivered : Nat
  lateDeliveries : Nat
  insets : Tab InsetSlot
  gaz : Tab GazEntry
  gazSnap : Tab GazEntry
  subRings : Tab Ring
  compRings : Tab Ring
  /-- the submission ring from which the next entry is taken (R270) -/
  nextRing : Nat
  pending : List PendReq
  eval : Evaluation
  cancelled : List (BitVec 32)
  changes : List ReadChange
  step : Option DecStep
  steps : Nat
  /-- tokens sampled by the legs of the tick in progress: the leg's place in `finished`, entry, token id -/
  sampled : List (Nat × Nat × Nat)
  /-- legs of the tick in progress that are Complete -/
  finished : List Leg
  /-- legs to recompute in the first plan composed after the parcel catches up (R100) -/
  recompute : List Leg
  /-- inputs of layer legs that are kept (R278) -/
  kept : List KeptInput
  /-- columns that wait for their clears (R282): column number, and the pages (channel, page) not yet enqueued -/
  clearingCols : List (Nat × List (Nat × Nat))
  deferred : List Leg
  /-- OVERRUN has been cleared, and the bounds are renewed at the next boundary (R40) -/
  renew : Bool
deriving DecidableEq, Repr

/-- Table 11.10 defaults. -/
def Serving.init : Serving :=
  { qd := 0, qp := 0, chunk := 0, nLayers := 0, heads := 0, stripeFirst := 64, stripeCount := 320, promptArea := 0,
    requestArea := 0, clearOnFree := false, columnsTotalSnap := 0, columnsFreeSnap := 0, maxLoadSnap := 0, nextToken := 1, refusedTotal := 0,
    tokensDelivered := 0, lateDeliveries := 0, insets := [], gaz := [], gazSnap := [], subRings := [], compRings := [],
    nextRing := 0, pending := [], eval := .none, cancelled := [], changes := [], step := none, steps := 0, sampled := [],
    finished := [], recompute := [], kept := [], clearingCols := [], deferred := [], renew := false }

/-! ## Errors and the log (chapter 14) -/

/-- A leaky bucket (R352, R353). -/
structure Bucket where
  level : Nat
  overflowed : Bool
  inEpisode : Bool
  corrected : Nat
  overflowCount : Nat
deriving DecidableEq, Repr

/-- An empty bucket. -/
def Bucket.init : Bucket := { level := 0, overflowed := false, inEpisode := false, corrected := 0, overflowCount := 0 }

/-- An error record before it has a sequence number (Table 14.4). -/
structure LogRec where
  code : Nat
  source : Nat
  parcel : Nat
  inst : Nat
  sub : Nat
  tick : Nat
  template : Nat
  detail : Nat
  /-- the cycle of the tick in which its event happened, where the event has one (R360) -/
  cyc : Option Nat
deriving DecidableEq, Repr

/-- The error log and the error summary (14.4). -/
structure ErrorLog where
  /-- stored records by slot, with their sequence numbers -/
  slots : Tab (LogRec × Nat)
  queue : List LogRec
  nextSeq : Nat
  ackSeq : Nat
  lost : Nat
  readSeq : Nat
  summary : BitVec 32
  intEnable : BitVec 32
  tileBuckets : Tab Bucket
  chanBuckets : Tab Bucket
  stewBuckets : Tab Bucket
  /-- the buckets at the published snapshot (R355): key source * 65536 + number -/
  bucketSnap : Tab Bucket
  depth : Nat
  pendingDepth : Option Nat
deriving DecidableEq, Repr

/-- Table 14.7 defaults. -/
def ErrorLog.init : ErrorLog :=
  { slots := [], queue := [], nextSeq := 1, ackSeq := 0, lost := 0, readSeq := 1, summary := 0, intEnable := 0x000FFFFF,
    tileBuckets := [], chanBuckets := [], stewBuckets := [], bucketSnap := [], depth := 16, pendingDepth := none }

/-! ## Meridian and sectors (chapters 2 and 12) -/

/-- A tick boundary whose steps 1 to 3 are done, and whose step 4 or 5 a row of its own has still to do (Table 2.3): the tick
that ended; the parcels with a teardown under way, LATE, counting towards pending limits, and with UNCHECKED rows; the tiles
with a hard closure fault. -/
structure OpenBoundary where
  tick : Nat
  down : List Nat
  wasLate : List Nat
  ticked : List Nat
  unch : List Nat
  hard : List Nat
deriving DecidableEq, Repr

/-- The meridian generator (Table 2.1). -/
structure Meridian where
  /-- the generator has been started (R20, R411) -/
  started : Bool
  tick : Nat
  steps : Nat
  pendingSteps : Option Nat
  level : Nat
  /-- what is due at the boundary just passed and has its own row: stretch change, bucket leak, lane restart, power
  demand, parcel power -/
  dueStretch : Bool
  dueLeak : Bool
  dueLane : Bool
  dueDemand : Bool
  duePower : Bool
  /-- the tick to which the published snapshot belongs (R28) -/
  snapTick : Nat
  /-- the boundary in progress, while its step 4 or 5 is still to come -/
  opened : Option OpenBoundary
deriving DecidableEq, Repr

/-- Table 2.1 defaults. -/
def Meridian.init : Meridian :=
  { started := false, tick := 0, steps := 8, pendingSteps := none, level := 0, dueStretch := false, dueLeak := false,
    dueLane := false, dueDemand := false, duePower := false, snapTick := 0, opened := none }

/-- Retirement and failure of a sector's parts (Table 12.13); kept across module resets (R312). -/
structure Sector where
  retiredTiles : BitVec 32
  retiredChannels : BitVec 24
  stewardRetired : Bool
  /-- a byte of the steward core's memories that is in error: 0 none, 1 correctable, 2 uncorrectable (R349) -/
  coreErr : Nat
deriving DecidableEq, Repr

/-- Nothing retired. -/
def Sector.init : Sector := { retiredTiles := 0, retiredChannels := 0, stewardRetired := false, coreErr := 0 }
/-! ## The Cartouche (chapter 13) -/

/-- A clearance certificate: its body (Table 13.10) and its signature. -/
structure Cert where
  body : BitVec 1024
  signature : BitVec 768
deriving DecidableEq, Repr

/-- A delivery in progress (R333): the header it began with, the content key it unwrapped, the chunks done and the
plaintext so far. -/
structure Delivery where
  kind : Nat
  slot : Nat
  chunks : Nat
  bundleId : BitVec 64
  key : BitVec 256
  next : Nat
  plain : List Byte
  /-- the region of the slot that an inset bundle fills -/
  region : Nat
  /-- DELIVERY_ABORT has been written -/
  aborting : Bool
  /-- bytes that the chart's delivery leg may still move in this tick, and those of the next chunk that it has moved in
  earlier ones (R334, R335) -/
  credit : Nat
  moved : Nat
deriving DecidableEq, Repr

/-- An accepted bundle, as measurement block 0x14 lists it. -/
structure Bundle where
  bundleId : BitVec 64
  kind : Nat
  digest : BitVec 384
deriving DecidableEq, Repr

/-- An export in progress (R337): the request, the export content key and the place it has reached. -/
structure Export where
  request : ExportRequest
  key : BitVec 256
  chunk : Nat
  region : Nat
  pos : Nat
deriving DecidableEq, Repr

/-- TDISP states (Table 13.12 TDI_STATE). -/
inductive TdiState where
  | unlocked | locked | run | error
deriving DecidableEq, Repr

/-- The code of Table 13.12. -/
def TdiState.code : TdiState → Nat
  | .unlocked => 0 | .locked => 1 | .run => 2 | .error => 3

/-- Security state of a parcel and of its virtual function (Tables 13.12 and 13.16, R328 to R331). -/
structure ParcelSec where
  /-- DELIVERY_STATUS fields -/
  state : Nat
  chartVerified : Bool
  result : Nat
  tensorId : Nat
  /-- DK_PUBLIC; the private key is known by the number of its draw, 0 for none -/
  dkPublic : BitVec 776
  dk : Nat
  sealNonce : BitVec 64
  sealSerial : BitVec 32
  bytesDelivered : Nat
  delivery : Option Delivery
  usedIds : List (BitVec 64)
  bundles : List Bundle
  chartDigest : BitVec 384
  /-- the parcel's configuration as block 0x10 measures it, at DEFINED and at sealing (R323) -/
  config : List Nat
  exporting : Option Export
  tdi : TdiState
  /-- the selective IDE stream bound to the function is secure -/
  ideSecure : Bool
  ideKey : BitVec 256
  /-- the certificate readable on the function's mailbox until the parcel is next DEFINED (R340) -/
  cert : Option Cert
  /-- the boundary at which the parcel became RELEASING, and whether a tamper event forced it -/
  releaseTick : Nat
  tamperRelease : Bool
deriving DecidableEq, Repr

/-- Table 13.12 defaults. -/
def ParcelSec.init : ParcelSec :=
  { state := 0, chartVerified := false, result := 0, tensorId := 0, dkPublic := 0, dk := 0, sealNonce := 0,
    sealSerial := 0, bytesDelivered := 0, delivery := none, usedIds := [], bundles := [], chartDigest := 0, config := [],
    exporting := none, tdi := .unlocked, ideSecure := false, ideKey := 0, cert := none, releaseTick := 0,
    tamperRelease := false }

/-- An SPDM session (R327): number, transport, and whether FINISH has completed its handshake. -/
structure Session where
  id : Nat
  transport : Nat
  established : Bool
  key : BitVec 256
deriving DecidableEq, Repr

/-- An SPDM response that waits for its fixed latency (R326, Table 13.4). -/
structure SpdmHeld where
  transport : Nat
  latencyMs : Nat
  response : Spdm
deriving DecidableEq, Repr

/-- The Cartouche (Tables 13.9, 13.13 and 13.15). -/
structure Cartouche where
  /-- BOOT_STATUS fields -/
  stage : Nat
  result : Nat
  failImage : Nat
  tamper : BitVec 32
  tamperTick : Nat
  tamperSeen : Bool
  /-- TAMPER_STATUS as the last boot measured it into block 7 (R323) -/
  tamperBoot : BitVec 32
  securityVersion : Nat
  /-- SECURITY_VERSION as the last boot measured it into block 3 (R323) -/
  securityBoot : Nat
  aliasEpoch : BitVec 32
  /-- the alias key and the other keys exist (false once zeroised, R319) -/
  keysAlive : Bool
  certsIssued : Nat
  /-- CLEARANCE_LOG, newest first; at most 16 -/
  clearance : List Cert
  /-- parcels whose tamper-forced clearing a module reset interrupted: the body of the certificate to issue (R341) -/
  tamperDue : List (Nat × BitVec 1024)
  /-- module-wide count of sealings -/
  seals : BitVec 32
  sessions : List Session
  nextSession : Nat
  held : List SpdmHeld
  /-- bytes of a large request collected by CHUNK_SEND, by transport -/
  chunks : Tab (List Byte)
  /-- the link IDE stream is secure, and its key (R330, Table 13.1) -/
  linkIde : Bool
  linkKey : BitVec 256
  /-- a byte of the Cartouche's memories that is in error: 0 none, 1 correctable, 2 uncorrectable (R349) -/
  memErr : Nat
  /-- flash banks: images of the components of Table 18.14, active and inactive; an unlisted one is the factory's -/
  active : Tab FwImage
  inactive : Tab FwImage
  /-- images of the active bank that boot loaded, and whether an activation put them there (R455) -/
  booted : Tab FwImage
  bootedActivated : Bool
  /-- an activation waits until every parcel is FREE (R339); banks have been exchanged by an activation -/
  activation : Bool
deriving DecidableEq, Repr

/-- The Cartouche as power-on reset leaves it. -/
def Cartouche.init : Cartouche :=
  { stage := 0, result := 0, failImage := 0, tamper := 0, tamperTick := 0, tamperSeen := false, tamperBoot := 0, securityVersion := 0, securityBoot := 0,
    aliasEpoch := 0, keysAlive := false, certsIssued := 0, clearance := [], tamperDue := [], seals := 0, sessions := [],
    nextSession := 1, held := [], chunks := [], linkIde := false, linkKey := 0, memErr := 0, active := [], inactive := [], booted := [],
    bootedActivated := false, activation := false }

/-! ## Rhumb links (chapter 15) -/

/-- Port states (Table 15.3). -/
inductive PortMode where
  | dark | waitLight | training | identify | active | down
deriving DecidableEq, Repr

/-- The code of Table 15.3. -/
def PortMode.code : PortMode → Nat
  | .dark => 0 | .waitLight => 1 | .training => 2 | .identify => 3 | .active => 4 | .down => 5

/-- A flit that waits for a credit or for its acknowledgement (R373, R374): kind 1 data or 2 control, OP_TAG, GMASK and
body. -/
structure TxFlit where
  kind : Nat
  seq : Nat
  tag : Nat
  gmask : Nat
  body : List Byte
deriving DecidableEq, Repr

/-- An operation received on a port: its record (first 32 B of Table 15.2) and the data handed up for it. -/
structure RxOp where
  record : BitVec 256
  data : List Byte
deriving DecidableEq, Repr

/-- A Rhumb port (Table 15.6) and its link layer (R372 to R375). -/
structure Port where
  mode : PortMode
  wide : Bool
  half : Bool
  /-- receive lanes that have loss of signal -/
  rxLos : BitVec 8
  /-- PORT_PARCEL: a parcel, 0xFE unbound, 0xFF the operator -/
  owner : Nat
  peerSerial : BitVec 64
  peerPort : Nat
  fecCorrected : Nat
  fecUncorrectable : Nat
  replays : Nat
  linkDowns : Nat
  /-- last valid measurement of each lane, uW -/
  optPower : Tab Nat
  verdict : Nat
  /-- verdicts given in this tick, and whether this tick has a PORT_VERDICT record -/
  tickVerdicts : List Nat
  verdictLogged : Bool
  /-- a valid measurement in the current 64 ticks; a burst is due in the next (R384) -/
  measured : Bool
  burstDue : Bool
  /-- a confirmation burst is ordered for this tick, and for the next -/
  confirm : Bool
  confirmNext : Bool
  parked : Bool
  /-- transmit side: next SEQ, flits not yet acknowledged, flits that wait, credits held -/
  txSeq : Nat
  unacked : List TxFlit
  txWait : List TxFlit
  credits : Nat
  /-- receive side: the next SEQ expected, a replay to ask for, buffers freed since the last header sent -/
  rxSeq : Nat
  replayReq : Bool
  freed : Nat
  tickReplays : Nat
  /-- RX_LOS_LANES of the last header received -/
  peerLos : BitVec 8
  /-- records handed up and not yet served, oldest first -/
  rxOps : List RxOp
  nextTag : Nat
  /-- lanes on which the monitor has read light since WAIT_LIGHT began -/
  lit : BitVec 8
deriving DecidableEq, Repr

/-- A port after reset (Table 15.6 defaults): dark and unbound, all 1,024 receive buffers of the peer free. -/
def Port.init : Port :=
  { mode := .dark, wide := false, half := false, rxLos := 0, owner := 0xFE, peerSerial := 0, peerPort := 0,
    fecCorrected := 0, fecUncorrectable := 0, replays := 0, linkDowns := 0, optPower := [], verdict := 0,
    tickVerdicts := [], verdictLogged := false, measured := false, burstDue := false, confirm := false,
    confirmNext := false, parked := false, txSeq := 0, unacked := [], txWait := [], credits := 1024, rxSeq := 0,
    replayReq := false, freed := 0, tickReplays := 0, peerLos := 0, rxOps := [], nextTag := 0, lit := 0 }

/-- Lamp states (Table 15.6). -/
inductive LampMode where
  | off | lit | failedOpen | service
deriving DecidableEq, Repr

/-- The code of Table 15.6. -/
def LampMode.code : LampMode → Nat
  | .off => 0 | .lit => 1 | .failedOpen => 2 | .service => 3

/-- A lamp module (Table 15.6, R386, R387, R462, R463). -/
structure Lamp where
  mode : LampMode
  feedFibre : BitVec 4
  /-- LAMP_CONTROL: 1 enable, 0 service; a written value acts at the next boundary -/
  control : Nat
  pendingControl : Option Nat
  failures : Nat
  darkUw : BitVec 16
  /-- LAMP_PRESENT_N is low -/
  present : Bool
  /-- TICK of the last LIT verdict of its ports -/
  lastLit : Nat
  /-- LAMP_EN_N is driven low -/
  enabled : Bool
deriving DecidableEq, Repr

/-- Table 15.6 defaults; the lamp is taken as present until LAMP_PRESENCE says otherwise. -/
def Lamp.init : Lamp :=
  { mode := .off, feedFibre := 0, control := 1, pendingControl := none, failures := 0, darkUw := 50, present := true,
    lastLit := 0, enabled := false }

/-- A remote operation that a leg has handed to the Rhumb engine (R378): its list entry with PARAM added, and its place in
program order. -/
structure RemoteOp where
  entry : BitVec 512
  seq : Nat
deriving DecidableEq, Repr

/-- A remote operation that has been sent and has not completed. -/
structure RemoteOut where
  op : RemoteOp
  port : Nat
  tag : Nat
deriving DecidableEq, Repr

/-- A remote counter (R381). -/
structure RemoteCounter where
  arrived : Nat
  consumed : Nat
deriving DecidableEq, Repr

/-- A counter at 0. -/
def RemoteCounter.zero : RemoteCounter := { arrived := 0, consumed := 0 }

/-- The job group and remote operations of a parcel (Table 15.7). -/
structure Remote where
  size : Nat
  position : Nat
  table : BitVec 8192
  fault : Bool
  deferred : Bool
  counters : Tab RemoteCounter
  errors : Nat
  queue : List RemoteOp
  out : List RemoteOut
  nextSeq : Nat
  /-- the port that carried the last operation, by target position (R379) -/
  lastPort : Tab Nat
deriving DecidableEq, Repr

/-- Table 15.7 defaults. -/
def Remote.init : Remote :=
  { size := 1, position := 0, table := 0, fault := false, deferred := false, counters := [], errors := 0, queue := [],
    out := [], nextSeq := 0, lastPort := [] }

/-! ## Clocks, resets and supplies (chapters 16 and 19) -/

/-- State of a reference input (Table 16.10). -/
inductive RefMode where
  | unjudged | alive | dead
deriving DecidableEq, Repr

/-- The code of Table 16.10. -/
def RefMode.code : RefMode → Nat
  | .unjudged => 0 | .alive => 1 | .dead => 2

/-- A clock domain (Table 16.12). -/
structure Domain where
  /-- STATE, 0 to 6 -/
  state : Nat
  ref : Nat
  locked : Bool
  coasting : Bool
  coasted : Bool
  disconnected : Bool
  switchResult : Nat
  gateResult : Nat
  resets : Nat
  /-- the reference that a switch in progress goes to -/
  target : Nat
  /-- the domain has coasted at some time in the tick in progress (R394) -/
  coastTick : Bool
  /-- transfers ended under Table 16.4 since the crossing was disconnected -/
  ended : Nat
  /-- stopped gates: tiles 0 to 31 of a sector, its steward, the domain's own node -/
  tileGates : BitVec 32
  stewardGate : Bool
  ownGate : Bool
deriving DecidableEq, Repr

/-- Table 16.12 defaults. -/
def Domain.init : Domain :=
  { state := 0, ref := 0, locked := false, coasting := false, coasted := false, disconnected := false, switchResult := 0,
    gateResult := 0, resets := 0, target := 0, coastTick := false, ended := 0, tileGates := 0, stewardGate := false,
    ownGate := false }

/-- The module's clocks and resets (Table 16.7). -/
structure Clocks where
  refA : RefMode
  refB : RefMode
  /-- the ticks in which they were declared DEAD -/
  deadTickA : Nat
  deadTickB : Nat
  ssc : BitVec 16
  pendingSsc : Option (BitVec 16)
  resetCause : Nat
  releaseMs : Nat
  forcedSwitches : Nat
  domains : Tab Domain
deriving DecidableEq, Repr

/-- Table 16.7 defaults. -/
def Clocks.init : Clocks :=
  { refA := .unjudged, refB := .unjudged, deadTickA := 0, deadTickB := 0, ssc := 0, pendingSsc := none, resetCause := 0,
    releaseMs := 0, forcedSwitches := 0, domains := [] }

/-- Supplies, reset and recovery pins (19.3). -/
structure Supply where
  v48 : Bool
  v3p3 : Bool
  /-- the 48 V converters are enabled -/
  converters : Bool
  /-- MODULE_RESET_N and FLASH_EXT_N are low -/
  resetLow : Bool
  flashLow : Bool
  /-- the module is held in reset; RESET_CAUSE of the reset in progress -/
  inReset : Bool
  /-- the flash is joined to the connector (R464) -/
  flashJoined : Bool
  /-- THERM_TRIP_N is driven low (R461) -/
  thermTrip : Bool
  /-- the record of a thermal trip waits for the next release: sensor and raw reading (R426) -/
  tripRecord : Option (Nat × Int)
  /-- the Cartouche reset the module after an uncorrectable error: the record waits for the next release (R356) -/
  cartoucheRecord : Bool
deriving DecidableEq, Repr

/-- Standby power has come into range; V48 has not yet been seen in range, and MODULE_RESET_N is high (pulled up). -/
def Supply.init : Supply :=
  { v48 := false, v3p3 := true, converters := false, resetLow := false, flashLow := false, inReset := false,
    flashJoined := false, thermTrip := false, tripRecord := none, cartoucheRecord := false }

/-! ## Sensors and power (chapter 17) -/

/-- A sensor (Tables 17.9 and 17.11); readings are signed counts of 0.125 degrees. -/
structure Sensor where
  /-- the last conversion, with the extremes of I32 for open and short -/
  raw : Int
  lastFaulty : Bool
  /-- the last fault-free conversion -/
  good : Int
  /-- the highest fault-free conversion since the last boundary (R204) -/
  peak : Option Int
  converted : Bool
  /-- the effective reading at the last boundary -/
  effective : Int
  /-- MODE: 0 slow, 1 fast, 2 broken -/
  mode : Nat
  fault : Nat
  faults : Nat
  /-- conversions without a fault in a row, at most 64; fast conversions far enough below the entry in a row -/
  clean : Nat
  cold : Nat
  treatment : Nat
  pendingTreatment : Option Nat
  treated : Bool
  substituted : Bool
  alarm : Bool
  /-- the tick in which the treatment began; it ends at the next boundary -/
  treatedSince : Nat
  clearing : Bool
  extAlarm : BitVec 16
  beta : BitVec 16
deriving DecidableEq, Repr

/-- Table 17.9 defaults. -/
def Sensor.init : Sensor :=
  { raw := 0, lastFaulty := false, good := 0, peak := none, converted := false, effective := 0, mode := 0, fault := 0, faults := 0,
    clean := 0, cold := 0, treatment := 0, pendingTreatment := none, treated := false, substituted := false,
    alarm := false, treatedSince := 0, clearing := false, extAlarm := 0, beta := 3435 }

/-- The throttle ladder and the power limit (Tables 17.8 and 17.10). -/
structure Thermal where
  /-- the rung in force, and the rung demanded (R422, R423) -/
  rung : Nat
  demanded : Nat
  powerDemand : Nat
  stopped : Bool
  governor : Nat
  hottestCompute : Int
  hottestStack : Int
  powerLimit : BitVec 16
  inputPower : Nat
  rungChanges : Nat
  stops : Nat
  /-- consecutive boundaries at which every governing effective reading was 3.0 degrees below the entry of rungs 1 to 4 -/
  below : Tab Nat
  /-- consecutive boundaries at which every governing reading was below the rung 3 entry -/
  belowStop : Nat
  /-- THERMAL_STATUS at the snapshot: STRETCH_PENDING, STRETCH_DEMAND, POWER_DEMAND, ANY_BROKEN, ANY_FAST -/
  pending : Bool
  demand : Nat
  powerOver : Bool
  anyBroken : Bool
  anyFast : Bool
  /-- THERMAL_STATUS at the published snapshot (Table 17.8) -/
  statusSnap : BitVec 32
  /-- wall length (ns) of the ticks since the last multiple of 64 -/
  wall64 : Nat
deriving DecidableEq, Repr

/-- Table 17.8 defaults. -/
def Thermal.init : Thermal :=
  { rung := 0, demanded := 0, powerDemand := 0, stopped := false, governor := 0xFF, hottestCompute := 0, hottestStack := 0,
    powerLimit := 2200, inputPower := 0, rungChanges := 0, stops := 0, below := [], belowStop := 0, pending := false,
    demand := 0, powerOver := false, anyBroken := false, anyFast := false, statusSnap := 0xFF00,
    wall64 := 0 }

/-! ## The Legend and its transports (chapter 18) -/

/-- What a slow request asks for: a read from an offset, or a write of a value. -/
inductive SlowOp where
  | read (offset length : Nat)
  | write (data : List Byte)
deriving DecidableEq, Repr

/-- A slow request of a transport (R437): who asked, for what, under which ticket, and its result once ready. -/
structure SlowReq where
  ticket : Nat
  who : Principal
  reqId : Nat
  index : Nat
  sub : Nat
  op : SlowOp
  /-- status, generation and data -/
  result : Option (Status × Nat × List Byte)
deriving DecidableEq, Repr

/-- The mailbox of a virtual function (Table 18.7). -/
structure Mailbox where
  busy : Bool
  ready : Bool
  error : Bool
  overrun : Bool
  /-- length of the response, and of the request held -/
  len : Nat
  reqLen : Nat
  request : Mem
  response : Mem
deriving DecidableEq, Repr

/-- Table 18.7 reset values. -/
def Mailbox.init : Mailbox :=
  { busy := false, ready := false, error := false, overrun := false, len := 0, reqLen := 0, request := [], response := [] }

/-- Refused-write registers (Table 18.10). -/
structure BarRefused where
  offset : Nat
  status : Nat
  count : Nat
deriving DecidableEq, Repr

/-- Table 18.10 reset values. -/
def BarRefused.init : BarRefused := { offset := 0, status := 0, count := 0 }

/-- A virtual function as the host sees it (R447), with its mailbox and refused-write registers. -/
structure VFun where
  /-- NumVFs includes it; it is in D0 -/
  present : Bool
  d0 : Bool
  mailbox : Mailbox
  refused : BarRefused
deriving DecidableEq, Repr

/-- A function that NumVFs does not include. -/
def VFun.init : VFun := { present := false, d0 := true, mailbox := .init, refused := .init }

/-- States of a firmware update (R454; DSP0267's names). -/
inductive UpdateMode where
  | idle | learnComponents | readyXfer | download | verify | apply | activate
deriving DecidableEq, Repr

/-- The code of DSP0267's GetStatus. -/
def UpdateMode.code : UpdateMode → Nat
  | .idle => 0 | .learnComponents => 1 | .readyXfer => 2 | .download => 3 | .verify => 4 | .apply => 5 | .activate => 6

/-- The firmware update in progress. -/
structure Update where
  mode : UpdateMode
  previous : UpdateMode
  transport : Nat
  maxTransfer : Nat
  component : Nat
  size : Nat
  got : Nat
  image : FwImage
  /-- components whose image has been applied to the inactive bank -/
  applied : List Nat
deriving DecidableEq, Repr

/-- No update. -/
def Update.init : Update :=
  { mode := .idle, previous := .idle, transport := 0, maxTransfer := 0, component := 0, size := 0, got := 0,
    image := { content := 0, signed := true, secVersion := 0 }, applied := [] }

/-- The Legend's transports and the management endpoints. -/
structure Legend where
  /-- slow requests by transport, in order of arrival; at most 16 -/
  slow : Tab (List SlowReq)
  nextTicket : Nat
  /-- generation of each STR or BLOB: key index * 256 + sub; the count and the value last read -/
  generations : Tab (Nat × List Byte)
  refused : BarRefused
  i3cAddress : Nat
  eidI3c : Nat
  eidPcie : Nat
  /-- factory access on transport 2 holds until this tick -/
  factory : Option Nat
  /-- PLDM: the terminus ids of transports 1 and 2, the event receiver and the transport that named it -/
  tids : Tab Nat
  eventReceiver : Option (Nat × Nat)
  update : Update
deriving DecidableEq, Repr

/-- Table 18.15 defaults. -/
def Legend.init : Legend :=
  { slow := [], nextTicket := 1, generations := [], refused := .init, i3cAddress := 0, eidI3c := 0, eidPcie := 0,
    factory := none, tids := [], eventReceiver := none, update := .init }


/-! ## The whole block -/

/-- A post on its way to a cairn (R113 to R115): who made it and what it adds. -/
structure PostFlight where
  srcTile : Nat
  srcEngine : Nat
  dst : Post
deriving DecidableEq, Repr

/-- A launch on its way to a unit (R235). -/
structure LaunchFlight where
  unit : Nat
  launch : UnitLaunch
deriving DecidableEq, Repr

/-- The refresh mode of a stack (R204). -/
structure StackMode where
  hot : Bool
  coolTicks : Nat
deriving DecidableEq, Repr

/-- Cool mode. -/
def StackMode.init : StackMode := { hot := false, coolTicks := 0 }

/-- One parcel. -/
structure Parcel where
  ctl : ParcelCtl
  tick : ParcelTick
  chart : Option Chart
  /-- the plan composed for the next tick, once the steward has committed one -/
  nextPlan : Option (List Leg)
  /-- the legs of the plan in force, oldest first; the first is committed, running or late -/
  legs : List Leg
  /-- work in flight of the leg in progress, in the order in which it happens -/
  flight : List Flight
  /-- the latest cycle of the leg in progress that a command has named -/
  clock : Nat
  /-- the cycle of the leg in progress at which the tick in progress began; negative for a leg launched in it -/
  origin : Int
  /-- the first fault of the leg: its cycle, the tile and the engine (R123) -/
  primary : Option (Nat × Nat × Nat)
  /-- the first halt of a Celulo unit in the leg: its cycle and the unit (R246) -/
  unitFirst : Option (Nat × Nat)
  lastLeg : Option Nat
  /-- the boundary at which the preemption in effect was applied -/
  preemptedAt : Nat
  serving : Serving
  acct : Acct
  bisect : Bisect
  sec : ParcelSec
  remote : Remote
deriving DecidableEq, Repr

/-- A parcel after reset. -/
def Parcel.init : Parcel :=
  { ctl := .init, tick := .init, chart := none, nextPlan := none, legs := [], flight := [], clock := 0, origin := 0, primary := none, unitFirst := none,
    lastLeg := none, preemptedAt := 0,
    serving := .init, acct := .init, bisect := .init, sec := .init, remote := .init }

/-- The machine's state. -/
structure State where
  /-- commands that wait, first in first out -/
  pending : List Instr
  /-- what the block has sent to the outside, oldest first -/
  sent : List Sent
  tiles : Tab Tile
  channels : Tab Channel
  /-- all stack memory: channel * 0x60000000 + offset within the channel -/
  stack : Mem
  /-- granules in error: granule number (address / 64); 1 correctable, 2 uncorrectable, 3 correctable by the injection of a
  traffic generator (R214) -/
  stackErr : Tab Nat
  /-- staging lines by sector and stack: key sector * 12 + stack, oldest line first; at most 512 -/
  lines : Tab (List Line)
  /-- refresh mode of each stack: hot, and the boundaries for which every diode has read 83.0 C or less (R204) -/
  stackModes : Tab StackMode
  units : Tab CUnit
  posts : List PostFlight
  launches : List LaunchFlight
  parcels : Tab Parcel
  mer : Meridian
  sectors : Tab Sector
  /-- SPINE_FAILED per die, and the bridge (R314) -/
  spineFailed : Tab Bool
  bridgeFailed : Bool
  log : ErrorLog
  cart : Cartouche
  ports : Tab Port
  lamps : Tab Lamp
  clocks : Clocks
  supply : Supply
  sensors : Tab Sensor
  thermal : Thermal
  legend : Legend
  vfs : Tab VFun
  /-- MSI-X vectors to fire in the tick after the next boundary: function, vector (R448) -/
  irq : List (Nat × Nat)
  /-- the model's own counter of free values taken (no state of the spec's) -/
  fresh : Nat
deriving DecidableEq, Repr

/-- The machine right after power-on reset. -/
def State.reset : State :=
  { pending := [], sent := [], tiles := [], channels := [], stack := [], stackErr := [], lines := [], stackModes := [], units := [],
    posts := [], launches := [], parcels := [], mer := .init, sectors := [], spineFailed := [], bridgeFailed := false, log := .init, cart := .init, ports := [], lamps := [], clocks := .init, supply := .init,
    sensors := [], thermal := .init, legend := .init, vfs := [], irq := [],
    fresh := 0 }

/-- A reason for which a step stops the run. -/
inductive Fault where
  /-- The command names an engine, or a clock domain, that the part does not have (Tables 5.1 and 16.2): raised by the
  commands that carry such a number. Safe: no hardware event corresponds to it. -/
  | noSuchInstance
deriving DecidableEq, Repr

/-- A reason for which a command has no meaning. -/
inductive Refusal where
  /-- The command is not modelled. Safe: no claim about it can be proved. -/
  | notModelled (mnemonic : String)
deriving DecidableEq, Repr

end Sys2Proof.Machine
end

