-- ==== Sys2Proof/Machine/TileWord.lean ====
section
/-! DEFINITION. Bit fields, and the field maps of the tile instruction word, the copy descriptor, the stage program
and the leg launch record (05_engines.md Table 5.2, 06_tile_instructions.md Tables 6.1 to 6.17, 07_layout_graticule.md
Tables 7.1, 7.3 and 7.8). Reserved bits are not read (R7, R132). -/

namespace Sys2Proof.Machine

/-- Bits [lo + n - 1 : lo] of `w` as a number. -/
def fld (w lo n : Nat) : Nat := (w >>> lo) % 2 ^ n

/-- Bit `i` of `w`. -/
def bitAt (w i : Nat) : Bool := fld w i 1 = 1

/-- Bits [lo + n - 1 : lo] of `w` as a two's complement number. -/
def sfld (w lo n : Nat) : Int :=
  let v := fld w lo n
  if v < 2 ^ (n - 1) then (v : Int) else (v : Int) - 2 ^ n

/-- Engine kinds (Table 5.1). -/
inductive EngineKind where
  | load | weight | stream | drain | store | vector | graticule
deriving DecidableEq, Repr

/-- Is tile `t` a vector tile? (Table 0.4: k 16 to 31 of its sector.) -/
def isVectorTile (t : Nat) : Bool := 16 ≤ t % 32

/-- The kind of engine `e` of tile `t`; a vector tile has no engine 4 (Table 5.1). -/
def engineKind (t e : Nat) : Option EngineKind :=
  if isVectorTile t then
    match e with
    | 0 => some .load | 1 => some .vector | 2 => some .graticule | 3 => some .store | _ => none
  else
    match e with
    | 0 => some .load | 1 => some .weight | 2 => some .stream | 3 => some .drain | 4 => some .store | _ => none

/-- Engines of tile `t`. -/
def engineCount (t : Nat) : Nat := if isVectorTile t then 4 else 5

/-- Is the vector operation code one of Table 6.12? -/
def isVectorOp (op : Nat) : Bool :=
  (0x60 ≤ op && op ≤ 0x6D) || (0x70 ≤ op && op ≤ 0x72) || op = 0x78 || op = 0x7C || op = 0x7D

/-- R133, Table 6.1: the opcodes that an engine of a kind accepts; `vec` tells a vector tile's engine. -/
def opcodeAccepted (k : EngineKind) (vec : Bool) (op : Nat) : Bool :=
  op ≤ 0x06 ||
  (match k with
   | .load => op = 0x10 || op = 0x11
   | .store => op = 0x10 || op = 0x11 || (vec && op = 0x50)
   | .weight => op = 0x20
   | .stream => op = 0x30
   | .drain => op = 0x40
   | .vector => isVectorOp op
   | .graticule => op = 0xA0 || op = 0xA1)

/-- Bytes of a tile's scratchpad (R136). -/
def scratchBytes (t : Nat) : Nat := if isVectorTile t then 393216 else 786432

/-- Entries of the accumulator (R86). -/
def accEntries : Nat := 49152

/-- Bytes of one channel (Table 0.2 CHANNEL_BYTES). -/
def channelBytes : Nat := 0x60000000

/-! ### Leg launch record (Table 5.2) -/

/-- ENTRY_PCe. -/
def launchEntry (r : BitVec 1024) (e : Nat) : Nat := fld r.toNat (12 * e) 12
/-- DUMP. -/
def launchDump (r : BitVec 1024) : Bool := bitAt r.toNat 60
/-- HALT_COUNT_e; 0 for no halt. -/
def launchHalt (r : BitVec 1024) (e : Nat) : Nat := fld r.toNat (64 + 32 * e) 32
/-- PARAM_k. -/
def launchParam (r : BitVec 1024) (k : Nat) : Nat := fld r.toNat (256 + 32 * k) 32

/-! ### Post field (Table 6.2) -/

/-- A post field: EN, SELF, TILE, CAIRN, INC. -/
structure PostField where
  en : Bool
  self : Bool
  tile : Nat
  cairn : Nat
  inc : Nat
deriving DecidableEq, Repr

/-- The post field at bit `lo` of the word. -/
def postField (w lo : Nat) : PostField :=
  { en := bitAt w lo, self := bitAt w (lo + 1), tile := fld w (lo + 2) 9, cairn := fld w (lo + 11) 6,
    inc := fld w (lo + 17) 8 }

/-! ### Copy descriptor (Tables 7.1 and 7.3) -/

namespace Desc

def kind (d : BitVec 512) : Nat := fld d.toNat 0 2
def volatile (d : BitVec 512) : Bool := bitAt d.toNat 2
/-- Run length in bytes. -/
def run (d : BitVec 512) : Nat := (fld d.toNat 4 12 + 1) * 16
/-- Broadcast targets. -/
def targets (d : BitVec 512) : Nat := fld d.toNat 16 8 + 1
def localAddr (d : BitVec 512) : Nat := fld d.toNat 32 20
def farAddr (d : BitVec 512) : Nat := fld d.toNat 64 40
/-- Count of dimension 1, 2 or 3. -/
def count (d : BitVec 512) (i : Nat) : Nat := fld d.toNat (128 * i) 16 + 1
def lstride (d : BitVec 512) (i : Nat) : Int := sfld d.toNat (128 * i + 16) 24
def fstride (d : BitVec 512) (i : Nat) : Int := sfld d.toNat (128 * i + 40) 48

/-- Table 7.3: the broadcast step. -/
def step (d : BitVec 512) : Nat := if kind d = 1 then 0x4000 else 0x100000

/-- Runs of the descriptor, broadcast targets included. -/
def runs (d : BitVec 512) : Nat := count d 1 * count d 2 * count d 3 * targets d

/-- The indices of run `i` in the loop order of R174: i1, i2, i3 and the broadcast target. -/
def indices (d : BitVec 512) (i : Nat) : Nat × Nat × Nat × Nat :=
  let k := i % targets d
  let j := i / targets d
  (j % count d 1, j / count d 1 % count d 2, j / (count d 1 * count d 2), k)

/-- The scratchpad-side and far-side addresses of run `i`. -/
def addrs (d : BitVec 512) (l0 f0 i : Nat) : Int × Int :=
  let (i1, i2, i3, k) := indices d i
  ((l0 : Int) + i1 * lstride d 1 + i2 * lstride d 2 + i3 * lstride d 3,
   (f0 : Int) + i1 * fstride d 1 + i2 * fstride d 2 + i3 * fstride d 3 + (if kind d = 0 then 0 else k * step d))

end Desc

end Sys2Proof.Machine
end

