-- ==== Sys2Proof/Machine/Ops.lean ====
section
/-! DEFINITION. The named operations over the state: reading and writing each numbered thing, the numbering of parcels
(R289 to R291), the error log (R358 to R362), interrupts (R448), accounting counters (R307), and engine faults (R121 to
R124).
Readings and choices: log entries 4, 11 and 24. -/

namespace Sys2Proof.Machine

namespace State

/-! ### Numbered things -/

def tile (s : State) (t : Nat) : Tile := Tab.get Tile.init s.tiles t
def setTile (s : State) (t : Nat) (v : Tile) : State := { s with tiles := Tab.set Tile.init s.tiles t v }
def modTile (s : State) (t : Nat) (f : Tile → Tile) : State := s.setTile t (f (s.tile t))

def engine (s : State) (t e : Nat) : Engine := Tab.get Engine.idle (s.tile t).engines e
def setEngine (s : State) (t e : Nat) (v : Engine) : State :=
  s.modTile t fun T => { T with engines := Tab.set Engine.idle T.engines e v }
def modEngine (s : State) (t e : Nat) (f : Engine → Engine) : State := s.setEngine t e (f (s.engine t e))

def copyChan (s : State) (t e ch : Nat) : CopyChan := Tab.get CopyChan.idle (s.engine t e).chans ch
def modCopyChan (s : State) (t e ch : Nat) (f : CopyChan → CopyChan) : State :=
  s.modEngine t e fun E => { E with chans := Tab.set CopyChan.idle E.chans ch (f (Tab.get CopyChan.idle E.chans ch)) }

def channel (s : State) (c : Nat) : Channel := Tab.get Channel.init s.channels c
def modChannel (s : State) (c : Nat) (f : Channel → Channel) : State :=
  { s with channels := Tab.set Channel.init s.channels c (f (s.channel c)) }

/-- A unit nothing has written: idle, its format control word 0 once the controller has written 0 to it (R232), the
reset value of Table 9.5 before. -/
def unitDefault (s : State) (u : Nat) : CUnit :=
  CUnit.idle (if (s.channel (u / 64)).unitsCleared then 0 else 0x007F7F55)
def cunit (s : State) (u : Nat) : CUnit := Tab.get (s.unitDefault u) s.units u
def setUnit (s : State) (u : Nat) (v : CUnit) : State := { s with units := Tab.put s.units u v }
def modUnit (s : State) (u : Nat) (f : CUnit → CUnit) : State := s.setUnit u (f (s.cunit u))

def parcel (s : State) (p : Nat) : Parcel := Tab.get Parcel.init s.parcels p
def setParcel (s : State) (p : Nat) (v : Parcel) : State := { s with parcels := Tab.set Parcel.init s.parcels p v }
def modParcel (s : State) (p : Nat) (f : Parcel → Parcel) : State := s.setParcel p (f (s.parcel p))
def modCtl (s : State) (p : Nat) (f : ParcelCtl → ParcelCtl) : State :=
  s.modParcel p fun P => { P with ctl := f P.ctl }
def modPTick (s : State) (p : Nat) (f : ParcelTick → ParcelTick) : State :=
  s.modParcel p fun P => { P with tick := f P.tick }
def modServing (s : State) (p : Nat) (f : Serving → Serving) : State :=
  s.modParcel p fun P => { P with serving := f P.serving }
def gaz (s : State) (p e : Nat) : GazEntry := Tab.get GazEntry.init (s.parcel p).serving.gaz e
def modGaz (s : State) (p e : Nat) (f : GazEntry → GazEntry) : State :=
  s.modServing p fun V => { V with gaz := Tab.set GazEntry.init V.gaz e (f (Tab.get GazEntry.init V.gaz e)) }

def sector (s : State) (k : Nat) : Sector := Tab.get Sector.init s.sectors k
def modSector (s : State) (k : Nat) (f : Sector → Sector) : State :=
  { s with sectors := Tab.set Sector.init s.sectors k (f (s.sector k)) }

/-- TICK. -/
def now (s : State) : Nat := s.mer.tick

/-- Append to what has been sent. -/
def send (s : State) (x : Sent) : State := { s with sent := s.sent ++ [x] }

/-- The MSI-X vector of a function is to fire in the tick after the next boundary, once (R448). -/
def raise (s : State) (fn vec : Nat) : State :=
  if s.irq.contains (fn, vec) then s else { s with irq := s.irq ++ [(fn, vec)] }

end State

/-! ### Numbering (Tables 0.4 and 12.1) -/

def tileSector (t : Nat) : Nat := t / 32
def dieOfSector (k : Nat) : Nat := k / 8
def channelStack (c : Nat) : Nat := c / 32

/-- Table 12.1: channel k of sector s. -/
def sectorChannel (s k : Nat) : Nat := (6 * (s / 8) + k % 6) * 32 + 4 * (s % 8) + k / 6

/-- Table 12.1 read the other way: the sector that holds global channel c. -/
def channelSector (c : Nat) : Nat := 8 * (c / 32 / 6) + c % 32 / 4

/-- Table 12.1 read the other way: the number of global channel c within its sector. -/
def channelInSector (c : Nat) : Nat := c % 32 % 4 * 6 + c / 32 % 6

/-- The set bits of a 16-bit mask, ascending. -/
def maskBits (m : BitVec 16) : List Nat := (List.range 16).filter fun i => m.getLsbD i

namespace State

/-- The parcel that holds a sector, once DEFINED and until RELEASING (R289, R293, R207). -/
def sectorParcel (s : State) (k : Nat) : Option Nat :=
  (List.range 16).find? fun p =>
    let c := (s.parcel p).ctl
    c.mask.getLsbD k && (c.mode = .defined || c.mode = .sealing || c.mode = .sealed)

def tileParcel (s : State) (t : Nat) : Option Nat := s.sectorParcel (tileSector t)
def channelParcel (s : State) (c : Nat) : Option Nat := s.sectorParcel (channelSector c)

/-- The parcel's global sectors in logical order (R290). -/
def sectorsOf (s : State) (p : Nat) : List Nat := maskBits (s.parcel p).ctl.mask

/-- Sectors of the parcel. -/
def sectorCount (s : State) (p : Nat) : Nat := (s.sectorsOf p).length

/-- Logical to global (R290); none beyond the parcel. -/
def globalTile (s : State) (p lt : Nat) : Option Nat := (s.sectorsOf p)[lt / 32]?.map fun k => k * 32 + lt % 32
def globalChannel (s : State) (p lc : Nat) : Option Nat :=
  (s.sectorsOf p)[lc / 24]?.map fun k => sectorChannel k (lc % 24)
def globalUnit (s : State) (p lu : Nat) : Option Nat := (s.globalChannel p (lu / 64)).map fun c => c * 64 + lu % 64

/-- Global to logical. -/
def logicalSector (s : State) (p k : Nat) : Nat := ((s.sectorsOf p).takeWhile (· != k)).length
def logicalTile (s : State) (p t : Nat) : Nat := s.logicalSector p (tileSector t) * 32 + t % 32
def logicalChannel (s : State) (p c : Nat) : Nat := s.logicalSector p (channelSector c) * 24 + channelInSector c

/-- The parcel's tiles and channels, by global number. -/
def tilesOf (s : State) (p : Nat) : List Nat := (s.sectorsOf p).flatMap fun k => (List.range 32).map fun i => k * 32 + i
def channelsOf (s : State) (p : Nat) : List Nat :=
  (s.sectorsOf p).flatMap fun k => (List.range 24).map fun i => sectorChannel k i

/-- A channel that failed training or is retired (Table 12.13 FAILED_CHANNELS). -/
def channelFailed (s : State) (c : Nat) : Bool :=
  let r := fld (s.channel c).trainResult.toNat 24 3
  (s.sector (channelSector c)).retiredChannels.getLsbD (channelInSector c) || r = 3

/-- The channel and offset that a logical stack address of a parcel names (R169); none outside the parcel, and none on
a failed channel, to which the network refuses access (R14, R313). -/
def stackPlace (s : State) (p : Nat) (a : Nat) : Option (Nat × Nat) :=
  match s.globalChannel p (a / channelBytes) with
  | some c => if s.channelFailed c then none else some (c, a % channelBytes)
  | none => none

/-- Does a range of a channel touch a retired page or a retired bank pair (R366)? Pages of 2 MiB; the pair of an offset
is bits [21:16] (Table 8.2). -/
def rangeRetired (s : State) (c o n : Nat) : Bool :=
  let K := s.channel c
  K.retiredPages.any (fun g => o < (g + 1) * 0x200000 && g * 0x200000 < o + n) ||
  (List.range ((o + n + 65535) / 65536 - o / 65536)).any (fun i => K.retiredPairs.contains ((o / 65536 + i) % 64))

/-! ### The error log (14.4) -/

end State

/-- Tables 14.5 and 14.6: the summary bit of a record's code and source. -/
def summaryBit (code source : Nat) : Nat :=
  if code = 1 then (if source = 1 then 0 else if source = 2 then 1 else 2)
  else if code = 2 then 3 else if code = 3 then 4 else if code = 4 || code = 5 then 5
  else if code = 6 then 6 else if code = 7 then 7 else if code = 8 then 8
  else if code = 9 || code = 0xA then 9 else if code = 0xB then 10 else if code = 0xC then 11
  else if code = 0xD || code = 0xE then 12 else if code = 0xF then 13 else if code = 0x10 then 14
  else if code = 0x11 then 19
  else if 0x100 ≤ code && code ≤ 0x17F then 16 else if 0x180 ≤ code && code ≤ 0x1FF then 17 else 18

namespace State

/-- Set a bit of ERROR_SUMMARY; a change from 0 to 1 of an enabled bit raises the error interrupt (R362). -/
def setSummary (s : State) (b : Nat) : State :=
  if s.log.summary.getLsbD b then s
  else
    let s' := { s with log := { s.log with summary := s.log.summary ||| ((1 : BitVec 32) <<< b) } }
    if s.log.intEnable.getLsbD b then s'.raise 0 0 else s'

/-- LOG_LOST grows by one (R360). -/
def logLost (s : State) : State := ({ s with log := { s.log with lost := s.log.lost + 1 } }).setSummary 15

end State

/-- Does record `a` go before record `b` of the same cycle: by SOURCE, then INSTANCE, then SUB (R360)? -/
def recordBefore (a b : LogRec) : Bool :=
  a.source < b.source || (a.source = b.source && (a.inst < b.inst || (a.inst = b.inst && a.sub < b.sub)))

/-- Queue a record in the order of events; among the records of its own cycle, in the order of R360. The queue is read
from its youngest end. -/
def placeRecord (r : LogRec) : List LogRec → List LogRec
  | [] => [r]
  | q :: qs => if r.cyc.isSome && q.cyc = r.cyc && q.tick = r.tick && recordBefore r q then q :: placeRecord r qs else r :: q :: qs

namespace State

/-- Offer a record to the log writer (R360, R362): queued, or dropped where 256 records wait. -/
def offer (s : State) (r : LogRec) : State :=
  let s := s.setSummary (summaryBit r.code r.source)
  if s.log.queue.length < 256 then { s with log := { s.log with queue := (placeRecord r s.log.queue.reverse).reverse } }
  else s.logLost

/-- The template number that a record carries: that of the leg running in the parcel (Table 14.4). -/
def templateNow (s : State) (p : Option Nat) : Nat :=
  match p with
  | none => 0xFFFFFF
  | some p =>
    match (s.parcel p).legs with
    | l :: _ => if l.launched then l.template else 0xFFFFFF
    | [] => 0xFFFFFF

/-- Offer a record about `inst` of `source` in this tick. -/
def logEvent (s : State) (code source inst : Nat) (p : Option Nat) (sub detail : Nat) : State :=
  s.offer { code := code, source := source, parcel := p.getD 0xFF, inst := inst, sub := sub, tick := s.now,
            template := s.templateNow p, detail := detail, cyc := none }

/-- Offer a record about something that happens in cycle `cyc` of the leg in progress of parcel `p`. -/
def logCycle (s : State) (cyc code source inst : Nat) (p : Option Nat) (sub detail : Nat) : State :=
  s.offer { code := code, source := source, parcel := p.getD 0xFF, inst := inst, sub := sub, tick := s.now,
            template := s.templateNow p, detail := detail,
            cyc := p.map fun p => ((cyc : Int) - (s.parcel p).origin).toNat }

/-- The leaky bucket after one event, and whether an overflow episode begins (R352, R353). -/
def bucketStep (depth : Nat) (b : Bucket) : Bucket × Bool :=
  let b := { b with corrected := b.corrected + 1 }
  if b.level < depth then ({ b with level := b.level + 1, inEpisode := false }, false)
  else if b.inEpisode then (b, false)
  else ({ b with inEpisode := true, overflowed := true, overflowCount := min (b.overflowCount + 1) 0xFFFFFFFF }, true)

/-- One correctable-error event of a tile (source 1), channel (2) or steward core (5) (R351 to R353). -/
def bucketEvent (s : State) (source i : Nat) (p : Option Nat) : State :=
  let t := if source = 1 then s.log.tileBuckets else if source = 2 then s.log.chanBuckets else s.log.stewBuckets
  let (b, episode) := bucketStep s.log.depth (Tab.get Bucket.init t i)
  let t := Tab.set Bucket.init t i b
  let s := { s with log :=
    if source = 1 then { s.log with tileBuckets := t }
    else if source = 2 then { s.log with chanBuckets := t } else { s.log with stewBuckets := t } }
  if episode then s.logEvent 1 source i p 0 b.corrected else s

/-- `n` events of one bucket, one after another (R352). -/
def bucketEvents (s : State) (source i : Nat) (p : Option Nat) : Nat → State
  | 0 => s
  | n + 1 => (bucketEvents s source i p n).bucketEvent source i p

/-! ### Accounting (R307) -/

/-- Add `n` to the per-tick counter of subindex `k` of the parcel. -/
def count (s : State) (p : Option Nat) (k n : Nat) : State :=
  match p with
  | none => s
  | some p =>
    if n = 0 then s
    else s.modParcel p fun P => { P with acct := { P.acct with cur := Tab.modify 0 P.acct.cur k (· + n) } }

/-- Raise format flags of engine `e` of tile `t` (R69). -/
def tileFlags (s : State) (t e : Nat) (f : FFlags) : State :=
  if f = 0 then s else s.modTile t fun T => { T with formatStatus := formatStatusAfter T.formatStatus e f }

/-! ### Legs -/

/-- The leg in progress of a parcel: launched, and neither Complete nor Faulted (Table 2.4). -/
def runningLeg (s : State) (p : Nat) : Option Leg :=
  match (s.parcel p).legs with
  | l :: _ => if l.launched && l.state ≠ .faulted then some l else none
  | [] => none

/-- The leg in progress is Running: its first instruction issues (Table 2.4). -/
def beginLeg (s : State) (p : Nat) : State :=
  match (s.parcel p).legs with
  | l :: ls =>
    if l.launched && l.state = .committed then s.modParcel p fun P => { P with legs := { l with state := .running } :: ls } else s
  | [] => s

/-- LEG_BUDGET_CYCLES (Table 2.1). -/
def legBudget (s : State) : Nat := s.mer.steps * 142200

end State

/-! ### Engine faults (5.5) -/

/-- Causes of Table 5.4. -/
inductive Cause where
  | illegalOpcode | illegalField | illegalFormat | pcRange | loopDepth | cairnOverflow | waitTimeout | queueOverflow
  | accessRefused | scratchRange | accRange | planeInUse | planeNotReady | fetchUncorrectable | sramUncorrectable
  | copyUncorrectable | granulePartial
deriving DecidableEq, Repr

/-- The code of Table 5.4. -/
def Cause.code : Cause → Nat
  | .illegalOpcode => 1 | .illegalField => 2 | .illegalFormat => 3 | .pcRange => 4 | .loopDepth => 5
  | .cairnOverflow => 6 | .waitTimeout => 7 | .queueOverflow => 8 | .accessRefused => 9 | .scratchRange => 0xA
  | .accRange => 0xB | .planeInUse => 0xC | .planeNotReady => 0xD | .fetchUncorrectable => 0xE
  | .sramUncorrectable => 0xF | .copyUncorrectable => 0x10 | .granulePartial => 0x11

/-- FAULT_RECORD (Table 5.7). -/
def faultRecordOf (cause : Nat) (primary : Bool) (chan cairn pc retired : Nat) : BitVec 64 :=
  BitVec.ofNat 64 (cause + (if primary then 0x100 else 0) + chan * 0x200 + cairn * 0x1000 + pc * 0x100000 +
    (retired + 1) * 0x100000000)

namespace State

/-- No engine, copy channel or unit of the parcel has faulted in the leg in progress (R123). -/
def noFaultYet (s : State) (p : Nat) : Bool :=
  match (s.parcel p).legs with
  | l :: _ => l.state != .faulted
  | [] => true

/-- In cycle `cyc` the leg in progress still issues: it is running or late, or a fault of at most 32 cycles ago has not yet
stopped it (R122). -/
def legIssues (s : State) (p cyc : Nat) : Bool :=
  (s.runningLeg p).isSome ||
  (match (s.parcel p).primary with
   | some (c, _) => !s.noFaultYet p && cyc ≤ c + 32
   | none => false)

/-- The leg in progress of the parcel becomes Faulted (Table 2.4). -/
def markLegFaulted (s : State) (p : Nat) : State :=
  s.modParcel p fun P =>
    match P.legs with
    | l :: ls => { P with legs := { l with state := .faulted } :: ls }
    | [] => P

/-- A fault of engine `e` of tile `t` in cycle `cyc` is primary: no unit halted and no engine faulted in an earlier cycle,
and none of a lower tile, or of a lower engine of the tile, in the same one (R123, R246). -/
def isPrimary (P : Parcel) (cyc t e : Nat) : Bool :=
  (match P.unitFirst with | some (c, _) => cyc ≤ c | none => true) &&
  (match P.primary with
   | none => true
   | some (c, t', e') => cyc < c || (cyc = c && (t < t' || (t = t' && e < e'))))

/-- The fault of engine `e` of tile `t` is not primary after all: one of the same cycle ranks before it (R123). Its record,
and the log record that waits, lose the bit. -/
def demote (s : State) (t e : Nat) : State :=
  let old := (s.engine t e).faultRecord
  let new := old &&& ~~~(0x100 : BitVec 64)
  let s := s.modEngine t e fun E => { E with faultRecord := new }
  { s with log := { s.log with queue := s.log.queue.map fun r =>
      if r.code = 6 && r.source = 1 && r.inst = t && r.sub = e && r.detail = old.toNat then { r with detail := new.toNat } else r } }

/-- Engine `e` of tile `t` faults in cycle `cyc` at the instruction of index `pc`, `idx` instructions of its sequence before
it (R121 to R124): it stops there without retiring it, its record is written and logged, and the leg is Faulted. `chan` is 7
for a fault that is no copy channel's. An engine that has faulted already keeps its record (R125). -/
def engineFaultAt (s : State) (t e cyc : Nat) (pc : BitVec 12) (idx : Nat) (cause : Cause) (chan cairn : Nat) : State :=
  let E := s.engine t e
  if E.mode = .faulted then s
  else
    let p := s.tileParcel t
    let primary := match p with | some p => isPrimary (s.parcel p) cyc t e | none => true
    let rec' := faultRecordOf cause.code primary chan cairn pc.toNat idx
    let s := match p with
      | some p =>
        if primary then
          let s := match (s.parcel p).primary with | some (_, t', e') => s.demote t' e' | none => s
          s.modParcel p fun P => { P with primary := some (cyc, t, e) }
        else s
      | none => s
    let s := s.setEngine t e { E with mode := .faulted, pc := pc, ending := false, retired := idx, faultRecord := rec',
                                      retireLast := BitVec.ofNat 32 idx }
    let s := s.logCycle cyc 6 1 t p e rec'.toNat
    match p with
    | some p => s.markLegFaulted p
    | none => s

/-- Engine `e` of tile `t` faults in cycle `cyc` at the instruction it has come to. -/
def engineFault (s : State) (t e cyc : Nat) (cause : Cause) (chan cairn : Nat) : State :=
  s.engineFaultAt t e cyc (s.engine t e).pc (s.engine t e).retired cause chan cairn

end State

/-! ### Work in flight -/

/-- Does flight `a` happen before flight `b`: in an earlier cycle, or in the same one with a lower rank? -/
def Flight.before (a b : Flight) : Bool := a.cyc < b.cyc || (a.cyc = b.cyc && a.rank < b.rank)

/-- Place a flight behind every one that does not happen after it. -/
def placeFlight (f : Flight) : List Flight → List Flight
  | [] => [f]
  | g :: gs => if f.before g then f :: g :: gs else g :: placeFlight f gs

namespace State

/-- Put work in flight in parcel `p`'s leg. -/
def fly (s : State) (p : Nat) (f : Flight) : State := s.modParcel p fun P => { P with flight := placeFlight f P.flight }

/-- Put several pieces of work in flight, one after another. -/
def flyAll (s : State) (p : Nat) (fs : List Flight) : State :=
  s.modParcel p fun P => { P with flight := fs.foldl (fun l f => placeFlight f l) P.flight }

end State

end Sys2Proof.Machine
end

