-- ==== Sys2Proof/Machine/Answer.lean ====
section
/-! DEFINITION. How an object access is decided and answered (18_legend_interfaces.md R434, R435, Table 18.3). -/

namespace Sys2Proof.Machine

/-- What an object's own rule answers to a write, and the state after it. -/
abbrev Written := Status × State

/-- Refused: nothing changes (Table 18.3). -/
def refuse (s : State) : Written := (.refused, s)

/-- A write that only the operator (and the factory, where `fac`) may make: to anyone else the object is absent, unless
it is one that the principal may read (`seen`), which answers ACCESS (R434). -/
def operatorOnly (who : Principal) (fac seen : Bool) (s : State) (w : Written) : Written :=
  match who with
  | .operator => w
  | .factory => if fac then w else (.absent, s)
  | .tenant _ => (if seen then .access else .absent, s)

/-- The module has been released and is not in quarantine (Table 13.15). -/
def isReleased (s : State) : Bool := s.cart.result = 1

/-- The steward may transfer to and from host memory for parcel p (R329, R447). -/
def hostOpen (s : State) (p : Nat) : Bool :=
  let f := Tab.get VFun.init s.vfs p
  f.present && f.d0 && (s.parcel p).sec.tdi ≠ .error

/-- The host reaches the function's BAR: it exists and its interface is not in ERROR (R329, R447). -/
def barOpen (s : State) (p : Nat) : Bool := (Tab.get VFun.init s.vfs p).present && (s.parcel p).sec.tdi ≠ .error

/-- The device answers requests of `who`: it is released and not in quarantine, and a tenant's function is there and not in
ERROR (R321, R322, R329). -/
def accessOpen (s : State) (who : Principal) : Bool :=
  isReleased s && match who with | .tenant p => barOpen s p | _ => true

/-- A request of `who` that the device does not take: a NACK on I3C before release and in quarantine, an Unsupported Request
from a function whose interface is in ERROR (R321, R322, R329). -/
def turnAway (s : State) (who : Principal) : State :=
  match who with
  | .tenant p => if isReleased s && (Tab.get VFun.init s.vfs p).present then s.send (.unsupported (1 + p)) else s
  | _ => if s.supply.v3p3 then s.send (.i3c none) else s

/-- A message or access of transport `tr` (Table 18.4) that the device does not take. -/
def transportAway (s : State) (tr : Nat) : State :=
  if tr = 2 then turnAway s .operator
  else if 16 ≤ tr && tr < 48 then turnAway s (.tenant (Fin.ofNat 16 (tr - 16)))
  else s

/-! ### Crossings (16_clocks_startup.md R405, R407) -/

def domain (s : State) (n : Nat) : Domain := Tab.get Domain.init s.clocks.domains n
def modDomain (s : State) (n : Nat) (f : Domain → Domain) : State :=
  { s with clocks := { s.clocks with domains := Tab.set Domain.init s.clocks.domains n (f (domain s n)) } }

/-- The state of reference 0 (REF_A) or 1 (REF_B). -/
def refMode (s : State) (r : Nat) : RefMode := if r = 0 then s.clocks.refA else s.clocks.refB

/-- The timebase counts the Cartouche oscillator: its own reference is DEAD, and the other was DEAD when a forced switch
would have come (R400, R401). -/
def timebaseFree (s : State) : Bool := refMode s (domain s 1).ref = .dead

/-- The clock domains whose crossings lie before an object, by its module-wide index (Tables 16.2 and 18.3). -/
def domainsOf (index : Nat) : List Nat :=
  if index = 0x3000 then [1, 2]
  else if 0x4000 ≤ index && index < 0x4180 then [0x20 + channelStack (index - 0x4000)]
  else if 0x5000 ≤ index && index < 0x5200 then [0x10 + tileSector (index - 0x5000)]
  else if 0x7020 ≤ index && index < 0x7030 then [0x10 + (index - 0x7020)]
  else if 0x6010 ≤ index && index < 0x6020 then [0x30 + (index - 0x6010)]
  else []

/-- The DISCONNECTED domain that holds an object, if one does. -/
def cutDomain (s : State) (index : Nat) : Option Nat := (domainsOf index).find? fun n => (domain s n).disconnected

/-- A transfer ends at a DISCONNECTED crossing of domain n; the next re-arm's record counts it (R407). -/
def endTransfer (s : State) (n : Nat) : State := modDomain s n fun D => { D with ended := D.ended + 1 }

/-- A write that its object's own rule has judged (`w`), where `s` is the state before it: an object that the principal may
write, held in a domain that is DISCONNECTED, is answered with the unavailable status and nothing else happens (R405). -/
def crossed (index : Nat) (s : State) (w : Written) : Written :=
  match cutDomain s index with
  | some n => if w.1 = .absent || w.1 = .access then w else (.unavailable, endTransfer s n)
  | none => w

/-- Send the status of a write to an object and go on in the state it left; `s` is the state before it. -/
def answer (who : Principal) (index sub : Nat) (s : State) (w : Written) : Host.Outcome State Fault Refusal :=
  let w := crossed index s w
  if accessOpen s who then .next (w.2.send (.status who index sub w.1)) else .next (turnAway s who)

/-- PlatformEventMessage for a PLDM sensor (R453), where an event receiver is named. -/
def sensorEvent (s : State) (id : Nat) (value : Int) : State :=
  match s.legend.eventReceiver with
  | some (_, tr) => s.send (.pldmEvent tr id value)
  | none => s

end Sys2Proof.Machine
end

