-- ==== Sys2Proof/Config.lean ====
section
/-! DEFINITION. What the part fixes and the spec does not: the free values. An `opaque` constant has no body, so nothing
can be proved from its value. Each is named in an assumption-log entry.
Readings and choices: log entries 6, 12, 15, 16, 17, 19, 31, 48, 49, 53, 61, 67 and 68. -/

namespace Sys2Proof.Config

/-! ### Sums whose order the spec fixes in silicon but does not give -/

/-- The corner's adder tree over the used outputs of one slot (04_array_tiles.md R92: "a fixed adder tree"). -/
opaque cornerTree : List (BitVec 32) → BitVec 32
/-- The outputs that one cell column holds in one slot, combined (R92), where it holds more than one. -/
opaque columnCombine : List (BitVec 32) → BitVec 32
/-- Whether the oscillator that the timebase counts is fast enough in a tick that its slots leave one refresh command out
(16_clocks_startup.md R401). -/
opaque oscillatorShort : Nat → Bool
/-- What a failed comparator reports where it may report either (R471): a count, the group, the comparator and row. -/
opaque comparatorVerdict : Nat → Nat → Nat → Bool

/-! ### Transcendental results (06_tile_instructions.md R166): how many units in the last place the device's result
lies from the reference result, clamped to the stated bound where it is used -/

opaque exp2Ulps : BitVec 32 → Int
opaque log2Ulps : BitVec 32 → Int
opaque rcpUlps : BitVec 32 → Int
opaque rsqrtUlps : BitVec 32 → Int
opaque sigUlps : BitVec 32 → Int
/-- VRSQRT of -0 and VLOG2 of minus infinity: R166 states neither. A NaN among them is delivered canonical (R48). -/
opaque rsqrtNegZero : BitVec 32
opaque log2NegInf : BitVec 32

/-- The bits of a packed row's last byte or FP6 group above its last element (R52 gives them no value): a count and the
row. -/
opaque padBits : Nat → Nat → Nat

/-- A byte of a granule above the last one that the steward has to write (Table 11.10 gives it no value): a count and the
byte's place. -/
opaque granuleRest : Nat → Nat → Nat

/-- The bits of a Celulo VCVT's destination part that no converted element fills (Table 9.7 gives them no value): a count. -/
opaque vcvtRest : Nat → Nat

/-- The traffic generator's PRBS and walking-ones data (08_pereo_stacks.md Table 8.12 names the sequences and gives no
bits): PATTERN, TG_SEED, what fixes the order in which a pass comes to its bytes (ORDER, the run length, TG_OFFSET,
TG_LENGTH), and the channel offset of the byte. -/
opaque tgPattern : Nat → BitVec 32 → Nat → Nat → Nat → Nat → Nat → BitVec 8

/-! ### The Cartouche's cryptography and random source (chapter 13): no number of it is the spec's to give. The first
argument of a draw is the count of draws made before it. -/

/-- A draw of the random source of 64 and of 256 bits. -/
opaque random64 : Nat → BitVec 64
opaque random256 : Nat → BitVec 256
/-- The public point of the P-384 key of a draw. -/
opaque publicPoint : Nat → BitVec 776
/-- The content key that a header unwraps to under the key of a draw (R332): draw, nonce, parcel, header. -/
opaque unwrapKey : Nat → BitVec 64 → Nat → BitVec 2048 → Option (BitVec 256)
/-- The wrapped key of an export (R337): destination point, nonce, serial, parcel, bundle, ephemeral draw, content key. -/
opaque wrapKey : BitVec 776 → BitVec 64 → BitVec 64 → Nat → BitVec 64 → Nat → BitVec 256 → BitVec 320
/-- AES-256-GCM: the key stream's byte (key, chunk, position), and the tag (key, chunk, the fields of the AAD, the
ciphertext). -/
opaque keyStream : BitVec 256 → Nat → Nat → BitVec 8
opaque gcmTag : BitVec 256 → Nat → List Nat → List (BitVec 8) → BitVec 128
opaque sha384 : List (BitVec 8) → BitVec 384
/-- A signature by the alias key of an epoch over a digest; the count of draws. -/
opaque aliasSign : BitVec 32 → BitVec 384 → Nat → BitVec 768
/-- The digest of a measurement block over its content, and the bytes of a raw one (Table 13.3 gives no layout). -/
opaque measure : Nat → List Nat → BitVec 384
opaque measureRaw : Nat → List Nat → List (BitVec 8)
/-- The certificate chain of a slot, under an alias epoch and the digest of blocks 1 to 7 (R324). -/
opaque certChain : Nat → BitVec 32 → BitVec 384 → List (BitVec 8)
/-- A portion of a large SPDM response: transport and sequence number. -/
opaque largePortion : Nat → Nat → Nat → List (BitVec 8)
/-- Fuse configuration, ROM and geometry as blocks 1, 7 and 8 measure them. -/
opaque fuses : Nat

/-! ### Host memory and layouts that the spec does not give -/

/-- The 256 B that the host returns at an address, or a failed read. -/
opaque hostHeader : BitVec 64 → Nat → Option (BitVec 2048)

/-- What the octets of EXPORT_AUTH and FACTORY_AUTH spell (R337 and R456 give their content and no layout). -/
opaque exportRequest : List (BitVec 8) → Option ExportRequest
opaque factoryToken : List (BitVec 8) → Option FactoryToken
/-- The versions that GET_MCTP_VERSION_SUPPORT lists (R442 names none). -/
opaque mctpVersions : List Nat
/-- For how long a reference has run within its limits when REF_CLEAR is written: a count, microseconds. -/
opaque refGoodUs : Nat → Nat

/-- A doubleword of PCIe configuration space that R446 does not give: a count, the function, the register. -/
opaque configSpace : Nat → Nat → Nat → BitVec 32

/-- What the MSI-X table and PBA of a function read (Table 18.11 gives only their places): a count, the function, the
offset. -/
opaque msixRegister : Nat → Nat → Nat → BitVec 64

/-! ### What the factory writes into one module (Table 18.15, 0x2400) -/

opaque moduleSerial : BitVec 64
/-- The body of the link-management flit that carries a serial and a port number (R375 gives it no layout). -/
opaque identifyBody : BitVec 64 → Nat → List (BitVec 8)
opaque pciVendorId : BitVec 16
opaque mipiMfrId : BitVec 16
/-- The version string of a firmware image (FW_VERSIONS gives no text): component, content. -/
opaque firmwareVersion : Nat → Nat → List (BitVec 8)

end Sys2Proof.Config
end

