-- ==== Sys2Proof/Machine/Array.lean ====
section
/-! DEFINITION. The arithmetic of the array (04_array_tiles.md R72 to R74, R90 to R94; 06_tile_instructions.md R154, R157):
where output columns lie, column sums, the closure column and row, and the closure checks of a group of rows.
Readings and choices: log entries 14, 16, 17, 18 and 74. -/

namespace Sys2Proof.Machine

def plane (T : Tile) (i : Nat) : Plane := if i = 0 then T.plane0 else T.plane1
def setPlane (T : Tile) (i : Nat) (P : Plane) : Tile := if i = 0 then { T with plane0 := P } else { T with plane1 := P }

/-- Weights per cell column (Table 4.1): 4 in TERN2, 2 in the 4-bit formats, else 1. -/
def weightsPerCell (f : Fmt) : Nat :=
  match f with | .tern2 => 4 | .int4 | .fp4 => 2 | _ => 1

/-- Output columns per streamed row (Table 4.1). -/
def outputColumns (f : Fmt) : Nat := if f.is16f then 64 else 128 * weightsPerCell f

/-- The cell column at which output column n is checked (Table 4.1, R92: 2n in 16-bit float mode). -/
def cellColumn (f : Fmt) (n : Nat) : Nat := if f.is16f then 2 * n else n / weightsPerCell f

/-- Reads of 128 B that a WLOAD makes (R154). -/
def wloadReads (f : Fmt) (n : Nat) : Nat := if f.is16f then 2 * n else (n + weightsPerCell f - 1) / weightsPerCell f

/-- The output columns whose elements read `j` of a WLOAD carries, in a plane of `n` used columns (R77, R154). -/
def readColumns (f : Fmt) (n j : Nat) : List Nat :=
  if f.is16f then [j / 2]
  else
    let w := weightsPerCell f
    ((List.range w).map fun i => j * w + i).filter fun c => c < n

/-- The element codes of output column `n`, of `k` used lanes, that the 128 B at `a` hold as read `j` (R154): all of them, or
in 16-bit float mode the lanes of its half. -/
def readCodes (m : Mem) (f : Fmt) (a k n j : Nat) : List Nat :=
  if f.is16f then (List.range (min 64 (k - j % 2 * 64))).map fun i => elemCode m f a i
  else
    let w := weightsPerCell f
    (List.range k).map fun i => elemCode m f (a + n % w * (128 / w)) i

/-- Does a weight column hold the reserved TERN2 code in a lane whose block has no NaN scale? There the scale makes the
element a NaN, and the code changes nothing (R56). -/
def ternReserved (codes scales : List Nat) : Bool :=
  (codes.mapIdx fun i c => c % 4 = 2 && scales.getD (i / 32) 127 ≠ 255).any id

/-- The exact scaled value of an element code. -/
def elemVal (f : Fmt) (code : Nat) (scale : Option Nat) : FVal := (f.scaledValue code scale).1

/-- Join flags. -/
def joinFlags : List FFlags → FFlags
  | [] => 0
  | f :: fs => f ||| joinFlags fs

/-- The scaled values of one output column, the lanes below K_USED alone: a loaded scale of 0xFF for a block wholly at or
above K_USED leaves the column sum as it is (DESIGN CHOICE, log entry 74: R78 does not say). -/
def columnVals (P : Plane) (f : Fmt) (n : Nat) : List FVal :=
  (P.weights.getD n []).mapIdx fun k c => elemVal f c (if P.scaled then some ((P.scales.getD n []).getD (k / 32) 127) else none)

/-- The signed integers of one output column. -/
def columnInts (P : Plane) (f : Fmt) (n : Nat) : List Int :=
  (P.weights.getD n []).map fun c =>
    match f.int? with | some (w, sg) => intOfCode w sg (c % 2 ^ w) | none => 0

/-- FP32 sum of exact values in order from +0, one rounding each (R90). -/
def seqSum (xs : List FVal) : Word := xs.foldl (fun a x => f32rne (FVal.add (f32val a) x)) 0

/-- R90: c[k] and a[k] for each lane, adding in ascending output column. -/
def closureColumn (P : Plane) (f : Fmt) : List Word × List Word × List Word :=
  let cols := (List.range P.nUsed).map (columnVals P f)
  let icols := (List.range P.nUsed).map (columnInts P f)
  let lane (k : Nat) : List FVal := cols.map fun c => c.getD k .zero
  ((List.range P.kUsed).map fun k => BitVec.ofInt 32 ((icols.map fun c => c.getD k 0).foldl (· + ·) 0),
   (List.range P.kUsed).map fun k => seqSum (lane k),
   (List.range P.kUsed).map fun k => seqSum ((lane k).map FVal.abs))

/-! ### Column sums (R57 to R59, R74) -/

/-- One float-path step: the product rounded once, added with one rounding (R59); with the flags raised. -/
def floatStep (a : Word × FFlags) (wx : FVal × FVal) : Word × FFlags :=
  let p := rne32 (FVal.mul wx.1 wx.2)
  let r := f32rne (FVal.add (f32val a.1) p)
  (r, a.2 ||| arithFlags [wx.1, wx.2] p ||| arithFlags [f32val a.1, p] (f32val r))

/-- The float-path sum over lanes in ascending k, from +0 (R74). -/
def floatDot (ws xs : List FVal) : Word × FFlags := (ws.zip xs).foldl floatStep (0, 0)

/-- The integer-path sum modulo 2^32 (R58, R74). -/
def intDot (ws xs : List Int) : Word := BitVec.ofInt 32 ((ws.zip xs).foldl (fun a wx => a + wx.1 * wx.2) 0)

/-- The row's element codes (R157). -/
def rowCodes (T : Tile) (f : Fmt) (a k : Nat) : List Nat := (List.range k).map fun i => elemCode T.scratch f a i

/-- The scaled values of an activation row (R82, R158). -/
def rowVals (f : Fmt) (codes : List Nat) (scales : Option (List Nat)) : List FVal :=
  codes.mapIdx fun k c => elemVal f c (scales.map fun s => s.getD (k / 32) 127)

/-- The integers of an activation row. -/
def rowInts (f : Fmt) (codes : List Nat) : List Int :=
  codes.map fun c => match f.int? with | some (w, sg) => intOfCode w sg (c % 2 ^ w) | none => 0

/-! ### Closure checks (R91 to R93) -/

/-- The outputs that cell column j holds in one slot. -/
def cellOutputs (f : Fmt) (outs : List Word) (j : Nat) : List Word :=
  (outs.zipIdx.filter fun x => cellColumn f x.2 = j).map (·.1)

/-- The cell columns that hold used outputs, ascending. -/
def usedCells (f : Fmt) (n : Nat) : List Nat := ((List.range n).map (cellColumn f)).eraseDups

/-- Combine the outputs of a cell column in one slot (R92). -/
def combineFp : List Word → Word
  | [x] => x
  | xs => Config.columnCombine xs

/-- The corner's sum of a slot's used outputs (R92). -/
def cornerFp : List Word → Word
  | [x] => x
  | xs => Config.cornerTree xs

/-- A float comparison: skipped where A, B or M is NaN or infinite (R93); else passes when
|A - B| <= 2^-TOL_EXP * M + 2^(FLOOR - 127) (R92). A FLOOR of 0xFF, E8M0's code for NaN, which R94 neither refuses nor
gives a bound, is compared as 2^128 (DESIGN CHOICE, log entry 74). Answers (skipped, passes). -/
def compareFp (tol : BitVec 16) (a b m : Word) : Bool × Bool :=
  let A := f32val a; let B := f32val b; let M := f32val m
  if !(A.isFin && B.isFin && M.isFin) then (true, true)
  else
    let bound := FVal.add (M.scaleBy (-(fld tol.toNat 0 4 : Int))) (.fin false 1 ((fld tol.toNat 8 8 : Int) - 127))
    (false, FVal.le (FVal.sub A B).abs bound)

/-- What comparator `j` reports of a comparison (R471): a failure that a silent comparator may miss, a pass that a stuck
one may report as a failure. -/
def reported (s : State) (K : Closure) (group j row : Nat) (passes : Bool) : Bool :=
  let free := Config.comparatorVerdict s.fresh group (j * 128 + row)
  if passes then K.stuckCmp.contains j && free else !(K.silentCmp.contains j) || free

/-- The checks of one group on the integer path. `outs` are the rows' column sums before any shift. -/
def checkInt (s : State) (K : Closure) (P : Plane) (f : Fmt) (group : Nat) (xs : List (List Int))
    (outs : List (List Word)) : GroupVerdict :=
  let cells := usedCells f P.nUsed
  let closed : List Int := (List.range P.kUsed).map fun k => (xs.map fun x => x.getD k 0).foldl (· + ·) 0
  let crow : List Word := (List.range P.nUsed).map fun n => intDot (columnInts P f n) closed
  let ci : List Int := P.closeInt.map (·.toInt)
  let sum (l : List Word) : Word := l.foldl (· + ·) 0
  let cols := cells.filter fun j =>
    reported s K group j 127 (sum (outs.map fun o => sum (cellOutputs f o j)) = sum (cellOutputs f crow j))
  let rows := (List.range xs.length).filter fun m =>
    reported s K group 128 m (sum (outs.getD m []) = intDot ci (xs.getD m []))
  { cols := cols, rows := rows, closureRow := reported s K group 128 126 (sum crow = intDot ci closed), skipped := false }

/-- The checks of one group on the float path. The two parts of the closure row are joined per output with one FP32
addition before the column and the corner combine them; c[k], a[k], s[k], the closure slots and the checker's sums raise
no format flag: R69, R90 and R92 state neither (DESIGN CHOICE, log entry 74). -/
def checkFp (s : State) (K : Closure) (P : Plane) (f : Fmt) (group : Nat) (xs : List (List FVal))
    (outs : List (List Word)) : GroupVerdict :=
  let cells := usedCells f P.nUsed
  let lanes := List.range P.kUsed
  -- R91: s[k] in FP32, split into BF16 hi and lo; r[k] rounded up to BF16
  let closed : List Word := lanes.map fun k => seqSum (xs.map fun x => x.getD k .zero)
  let hi : List FVal := closed.map fun w => fmtBf16.decode (splitFp32 w).1
  let lo : List FVal := closed.map fun w => fmtBf16.decode (splitFp32 w).2
  let mag : List FVal := lanes.map fun k =>
    fmtBf16.decode (fmtBf16.roundArith .up ((xs.map fun x => (x.getD k .zero).abs).foldl FVal.add .zero))
  let dotBoth (ws : List FVal) : Word := f32add (floatDot ws hi).1 (floatDot ws lo).1
  let crow : List Word := (List.range P.nUsed).map fun n => dotBoth (columnVals P f n)
  let mrow : List Word := (List.range P.nUsed).map fun n => (floatDot ((columnVals P f n).map FVal.abs) mag).1
  let cf := P.closeFp.map f32val
  let ca := P.closeMag.map f32val
  let colCmp (j : Nat) : Bool × Bool :=
    compareFp K.tol ((outs.map fun o => combineFp (cellOutputs f o j)).foldl f32add 0) (combineFp (cellOutputs f crow j))
      (combineFp (cellOutputs f mrow j))
  let rowCmp (m : Nat) : Bool × Bool :=
    let x := xs.getD m []
    compareFp K.tol (cornerFp (outs.getD m [])) (floatDot cf x).1 (floatDot ca (x.map FVal.abs)).1
  let clsCmp := compareFp K.tol (cornerFp crow) (dotBoth cf) (floatDot ca mag).1
  { cols := cells.filter fun j => !(colCmp j).1 && reported s K group j 127 (colCmp j).2
    rows := (List.range xs.length).filter fun m => !(rowCmp m).1 && reported s K group 128 m (rowCmp m).2
    closureRow := !clsCmp.1 && reported s K group 128 126 clsCmp.2
    skipped := cells.any (fun j => (colCmp j).1) || (List.range xs.length).any (fun m => (rowCmp m).1) || clsCmp.1 }

/-- The mask of the rows listed, of 64. -/
def rowMask (rows : List Nat) : BitVec 64 := rows.foldl (fun m r => m ||| ((1 : BitVec 64) <<< r)) 0

/-- CLOSURE_LAST (Table 4.10). -/
def closureLast (retireIndex group kind cell template : Nat) : BitVec 64 :=
  BitVec.ofNat 64 (retireIndex % 65536 + group * 2 ^ 16 + kind * 2 ^ 28 + cell * 2 ^ 31 + template % 2 ^ 24 * 2 ^ 40)

/-- One row of a STREAM: its accumulator entries (R82). -/
def writeRow (acc : Tab Word) (base : Nat) (intPath setMode : Bool) (shift : Nat) : List Word → Tab Word × FFlags
  | [] => (acc, 0)
  | y :: ys =>
    let old : Word := Tab.get 0 acc base
    let v : Word := if intPath then y <<< shift else y
    let new : Word := if setMode then v else if intPath then old + v else f32add old v
    let fl : FFlags := if setMode || intPath then 0 else arithFlags [f32val old, f32val v] (f32val new)
    let (acc', fls) := writeRow (Tab.set 0 acc base new) (base + 1) intPath setMode shift ys
    (acc', fl ||| fls)

end Sys2Proof.Machine
end

