-- ==== Sys2Proof/Machine/Settle.lean ====
section
/-! DEFINITION. Storage errors of a tile's memories (14_errors.md R349 to R351), writes to its scratchpad, and the work in
flight of a leg: the reads and writes that WLOAD, STREAM, DRAIN, VECTOR, Graticule and copy transfers make in the cycles
after their issue (04_array_tiles.md R75 to R77, R82, R85; 06_tile_instructions.md R142, R160; 07_layout_graticule.md R180;
09_celulo.md R237; 10_memory_model.md R250, R253).
Readings and choices: log entries 10, 15, 18, 24 and 74. -/

namespace Sys2Proof.Machine

/-! ### Storage errors -/

/-- Does the byte range [a, a + n) pass the end of tile `t`'s scratchpad? (R136) -/
def TCtx.scratchOver (t a n : Nat) : Bool := scratchBytes t < a + n

/-- The first key of [a, a + n) that a table of errors lists with `kind`. -/
def errAt (errs : Tab Nat) (kind a n : Nat) : Option Nat :=
  (errs.find? fun c => c.2 = kind && a ≤ c.1 && c.1 < a + n).map (·.1)

/-- The first uncorrectable byte of the range [a, a + n) of the scratchpad. -/
def scratchBadAt (T : Tile) (a n : Nat) : Option Nat := errAt T.scratchErr 2 a n

/-- Is a byte of the range [a, a + n) of the scratchpad uncorrectable? -/
def TCtx.scratchBad (T : Tile) (a n : Nat) : Bool := (scratchBadAt T a n).isSome

/-- Is a byte of the range correctable, so that a read of the range counts as an event (R351)? -/
def TCtx.scratchCorr (T : Tile) (a n : Nat) : Bool := (errAt T.scratchErr 1 a n).isSome

/-- Is an entry of the accumulator range correctable? -/
def TCtx.accCorr (T : Tile) (a n : Nat) : Bool := (errAt T.accErr 1 a n).isSome

/-- The first uncorrectable entry of [a, a + n) of the accumulator. -/
def accBadAt (T : Tile) (a n : Nat) : Option Nat := errAt T.accErr 2 a n

/-- Is an entry of [a, a + n) of the accumulator uncorrectable? -/
def TCtx.accBad (T : Tile) (a n : Nat) : Bool := (accBadAt T a n).isSome

/-- Is one of `n` instruction-memory slots from `i` uncorrectable? -/
def TCtx.slotsBad (T : Tile) (i n : Nat) : Bool := (errAt T.imemErr 2 i n).isSome

/-- Is one of `n` instruction-memory slots from `i` correctable? -/
def slotsCorr (T : Tile) (i n : Nat) : Bool := (errAt T.imemErr 1 i n).isSome

/-- A read access of tile `t`'s scratchpad that corrects a byte counts one event (R351). -/
def State.readScratch (s : State) (p t a n : Nat) : State :=
  if TCtx.scratchCorr (s.tile t) a n then s.bucketEvent 1 t (some p) else s

/-- An accumulator read that corrects an entry counts one event. -/
def State.readAcc (s : State) (p t a n : Nat) : State :=
  if TCtx.accCorr (s.tile t) a n then s.bucketEvent 1 t (some p) else s

/-- Engine `e` reads an uncorrectable byte (`sub` 0) or accumulator entry (`sub` 1) at `addr` for the instruction at `pc`,
`idx` instructions of its sequence before it: an UNCORR_SRAM record (Table 14.3), and the fault. -/
def sramFaultAt (s : State) (t e cyc : Nat) (pc : BitVec 12) (idx sub addr : Nat) : State :=
  (s.logCycle cyc 2 1 t (s.tileParcel t) sub addr).engineFaultAt t e cyc pc idx .sramUncorrectable 7 0

/-- Write bytes into a tile's scratchpad; the written bytes carry fresh check bits. -/
def writeScratch (s : State) (t a : Nat) (bytes : List Byte) : State :=
  s.modTile t fun T =>
    { T with scratch := Mem.writeBytes T.scratch a bytes, scratchErr := Tab.clear T.scratchErr a (a + bytes.length) }

/-- Write into the data SRAM of a unit (R237): a unit in double-fault lock drops what a descriptor writes. -/
def writeUnitData (s : State) (u o : Nat) (bytes : List Byte) : State :=
  if (s.cunit u).halt = .lock then s
  else s.modUnit u fun U =>
    { U with data := Mem.writeBytes U.data o bytes, dataErr := Tab.clear U.dataErr o (o + bytes.length) }

/-! ### Ranks of writes in one cycle (R142, R180, R237) -/

/-- A write into scratchpad from an engine of the tile: its engine's number counts, then its copy channel's. -/
def rankLocal (e ch : Nat) : Nat := 1024 + e * 8 + ch
/-- A write that arrives from another tile of the parcel: below every local one, by the logical source tile. -/
def rankRemote (lt : Nat) : Nat := 2 + lt
/-- A descriptor's write into a unit's data SRAM, and the unit's own, which holds. -/
def rankDescriptor : Nat := 2
def rankUnit : Nat := 3

/-- The last tile cycle of the Celulo cycle that holds tile cycle `cyc` (R216: 3 tile cycles). -/
def celuloEnd (cyc : Nat) : Nat := cyc / 3 * 3 + 2

/-! ### DRAIN rows (R160, R161) -/

/-- Join the codes and flags of a list of conversions. -/
def gather (l : List (Nat × FFlags)) : List Nat × FFlags := (l.map (·.1), joinFlags (l.map (·.2)))

/-- A DRAIN source value: an INT32 entry times 2^-shift exactly, or an FP32 entry (R160). -/
def drainValue (fp : Bool) (shift : Nat) (v : Word) : FVal :=
  if fp then f32val v else (FVal.ofInt v.toInt).scaleBy (-(shift : Int))

/-- One row converted: its codes, its generated scales, and the flags raised (R160, R161). -/
def drainRow (f : Fmt) (r : Rnd) (sat gen fp : Bool) (shift : Nat) (vs : List Word) : List Nat × List Nat × FFlags :=
  let xs := vs.map (drainValue fp shift)
  if gen then
    let bs := (blocks32 xs).map fun b => f.genScale r (b.map fun x => if fp then x else rne32 x)
    (bs.flatMap (·.2.1), bs.map (·.1), joinFlags (bs.map (·.2.2)))
  else
    let (cs, fl) := gather (xs.map (f.convert r sat))
    (cs, [], fl)

/-! ### Verdicts -/

/-- Record the verdicts of a group (R93, R98, R99). -/
def recordGroup (s : State) (t p cyc retireIndex template group nrows : Nat) (v : GroupVerdict) : State :=
  let s := if v.skipped then s.modTile t fun T => { T with closure := { T.closure with skippedNow := true } } else s
  let rowFail := !v.rows.isEmpty || v.closureRow
  if v.cols.isEmpty && !rowFail then s
  else
    let kind := if v.cols.isEmpty then 1 else if rowFail then 2 else 0
    let cell := v.cols.headD 128
    let rows := if v.closureRow then List.range nrows else v.rows
    let last := closureLast retireIndex group kind cell template
    let affected := if v.cols.isEmpty then rows else List.range nrows
    let s := s.modTile t fun T =>
      { T with closure :=
          { T.closure with
              error := true, errorNow := true, last := last
              rows := if rowFail then rowMask rows else T.closure.rows
              suspects := T.closure.suspects ++
                [{ leg := (s.parcel p).serving.finished.length, retireIndex := retireIndex, group := group, rows := rowMask affected }] } }
    s.logCycle cyc 9 1 t (some p) 0 last.toNat

/-! ### Cycles of a STREAM -/

/-- Cycles per slot, and the cycle that Table 4.3 adds to constants measured from a slot, in 16-bit float mode (R76). -/
def slotCycles (f : Fmt) : Nat := if f.is16f then 2 else 1
def slotExtra (f : Fmt) : Nat := if f.is16f then 1 else 0

/-- Closure slots after each group (R84). -/
def closureSlots (int : Bool) : Nat := if int then 2 else 3

/-- The slot of row `m`: every group of 64 rows before it has its closure slots (R84). -/
def rowSlot (int : Bool) (m : Nat) : Nat := m + m / 64 * closureSlots int

/-- The last closure slot of group `g` of `n` rows. -/
def closureSlot (int : Bool) (n g : Nat) : Nat := min n (64 * (g + 1)) + closureSlots int * (g + 1) - 1

/-- Slots of a STREAM of `n` rows (R84). -/
def streamSlots (int : Bool) (n : Nat) : Nat := n + closureSlots int * ((n + 63) / 64)

/-- Bytes that one row read takes: a 16-bit float row is read whole, 256 B; any other, only the bytes of its used lanes
(R157). -/
def streamRowBytes (af : Fmt) (k : Nat) : Nat := if af.is16f then 256 else (k * af.bits + 7) / 8

/-! ### What each piece of work does -/

/-- The engine and the place in its sequence of the instruction that a read in flight belongs to. -/
def Work.reader : Work → Option (Nat × Nat × Nat)
  | .weightRead t x _ => some (t, 1, x.index)
  | .streamRow t x _ => some (t, 2, x.index)
  | .closure t x _ => some (t, 2, x.index)
  | .drainRow t x _ => some (t, 3, x.index)
  | _ => none

/-- An instruction in progress meets an uncorrectable read: its engine faults, and it reads no more. -/
def lateFault (s : State) (p t e cyc : Nat) (pc : BitVec 12) (idx sub addr : Nat) : State :=
  (sramFaultAt s t e cyc pc idx sub addr).modParcel p fun P =>
    { P with flight := P.flight.filter fun f => f.work.reader ≠ some (t, e, idx) }

/-- Read `j` of a WLOAD fills its columns (R77, R78, R154, R155); the last one leaves c[k] and a[k] (R90). -/
def doWeightRead (s : State) (p t cyc : Nat) (x : WloadOp) (j : Nat) : State :=
  let T := s.tile t
  let f := (Fmt.ofCode x.fmt).getD .int8
  let a := x.src + j * x.stride
  let cols := readColumns f x.nUsed j
  let scl := match x.scl with | some q => some (q + 4 * cols.headD 0, 4 * cols.length) | none => none
  match scratchBadAt T a 128, scl.bind fun r => scratchBadAt T r.1 r.2 with
  | some b, _ => lateFault s p t 1 cyc x.pc x.index 0 b
  | none, some b => lateFault s p t 1 cyc x.pc x.index 0 b
  | none, none =>
    let s := s.readScratch p t a 128
    let s := match scl with | some r => s.readScratch p t r.1 r.2 | none => s
    let codes := cols.map fun n => readCodes T.scratch f a x.kUsed n j
    let scales := match x.scl with
      | some q => cols.map fun n => (List.range 4).map fun b => (Mem.read T.scratch (q + 4 * n + b)).toNat
      | none => []
    let flags : FFlags :=
      (if f = .tern2 && (codes.zip scales).any (fun c => ternReserved c.1 c.2) then flTernReserved else 0) |||
      (if scales.any (fun c => c.any (· = 255)) then flScaleNan else 0)
    let s := s.modTile t fun T =>
      let P := plane T x.plane
      let half := f.is16f && j % 2 = 1
      let P := { P with
        weights := if half then P.weights.dropLast ++ [P.weights.getLastD [] ++ codes.headD []] else P.weights ++ codes
        scales := P.scales ++ scales }
      let P := if j + 1 = x.reads then
          let (ci, cf, ca) := closureColumn P f
          { P with closeInt := ci, closeFp := cf, closeMag := ca }
        else P
      setPlane T x.plane P
    s.tileFlags t 1 flags

/-- The path of a STREAM (R57). -/
def streamInt (P : Plane) (x : StreamOp) : Bool :=
  match Fmt.ofCode P.fmt, Fmt.ofCode x.fmt with
  | some wf, some af => integerPath wf af P.scaled x.scl.isSome
  | _, _ => false

/-- The column sums of a row, with the flags they raise (R74). -/
def rowSums (P : Plane) (int : Bool) (wf af : Fmt) (codes : List Nat) (scales : Option (List Nat)) : List (Word × FFlags) :=
  if int then
    (List.range P.nUsed).map fun n => (intDot (columnInts P wf n) (rowInts af codes), 0)
  else
    (List.range P.nUsed).map fun n => floatDot (columnVals P wf n) (rowVals af codes scales)

/-- The slot of row `m`: its elements are read and pass through the array; its entries are written 259 cycles later, so that
they hold their new value from cycle 260 on (R76, R82, R85). -/
def doStreamRow (s : State) (p t cyc : Nat) (x : StreamOp) (m : Nat) : State :=
  let T := s.tile t
  let P := plane T x.plane
  let wf := (Fmt.ofCode P.fmt).getD .int8
  let af := (Fmt.ofCode x.fmt).getD .int8
  let int := streamInt P x
  let a := x.src + m * x.stride
  let n := streamRowBytes af P.kUsed
  let scl := x.scl.map fun q => q + 4 * m
  match scratchBadAt T a n, scl.bind fun q => scratchBadAt T q 4 with
  | some b, _ => lateFault s p t 2 cyc x.pc x.index 0 b
  | none, some b => lateFault s p t 2 cyc x.pc x.index 0 b
  | none, none =>
    let s := s.readScratch p t a n
    let s := match scl with | some q => s.readScratch p t q 4 | none => s
    let codes := rowCodes T af a P.kUsed
    let scales := scl.map fun q => (List.range 4).map fun b => (Mem.read T.scratch (q + b)).toNat
    let sums := rowSums P int wf af codes scales
    let outs := sums.map (·.1)
    let flags := joinFlags (sums.map (·.2)) ||| (if (scales.getD []).any (· = 255) then flScaleNan else 0)
    let s := s.modTile t fun T => { T with group := T.group ++ [{ codes := codes, scales := scales.getD [], outs := outs }] }
    (s.tileFlags t 2 flags).fly p { cyc := cyc + 259 + slotExtra wf, rank := 1, work := .accRow t x m int outs }

/-- The last closure slot of a group: its checks are made, and stand 262 cycles later (R76, R91, R92). -/
def doClosure (s : State) (p t cyc : Nat) (x : StreamOp) (g : Nat) : State :=
  let T := s.tile t
  let P := plane T x.plane
  let wf := (Fmt.ofCode P.fmt).getD .int8
  let af := (Fmt.ofCode x.fmt).getD .int8
  let rows := T.group
  let outs := rows.map (·.outs)
  let v :=
    if streamInt P x then checkInt s T.closure P wf g (rows.map fun r => rowInts af r.codes) outs
    else checkFp s T.closure P wf g
      (rows.map fun r => rowVals af r.codes (if x.scl.isSome then some r.scales else none)) outs
  let s := { (s.modTile t fun T => { T with group := [] }) with fresh := s.fresh + 1 }
  s.fly p { cyc := cyc + 262 + slotExtra wf, rank := 1, work := .verdict t (x.index + 1) x.template g rows.length v }

/-- The accumulator entries of row `m` are written, or added to (R82); an uncorrectable entry that is added to faults the
STREAM. -/
def doAccRow (s : State) (p t cyc : Nat) (x : StreamOp) (m : Nat) (int : Bool) (vals : List Word) : State :=
  let T := s.tile t
  let base := x.base + m * x.pitch
  let n := vals.length
  match (if x.set then none else accBadAt T base n) with
  | some b => lateFault s p t 2 cyc x.pc x.index 1 b
  | none =>
    let s := if x.set then s else s.readAcc p t base n
    let (acc, fl) := writeRow T.acc base int x.set x.shift vals
    (s.modTile t fun T => { T with acc := acc, accErr := Tab.clear T.accErr base (base + n) }).tileFlags t 2 fl

/-- The pieces of `width` bytes of a row that lands by cycle `last`, one piece in each cycle. -/
def rowPieces (width last rank t a : Nat) (bytes : List Byte) : List Flight :=
  let q := (bytes.length + width - 1) / width
  (List.range q).map fun k =>
    { cyc := last + 1 + k - q, rank := rank, work := .scratch t (a + k * width) ((bytes.drop (k * width)).take width) }

/-- Row `m` of a DRAIN is read and converted; it lands in its own scratchpad in one cycle, 20 cycles after its p x (m + 1),
or in another tile at 128 B per cycle, 12 cycles later (R160), with its scales (R161). -/
def doDrainRow (s : State) (p t cyc : Nat) (x : DrainOp) (m : Nat) : State :=
  let T := s.tile t
  let a := x.base + m * x.pitch
  match accBadAt T a x.cols with
  | some b => lateFault s p t 3 cyc x.pc x.index 1 b
  | none =>
    let f := (Fmt.ofCode x.fmt).getD .int8
    let r := (Rnd.ofField x.rnd).getD .rne
    let s := s.readAcc p t a x.cols
    let vs : List Word := (List.range x.cols).map fun j => Tab.get 0 T.acc (a + j)
    let (codes, scales, fl) := drainRow f r x.sat x.scl.isSome x.fp x.shift vs
    let bytes := f.packRow codes (Config.padBits s.fresh m)
    let own : Bool := x.tile = t
    let at' := x.start + x.perRow * (m + 1) + (if own then 20 else 32)
    let rank := if own then rankLocal 3 0 else rankRemote (s.logicalTile p t)
    let dst := x.dst + m * x.stride
    let rows := if own then [{ cyc := at', rank := rank, work := Work.scratch t dst bytes }]
      else rowPieces 128 at' rank x.tile dst bytes
    let scls : List Flight := match x.scl with
      | some q => [{ cyc := at', rank := rank, work := .scratch x.tile (q + 16 * m) (scales.map (BitVec.ofNat 8)) }]
      | none => []
    let s := { (s.tileFlags t 3 fl) with fresh := s.fresh + 1 }
    let s := if own then s else s.count (some p) 0x12 ((bytes.length + 63) / 64)
    s.flyAll p (rows ++ scls)

/-- What one piece of work does, in its cycle. -/
def doWork (s : State) (p cyc : Nat) : Work → State
  | .weightRead t x j => doWeightRead s p t cyc x j
  | .streamRow t x m => doStreamRow s p t cyc x m
  | .closure t x g => doClosure s p t cyc x g
  | .accRow t x m int vals => doAccRow s p t cyc x m int vals
  | .verdict t index template g rows v => recordGroup s t p cyc index template g rows v
  | .drainRow t x m => doDrainRow s p t cyc x m
  | .scratch t a bytes => writeScratch s t a bytes
  | .sram u o bytes => writeUnitData s u o bytes

/-- How many pieces of work a piece can become, itself among them (a DRAIN row of 512 FP32 columns lands in 16 pieces). -/
def Work.size : Work → Nat
  | .streamRow .. => 2
  | .closure .. => 2
  | .drainRow .. => 20
  | _ => 1

/-- Do the first `n` pieces of work of parcel `p` that happen before cycle `upto`, in their order. -/
def settleRun (p upto : Nat) : Nat → State → State
  | 0, s => s
  | n + 1, s =>
    match (s.parcel p).flight with
    | [] => s
    | f :: rest =>
      if f.cyc < upto then settleRun p upto n (doWork (s.modParcel p fun P => { P with flight := rest }) p f.cyc f.work)
      else s

/-- The state at the start of cycle `upto` of parcel `p`'s leg: everything in flight that happens earlier has happened. -/
def State.settle (s : State) (p upto : Nat) : State :=
  (settleRun p upto (((s.parcel p).flight.map fun f => f.work.size).foldl (· + ·) 0) s).modParcel p fun P =>
    { P with clock := max P.clock upto }

/-- The state at the start of cycle `upto` of the leg of the parcel that holds tile `t`. -/
def State.settleTile (s : State) (t upto : Nat) : State :=
  match s.tileParcel t with
  | some p => s.settle p upto
  | none => s

/-- Everything in flight has happened: the leg's last cycle is past. -/
def State.settleAll (s : State) (p : Nat) : State :=
  s.settle p (((s.parcel p).flight.map (·.cyc)).foldl max 0 + 1024)

end Sys2Proof.Machine
end

