-- ==== Sys2Proof/Machine/Operands.lean ====
section
/-! DEFINITION. How a tile engine issues an instruction (05_engines.md R105 to R107, R126, R127; 06_tile_instructions.md
R132 to R143) and the operand forms of the tile instructions: offset registers, effective addresses, leg parameters and
post fields (R135 to R139), scratchpad and accumulator ranges (R136).
Readings and choices: log entries 9, 24 and 73. -/

namespace Sys2Proof.Machine

/-- An instruction at its issue: the state, where it issues and its word. -/
structure TCtx where
  /-- the state that the row meets: what a row that cannot issue yet leaves -/
  s0 : State
  s : State
  t : Nat
  e : Nat
  cyc : Nat
  /-- the parcel -/
  p : Nat
  T : Tile
  E : Engine
  /-- the instruction word -/
  w : Nat

namespace TCtx

/-- O[sel], read as unsigned; selector 0 names none (R135). -/
def off (c : TCtx) (sel : Nat) : Nat := if sel = 0 then 0 else (Tab.get 0 c.E.offs sel).toNat

/-- O[sel], read as a signed 40-bit value (R135). -/
def soff (c : TCtx) (sel : Nat) : Int := if sel = 0 then 0 else (Tab.get 0 c.E.offs sel).toInt

/-- Effective address: immediate * unit + O[sel], exact (R136). -/
def ea (c : TCtx) (lo n unit selLo : Nat) : Nat := fld c.w lo n * unit + c.off (fld c.w selLo 3)

/-- PARAM_k of the leg (R138). -/
def param (c : TCtx) (k : Nat) : Nat := launchParam c.T.launch k

/-- A post field resolved: a refused field faults (R139), a tile beyond the parcel is refused access (R113). -/
def resolvePost (c : TCtx) (f : PostField) : Except Cause (Option Post) :=
  if !f.en then .ok none
  else if f.inc = 0 then .error .illegalField
  else if f.self then .ok (some ⟨c.t, f.cairn, f.inc⟩)
  else
    match c.s.globalTile c.p f.tile with
    | some g => .ok (some ⟨g, f.cairn, f.inc⟩)
    | none => .error .accessRefused

/-- Is a field-level check of the post field broken (R139)? -/
def postIllegal (f : PostField) : Bool := f.en && f.inc = 0

end TCtx

/-- Check in order; the first that holds is the cause (R134). -/
def firstCause : List (Bool × Cause) → Except Cause Unit
  | [] => .ok ()
  | (b, k) :: r => if b then .error k else firstCause r

/-- Count the read accesses of the tile's scratchpad that correct a byte (R351): one event for each range. -/
def countScratch (c : TCtx) (s : State) (accesses : List (Nat × Nat)) : State :=
  accesses.foldl (fun s x => s.readScratch c.p c.t x.1 x.2) s

/-! ### Program order and loops (R105, R107, R145) -/

/-- Where the engine goes after the instruction at `pc`: the open loops whose body ends there take another trip or
close, innermost first. Answers the next index, the loops still open, and whether a back edge with refetch was taken
(8 cycles, R107). -/
def afterInstr (pc : Nat) : List LoopFrame → Nat × List LoopFrame × Bool
  | [] => (pc + 1, [], false)
  | f :: fs =>
    if f.last = pc then
      if f.done + 1 < f.trips then
        (f.first, { f with done := f.done + 1 } :: fs, 64 < f.last - f.first + 2)
      else afterInstr pc fs
    else (pc + 1, f :: fs, false)

/-- BUSY_ARRAY_e or BUSY_VECTOR_e of an engine (Table 12.11). -/
def busyKey (t e : Nat) : Nat := if isVectorTile t then 0x09 + e else 0x04 + e

/-- A refetching back edge (R107) empties the instruction queue, whose first word arrives 8 cycles after the occupancy; a
short one leaves the loop's body in the queue; otherwise the queue loses its head. -/
def queueAfter (T : Tile) (E : Engine) (npc last : Nat) (back : Bool) : List (BitVec 128) :=
  if back then []
  else if npc ≤ E.pc.toNat then
    ((List.range (last + 1 - npc)).map fun i => Tab.get 0 T.imem (npc + i)) ++ E.queue.drop 1 |>.take 64
  else E.queue.drop 1

/-- An instruction at `c` has issued and retires `ret` cycles later; the engine may issue again `occ` cycles later, 8
more on a refetching back edge (R107, R140). `busy` tells whether its occupancy counts as busy (R307). Execution past
index 4,095 faults with PC_RANGE: the record names PC 4,095, the last address there is, and the retire index of the
instruction that does not exist (log entry 73). -/
def retireAt (s : State) (t e cyc occ ret : Nat) (busy : Bool) : State :=
  let E := s.engine t e
  let (npc, loops, back) := afterInstr E.pc.toNat E.loops
  let next := cyc + occ + (if back then 8 else 0)
  let E' := { E with mode := .issuing, retired := E.retired + 1, loops := loops, nextIssue := next
                     retireAt := max E.retireAt (cyc + ret), queue := queueAfter (s.tile t) E npc E.pc.toNat back
                     fetchAt := if back then next else E.fetchAt, busyTo := if busy then cyc + occ else E.busyTo }
  let s := s.count (s.tileParcel t) (busyKey t e) (if busy then occ else 0)
  if npc < 4096 then s.setEngine t e { E' with pc := BitVec.ofNat 12 npc }
  else (s.setEngine t e E').engineFault t e (cyc + occ) .pcRange 7 0

/-- The engine may issue its next instruction in cycle `cyc`: it is issuing, has not met END, has not reached its halt
count (R127), and the predecessor's occupancy is over (R140). -/
def canIssue (T : Tile) (E : Engine) (e cyc : Nat) : Bool :=
  E.mode = .issuing && !E.ending && (launchHalt T.launch e = 0 || E.retired < launchHalt T.launch e) &&
  E.nextIssue ≤ cyc

/-! ### The fetch unit (R106) -/

/-- Is the word an END? -/
def isEnd (w : BitVec 128) : Bool := w.toNat % 256 = 0x01

/-- What the fetch unit may do next for an engine whose queue holds `q`: it is full, or the next instruction is an END, or
it would pass index 4,095, or it fetches a word. -/
inductive Fetch where
  | hold
  | past
  | word (w : BitVec 128)
deriving DecidableEq, Repr

def nextFetch (T : Tile) (pc : Nat) (q : List (BitVec 128)) : Fetch :=
  let i := pc + q.length
  if 64 ≤ q.length then .hold
  else if 4096 ≤ i then .past
  else if isEnd (Tab.get 0 T.imem i) then .hold
  else .word (Tab.get 0 T.imem i)

/-- `n` cycles of the fetch unit: the queue, and whether it has come to pass index 4,095. -/
def fetchRun (T : Tile) (pc : Nat) (q : List (BitVec 128)) : Nat → List (BitVec 128) × Bool
  | 0 => (q, false)
  | n + 1 =>
    match nextFetch T pc q with
    | .hold => (q, false)
    | .past => (q, true)
    | .word w => fetchRun T pc (q ++ [w]) n

/-- The engine's queue at cycle `cyc`: one word has arrived in each cycle from `fetchAt` on (R106). More than 64 cycles
fill it. -/
def fetchQueue (T : Tile) (E : Engine) (cyc : Nat) : List (BitVec 128) × Bool :=
  fetchRun T E.pc.toNat E.queue (min 65 (cyc + 1 - E.fetchAt))

/-- The engine after the fetch unit has run to cycle `cyc`. -/
def fetched (T : Tile) (E : Engine) (cyc : Nat) : Engine :=
  { E with queue := (fetchQueue T E cyc).1, fetchAt := max E.fetchAt (cyc + 1) }

/-- The instruction that the engine can issue: the head of its queue, or an END, which the fetch unit leaves in the memory;
none where the queue is starved. -/
def issueWord (T : Tile) (E : Engine) : Option (BitVec 128) :=
  match E.queue with
  | w :: _ => some w
  | [] => if isEnd (Tab.get 0 T.imem E.pc.toNat) then some (Tab.get 0 T.imem E.pc.toNat) else none

/-! ### Issue -/

/-- Issue the instruction at the engine's program counter as one whose opcode satisfies `mine` (R133, R134), after what
lands before cycle `cyc` has landed: a fetch past index 4,095, an uncorrectable word and an opcode that the engine does not
accept fault; a word with another opcode is another row's, and nothing happens, as where the engine cannot issue or is
starved. `body` gives the instruction's effect, or the first cause of R134 it meets. -/
def issueAs (s0 : State) (t e cyc : Nat) (k : EngineKind) (mine : Nat → Bool) (body : TCtx → Except Cause State) :
    State :=
  match s0.tileParcel t with
  | some p =>
    let s := s0.settle p cyc
    let T := s.tile t
    let E := fetched T (s.engine t e) cyc
    if !s.legIssues p cyc || !canIssue T E e cyc then s0
    else if (fetchQueue T (s.engine t e) cyc).2 then s.engineFault t e cyc .pcRange 7 0
    else
      match issueWord T E with
      | none => s0
      | some word =>
        if TCtx.slotsBad T E.pc.toNat 1 then
          (s.logCycle cyc 2 1 t (some p) 2 (E.pc.toNat * 16)).engineFault t e cyc .fetchUncorrectable 7 0
        else
          let w := word.toNat
          let op := w % 256
          if !opcodeAccepted k (isVectorTile t) op then s.engineFault t e cyc .illegalOpcode 7 0
          else if !mine op then s0
          else
            let s := (s.setEngine t e E).beginLeg p
            let s1 := if slotsCorr T E.pc.toNat 1 then s.bucketEvent 1 t (some p) else s
            match body { s0 := s0, s := s1, t := t, e := e, cyc := cyc, p := p, T := s1.tile t, E := E, w := w } with
            | .ok s' => s'
            | .error cause => s1.engineFault t e cyc cause 7 0
  | none => s0

/-- A tile instruction row: engine 4 of a vector tile does not exist (Table 5.1). -/
def issue (s : State) (t e cyc : Nat) (mine : Nat → Bool) (body : TCtx → Except Cause State) :
    Host.Outcome State Fault Refusal :=
  match engineKind t e with
  | none => .fault .noSuchInstance
  | some k => .next (issueAs s t e cyc k mine body)

/-! ### Writes of an instruction (R250, Table 10.2) -/

/-- The bytes of the tile's own scratchpad that the instruction writes land in the cycle in which it retires, `ret` cycles
after its issue: what retirement makes visible (R142, R250). -/
def TCtx.land (c : TCtx) (s : State) (ret a : Nat) (bytes : List Byte) : State :=
  s.fly c.p { cyc := c.cyc + ret, rank := rankLocal c.e 0, work := .scratch c.t a bytes }

/-- A read of an uncorrectable byte of the scratchpad at `addr` by the instruction that issues. -/
def TCtx.sramFault (c : TCtx) (addr : Nat) : State := sramFaultAt c.s c.t c.e c.cyc c.E.pc c.E.retired 0 addr

/-- The constant slots [i, i + n) that a COPY or GPERM reads, where it reads any: an uncorrectable one makes an UNCORR_SRAM
record (Table 14.3) and the fault; a corrected one counts (R351). -/
def TCtx.withSlots (c : TCtx) (slots : Option (Nat × Nat)) (body : TCtx → Except Cause State) : Except Cause State :=
  match slots with
  | none => body c
  | some (i, n) =>
    match errAt c.T.imemErr 2 i n with
    | some b =>
      .ok ((c.s.logCycle c.cyc 2 1 c.t (some c.p) 2 (b * 16)).engineFault c.t c.e c.cyc .fetchUncorrectable 7 0)
    | none => body { c with s := if slotsCorr c.T i n then c.s.bucketEvent 1 c.t (some c.p) else c.s }

/-- Bytes `[a, a+n)` and `[b, b+m)` meet. -/
def rangesMeet (a n b m : Nat) : Bool := a < b + m && b < a + n

end Sys2Proof.Machine
end

