-- ==== Sys2Proof/Machine/TileCommon.lean ====
section
/-! DEFINITION. The common tile instructions (06_tile_instructions.md R144 to R149) and the cairns they wait on and
post to (05_engines.md R110 to R116, R119). -/

namespace Sys2Proof.Machine

/-- Put a post in flight (R113). -/
def sendPost (s : State) (t e : Nat) (d : Option Post) : State :=
  match d with
  | none => s
  | some d => { s with posts := s.posts ++ [{ srcTile := t, srcEngine := e, dst := d }] }

/-- NOP issues nothing for COUNT_M1 + 1 cycles (R144). -/
def nopBody (c : TCtx) : Except Cause State :=
  let n := fld c.w 8 16 + 1
  .ok (retireAt c.s c.t c.e c.cyc n n true)

def execTileNop (t : TileId) (e : EngineId) (cyc : Nat) (s : State) : Host.Outcome State Fault Refusal :=
  issue s t e cyc (· = 0x00) nopBody

/-- END: the engine issues nothing more; it ends when R110 and R140 allow (ENGINE_END_RETIRE). Open loops are
discarded. -/
def endBody (c : TCtx) : Except Cause State :=
  .ok (c.s.setEngine c.t c.e { c.E with ending := true, loops := [], nextIssue := c.cyc, busyFrom := c.cyc })

def execTileEnd (t : TileId) (e : EngineId) (cyc : Nat) (s : State) : Host.Outcome State Fault Refusal :=
  issue s t e cyc (· = 0x01) endBody

/-- LOOP opens a counted loop (R145, R146). -/
def loopBody (c : TCtx) : Except Cause State := do
  let pc := c.E.pc.toNat
  let len := fld c.w 8 12
  let trips := if bitAt c.w 20 then c.param (fld c.w 21 4) else fld c.w 25 20 + 1
  let last := pc + len
  let outer := match c.E.loops with | f :: _ => f.last < last | [] => false
  firstCause
    [(len = 0, .illegalField), (trips < 1 || 2 ^ 20 < trips, .illegalField), (outer, .illegalField),
     (4095 < last, .pcRange), (4 ≤ c.E.loops.length, .loopDepth)]
  .ok (c.s.setEngine c.t c.e
    { c.E with
        loops := { first := pc + 1, last := last, trips := trips, done := 0 } :: c.E.loops
        pc := BitVec.ofNat 12 (pc + 1)
        queue := c.E.queue.drop 1
        retired := c.E.retired + 1
        nextIssue := c.cyc + 1
        busyTo := c.cyc + 1
        retireAt := max c.E.retireAt (c.cyc + 1) } |>.count (some c.p) (busyKey c.t c.e) 1)

def execTileLoop (t : TileId) (e : EngineId) (cyc : Nat) (s : State) : Host.Outcome State Fault Refusal :=
  issue s t e cyc (· = 0x02) loopBody

/-- The value of cairn `j` at the start of cycle `cyc`: without the posts added in that cycle (R114). -/
def cairnAt (T : Tile) (j cyc : Nat) : Nat :=
  Tab.get 0 T.cairns j - ((T.arrivals.filter fun a => cyc ≤ a.1 && a.2.1 = j).map (·.2.2)).foldl (· + ·) 0

/-- WAIT on a cairn of the own tile (R112, R114, R147): satisfied when the cairn, as the cycle begins, is at least the
target. -/
def waitBody (c : TCtx) : Except Cause State :=
  let cairn := fld c.w 8 6
  let target := sfld c.w 14 17 + c.soff (fld c.w 31 3)
  if 65535 < target then .error .illegalField
  else if target ≤ 0 || target.toNat ≤ cairnAt c.T cairn c.cyc then .ok (retireAt c.s c.t c.e c.cyc 1 0 false)
  else
    .ok (c.s.setEngine c.t c.e
      { c.E with mode := .waitCairn, waitCairn := BitVec.ofNat 6 cairn, waitTarget := target.toNat, waitSince := c.cyc })

def execTileWait (t : TileId) (e : EngineId) (cyc : Nat) (s : State) : Host.Outcome State Fault Refusal :=
  issue s t e cyc (· = 0x03) waitBody

/-- POST makes the post its field names, once every earlier instruction has retired (R140, R148); too early, nothing
happens. -/
def postBody (c : TCtx) : Except Cause State := do
  let f := postField c.w 8
  if c.cyc ≤ c.E.retireAt then return c.s0
  if !f.en then throw .illegalField
  let d ← c.resolvePost f
  .ok (sendPost (retireAt c.s c.t c.e c.cyc 1 0 true) c.t c.e d)

def execTilePost (t : TileId) (e : EngineId) (cyc : Nat) (s : State) : Host.Outcome State Fault Refusal :=
  issue s t e cyc (· = 0x04) postBody

/-- SETO sets an offset register from IMM40 or a shifted parameter (R149). -/
def setoBody (c : TCtx) : Except Cause State := do
  let r := fld c.w 8 3
  let v := if bitAt c.w 11 then c.param (fld c.w 12 4) * 2 ^ fld c.w 16 4 else fld c.w 20 40
  firstCause [(r = 0, .illegalField), (2 ^ 40 ≤ v, .illegalField)]
  let s := c.s.setEngine c.t c.e { c.E with offs := Tab.set 0 c.E.offs r (BitVec.ofNat 40 v) }
  .ok (retireAt s c.t c.e c.cyc 1 1 true)

def execTileSeto (t : TileId) (e : EngineId) (cyc : Nat) (s : State) : Host.Outcome State Fault Refusal :=
  issue s t e cyc (· = 0x05) setoBody

/-- ADDO's result: the sum modulo 2^40, less WRAP once where WRAP is not 0 and the sum is at least WRAP (R149). -/
def addoValue (old imm wrap : BitVec 40) : BitVec 40 :=
  let v := old + imm
  if wrap ≠ 0 ∧ wrap ≤ v then v - wrap else v

/-- ADDO adds to an offset register (R149). -/
def addoBody (c : TCtx) : Except Cause State := do
  let r := fld c.w 8 3
  if r = 0 then throw .illegalField
  let v := addoValue (Tab.get 0 c.E.offs r) (BitVec.ofNat 40 (fld c.w 11 40)) (BitVec.ofNat 40 (fld c.w 51 40))
  let s := c.s.setEngine c.t c.e { c.E with offs := Tab.set 0 c.E.offs r v }
  .ok (retireAt s c.t c.e c.cyc 1 1 true)

def execTileAddo (t : TileId) (e : EngineId) (cyc : Nat) (s : State) : Host.Outcome State Fault Refusal :=
  issue s t e cyc (· = 0x06) addoBody

/-! ### Ends, halts, posts and timeouts -/

/-- Everything of the engine's that an END or a halt waits for has happened (R110): its copies are complete, its posts
added, its launches reported. -/
def outstandingDone (s : State) (t e : Nat) : Bool :=
  let E := s.engine t e
  E.chans.all (fun c => c.2.queue.isEmpty) && E.launches.isEmpty &&
  s.posts.all (fun q => !(q.srcTile = t && q.srcEngine = e))

/-- END retires (R110): the engine has ended. Its occupancy from issue to retirement counts as busy (R307). -/
def execEngineEndRetire (t : TileId) (e : EngineId) (cyc : Nat) (s : State) : Host.Outcome State Fault Refusal :=
  let s := s.settleTile t cyc
  let E := s.engine t e
  if E.mode = .issuing && E.ending && outstandingDone s t e && E.retireAt < cyc && E.nextIssue ≤ cyc then
    .next ((s.setEngine t e { E with mode := .ended, ending := false, retired := E.retired + 1,
                                     retireLast := BitVec.ofNat 32 (E.retired + 1), retireAt := cyc }).count
      (s.tileParcel t) (busyKey t e) (cyc - E.busyFrom))
  else .next s

/-- The engine has retired HALT_COUNT instructions and its outstanding work is done: state 4 (R127). -/
def execEngineHalt (t : TileId) (e : EngineId) (cyc : Nat) (s : State) : Host.Outcome State Fault Refusal :=
  let s := s.settleTile t cyc
  let E := s.engine t e
  let h := launchHalt (s.tile t).launch e
  if E.mode = .issuing && !E.ending && h ≠ 0 && E.retired = h && outstandingDone s t e && E.retireAt ≤ cyc then
    .next (s.setEngine t e { E with mode := .halted, retireLast := BitVec.ofNat 32 E.retired })
  else .next s

/-- Take the first element that satisfies `f` out of a list. -/
def takeFirst {α : Type} (f : α → Bool) : List α → Option (α × List α)
  | [] => none
  | x :: xs => if f x then some (x, xs) else (takeFirst f xs).map fun r => (r.1, x :: r.2)

/-- Every WAIT of tile `t` that the cairn `j` satisfies from cycle `cyc` on retires in it, and its engine may issue in it
(R112, R114, R143). -/
def wakeWaiters (s : State) (t j cyc : Nat) : Nat → State
  | 0 => s
  | k + 1 =>
    let s := wakeWaiters s t j cyc k
    let E := s.engine t k
    if E.mode = .waitCairn && E.waitCairn.toNat = j && E.waitTarget ≤ Tab.get 0 (s.tile t).cairns j then
      retireAt s t k cyc 0 0 false
    else s

/-- Add `inc` to cairn `j` of tile `t` in cycle `cyc` (R111, R114): a post that would pass 65,535 is not added, and engine
0 of the tile faults with CAIRN_OVERFLOW. -/
def addToCairn (s : State) (t j inc cyc : Nat) : State :=
  let v := Tab.get 0 (s.tile t).cairns j + inc
  if 65535 < v then s.engineFault t 0 cyc .cairnOverflow 7 j
  else
    wakeWaiters (s.modTile t fun T =>
      { T with cairns := Tab.set 0 T.cairns j v
               arrivals := (T.arrivals.filter fun a => cyc ≤ a.1) ++ [(cyc, j, inc)] }) t j (cyc + 1) (engineCount t)

/-- POST_ARRIVAL: the oldest post in flight to cairn `cairn` of tile `t` is added in cycle `cyc` (R114). -/
def execPostArrival (t : TileId) (cairn : BitVec 6) (cyc : Nat) (s : State) : Host.Outcome State Fault Refusal :=
  let s := s.settleTile t cyc
  match takeFirst (fun q : PostFlight => q.dst.tile = t.val && q.dst.cairn = cairn.toNat) s.posts with
  | none => .next s
  | some (q, rest) => .next (addToCairn { s with posts := rest } t cairn.toNat q.dst.inc cyc)

/-- A cairn WAIT unsatisfied after LEG_BUDGET_CYCLES faults its engine (R116). -/
def execWaitTimeout (t : TileId) (e : EngineId) (cyc : Nat) (s : State) : Host.Outcome State Fault Refusal :=
  let s := s.settleTile t cyc
  let E := s.engine t e
  if E.mode = .waitCairn && E.waitSince + s.legBudget ≤ cyc then
    .next (s.engineFault t e cyc .waitTimeout 7 E.waitCairn.toNat)
  else .next s

/-- A queue-space wait unsatisfied after LEG_BUDGET_CYCLES faults its engine (R119). Its record's CAIRN is 0 and its
COPY_CHANNEL 7: Table 5.7 says of neither what a queue-space wait records (DESIGN CHOICE, log entry 73). -/
def execWaitqTimeout (t : TileId) (e : EngineId) (cyc : Nat) (s : State) : Host.Outcome State Fault Refusal :=
  let s := s.settleTile t cyc
  let E := s.engine t e
  if E.mode = .waitQueue && E.waitSince + s.legBudget ≤ cyc then .next (s.engineFault t e cyc .waitTimeout 7 0)
  else .next s

end Sys2Proof.Machine
end

