-- ==== Sys2Proof/Machine/TileCopy.lean ====
section
/-! DEFINITION. Copy descriptors and Celulo launches: COPY, WAITQ and CLAUNCH (06_tile_instructions.md R150 to R153), the
checks of a descriptor (07_layout_graticule.md R173 to R179), its runs (R174, R177, R472) and its completion
(05_engines.md R117). -/

namespace Sys2Proof.Machine

/-- Does `f` hold of every natural number below `n`? -/
def allBelow (f : Nat → Bool) : Nat → Bool
  | 0 => true
  | n + 1 => allBelow f n && f n

/-- R178: the destination side of a descriptor does not overlap itself. `dims` are the magnitudes and counts - 1 of the
dimensions whose count exceeds 1. -/
def insertDim (d : Nat × Nat) : List (Nat × Nat) → List (Nat × Nat)
  | [] => [d]
  | x :: xs => if d.1 ≤ x.1 then d :: x :: xs else x :: insertDim d xs

def sortDims : List (Nat × Nat) → List (Nat × Nat)
  | [] => []
  | d :: ds => insertDim d (sortDims ds)

def spanOk (span : Nat) : List (Nat × Nat) → Bool
  | [] => true
  | (m, n) :: ds => span ≤ m && spanOk (m * n + span) ds

/-- R178 for a descriptor; `load` tells whether the scratchpad side is the destination. -/
def destOk (d : BitVec 512) (load : Bool) : Bool :=
  let stride (i : Nat) : Nat := (if load then Desc.lstride d i else Desc.fstride d i).natAbs
  spanOk (Desc.run d)
    (sortDims (([1, 2, 3].filter fun i => 1 < Desc.count d i).map fun i => (stride i, Desc.count d i - 1)))

/-- Every run's address on one side is a multiple of `u`: the base is, and so is each stride of a dimension whose count
exceeds 1 (R175). -/
def sideAligned (d : BitVec 512) (base u : Nat) (load : Bool) : Bool :=
  base % u = 0 &&
  [1, 2, 3].all fun i => Desc.count d i = 1 || (if load then Desc.lstride d i else Desc.fstride d i) % (u : Int) = 0

/-- Where one run of a descriptor lies (Table 7.3). -/
inductive FarPlace where
  | stack (channel offset : Nat)
  | unit (u offset : Nat)
  | tile (t offset : Nat)
  | outside
deriving DecidableEq, Repr

/-- Decode a run's far address (Table 7.3, R169, R176): a place in the parcel, or outside it. -/
def farPlace (s : State) (p kind : Nat) (f : Int) : FarPlace :=
  match f with
  | .negSucc _ => .outside
  | .ofNat a =>
    if kind = 0 then
      match s.stackPlace p a with | some (c, o) => .stack c o | none => .outside
    else if 2 ^ 29 ≤ a then .outside
    else if kind = 1 then
      match s.globalUnit p (a / 0x4000) with
      | some u => if s.channelFailed (u / 64) then .outside else .unit u (a % 0x4000)
      | none => .outside
    else
      match s.globalTile p (a / 0x100000) with | some t => .tile t (a % 0x100000) | none => .outside

/-- A run that leaves its channel or its data SRAM (R175). -/
def runCrosses (kind run : Nat) (f : Int) : Bool :=
  if kind = 0 then (channelBytes : Int) < f % (channelBytes : Int) + run
  else if kind = 1 then (0x4000 : Int) < f % (0x4000 : Int) + run
  else false

/-- The effective bases: the descriptor's addresses plus the two offset registers (R150, R173). -/
def copyBases (c : TCtx) (d : BitVec 512) : Nat × Nat :=
  (Desc.localAddr d + c.off (fld c.w 22 3), Desc.farAddr d + c.off (fld c.w 25 3))

/-- The descriptor that a COPY names: four slots from DESC, little-endian (R150). -/
def copyDescriptor (c : TCtx) : BitVec 512 :=
  let i := fld c.w 10 12
  let w (k : Nat) : Nat := (Tab.get 0 c.T.imem (i + k)).toNat
  BitVec.ofNat 512 (w 0 + 2 ^ 128 * w 1 + 2 ^ 256 * w 2 + 2 ^ 384 * w 3)

/-- Free entries of a copy channel's queue at the start of cycle `cyc` (R118): an entry freed in a cycle counts from the
next one on, as a post does (R114). -/
def queueFree (K : CopyChan) (cyc : Nat) : Nat := 16 - (K.queue.length + (if cyc ≤ K.freed.1 then K.freed.2 else 0))

/-- COPY checks its descriptor and enqueues it (R150, R151, R175 to R179, in the order of R134). -/
def copyBody (c : TCtx) : Except Cause State := do
  let ch := fld c.w 8 2
  let i := fld c.w 10 12
  let pf := postField c.w 28
  if 4095 < i + 3 then throw .illegalField
  let d := copyDescriptor c
  let (l0, f0) := copyBases c d
  let kind := Desc.kind d
  let load := c.e = 0
  let run := Desc.run d
  let n := Desc.runs d
  let store0 := !load && kind = 0
  let far (i : Nat) : Int := (Desc.addrs d l0 f0 i).2
  let loc (i : Nat) : Int := (Desc.addrs d l0 f0 i).1
  let place (i : Nat) : FarPlace := farPlace c.s c.p kind (far i)
  firstCause
    [(TCtx.postIllegal pf, .illegalField),
     (kind = 3 || (kind ≠ 0 && !(isVectorTile c.t && c.e = 3)), .illegalField),
     (kind = 0 && Desc.targets d ≠ 1, .illegalField),
     (!sideAligned d l0 16 true, .illegalField),
     (!store0 && !sideAligned d f0 16 false, .illegalField),
     (!allBelow (fun i => !runCrosses kind run (far i)) n, .illegalField),
     (!destOk d load, .illegalField),
     (!allBelow (fun i => match place i with
         | .outside => false
         | .stack c' o => !c.s.rangeRetired c' o run
         | _ => true) n, .accessRefused)]
  let post ← c.resolvePost pf
  firstCause
    [(!allBelow (fun i => 0 ≤ loc i && !TCtx.scratchOver c.t (loc i).toNat run) n, .scratchRange),
     (!allBelow (fun i => match place i with | .tile t o => !TCtx.scratchOver t o run | _ => true) n, .scratchRange),
     (store0 && !(sideAligned d f0 64 false && run % 64 = 0), .granulePartial),
     (queueFree (c.s.copyChan c.t c.e ch) c.cyc = 0, .queueOverflow)]
  let s := c.s.modCopyChan c.t c.e ch fun K =>
    { K with queue := K.queue ++ [{ raw := d, localBase := l0, farBase := f0, post := post, started := 0, inFlight := 0
                                    landAt := c.cyc }] }
  .ok (retireAt s c.t c.e c.cyc 4 4 true)

def execTileCopy (t : TileId) (e : EngineId) (cyc : Nat) (s : State) : Host.Outcome State Fault Refusal :=
  issue s t e cyc (· = 0x10) fun c =>
    c.withSlots (if fld c.w 10 12 + 3 ≤ 4095 then some (fld c.w 10 12, 4) else none) copyBody

/-- WAITQ waits for NFREE free entries (R118, R152). -/
def waitqBody (c : TCtx) : Except Cause State :=
  let ch := fld c.w 8 2
  let n := fld c.w 10 5
  if n < 1 || 16 < n then .error .illegalField
  else if n ≤ queueFree (c.s.copyChan c.t c.e ch) c.cyc then .ok (retireAt c.s c.t c.e c.cyc 1 0 false)
  else
    .ok (c.s.setEngine c.t c.e
      { c.E with mode := .waitQueue, waitChannel := BitVec.ofNat 2 ch, waitTarget := n, waitSince := c.cyc })

def execTileWaitq (t : TileId) (e : EngineId) (cyc : Nat) (s : State) : Host.Outcome State Fault Refusal :=
  issue s t e cyc (· = 0x11) waitqBody

/-! ### Runs -/

/-- A copy channel that has met an uncorrectable byte halts, and its engine faults with the channel number (R122). -/
def copyFault (s : State) (t e ch cyc : Nat) (cause : Cause) : State :=
  (s.modCopyChan t e ch fun K => { K with halted := true }).engineFault t e cyc cause ch 0

/-- The place of the first descriptor of the queue with runs to start (R472), counted from the queue's head. -/
def nextToStart : List CopyDesc → Nat → Option (Nat × CopyDesc)
  | [], _ => none
  | d :: ds, i => if d.started < Desc.runs d.raw then some (i, d) else nextToStart ds (i + 1)

/-- Replace the descriptor at place `i`. -/
def setDesc (f : CopyDesc → CopyDesc) : List CopyDesc → Nat → List CopyDesc
  | [], _ => []
  | d :: ds, 0 => f d :: ds
  | d :: ds, i + 1 => d :: setDesc f ds i

/-- Granules of 64 B that `n` bytes round up to (R307). -/
def granules (n : Nat) : Nat := (n + 63) / 64

/-- BRIDGE counts granules that cross the die-to-die bridge (Table 12.11). -/
def countBridge (s : State) (p : Option Nat) (secA secB n : Nat) : State :=
  if dieOfSector secA = dieOfSector secB then s else s.count p 0x13 (granules n)

/-- A run to a unit or another tile reads its bytes in cycle `cyc` and lands in it: those for a unit, at the end of the
Celulo cycle (R237). `sec` is the sector it goes to. -/
def moveRun (s : State) (t e ch cyc p i l run sec land : Nat) (f : List Byte → Flight) : State :=
  let T := s.tile t
  match scratchBadAt T l run with
  | some b => copyFault (s.logCycle cyc 2 1 t (some p) 0 b) t e ch cyc .sramUncorrectable
  | none =>
    let s := s.readScratch p t l run
    let s := s.modCopyChan t e ch fun K => { K with queue := setDesc (fun d => { d with landAt := max d.landAt land }) K.queue i }
    countBridge ((s.fly p (f (Mem.readBytes T.scratch l run))).count (some p) 0x12 (granules run)) (some p) (tileSector t)
      sec run

/-- Start run `k` of descriptor place `i` in cycle `cyc` (R174, R472): to a unit or a tile it lands at once; to or from
stack memory it waits for its segment turns (R190). -/
def startRun (s : State) (t e ch cyc p i : Nat) (d : CopyDesc) : State :=
  let k := d.started
  let (l, f) := Desc.addrs d.raw d.localBase d.farBase k
  let run := Desc.run d.raw
  let started := s.modCopyChan t e ch fun K => { K with queue := setDesc (fun d => { d with started := k + 1 }) K.queue i }
  match farPlace s p (Desc.kind d.raw) f with
  | .outside => started
  | .unit u o =>
    moveRun started t e ch cyc p i l.toNat run (channelSector (u / 64)) (celuloEnd cyc)
      fun bytes => { cyc := celuloEnd cyc, rank := rankDescriptor, work := .sram u o bytes }
  | .tile t' o =>
    moveRun started t e ch cyc p i l.toNat run (tileSector t') cyc
      fun bytes => { cyc := cyc, rank := rankRemote (s.logicalTile p t), work := .scratch t' o bytes }
  | .stack c o =>
    started.modCopyChan t e ch fun K =>
      { K with
          queue := setDesc (fun d => { d with inFlight := d.inFlight + 1 }) K.queue i
          runSeq := K.runSeq + 1
          runs := K.runs ++
            [{ seq := K.runSeq, desc := K.completed + i, volatile := Desc.volatile d.raw && e = 0, scratch := l.toNat,
               channel := c, offset := o, len := run, pos := 0 }] }

/-- COPY_RUN: copy channel `ch` starts its next run in cycle `cyc`, with fewer than 8 in flight (R472). A channel that has
halted or whose leg has stopped starts none (R120, R122). -/
def execCopyRun (t : TileId) (e : EngineId) (ch : Fin 4) (cyc : Nat) (s : State) : Host.Outcome State Fault Refusal :=
  match s.tileParcel t with
  | none => .next s
  | some p =>
    let s := s.settle p cyc
    let K := s.copyChan t e ch
    match nextToStart K.queue 0 with
    | some (i, d) =>
      if K.halted || 8 ≤ K.runs.length || !s.legIssues p cyc then .next s else .next (startRun s t e ch cyc p i d)
    | none => .next s

/-- A WAITQ on copy channel `ch` that its free entries satisfy from cycle `cyc` on retires in it, and its engine may issue
in it (R118, R143). -/
def wakeQueueWait (s : State) (t e ch cyc : Nat) : State :=
  let E := s.engine t e
  if E.mode = .waitQueue && E.waitChannel.toNat = ch && E.waitTarget ≤ queueFree (s.copyChan t e ch) cyc then
    retireAt s t e cyc 0 0 false
  else s

/-- The oldest descriptor leaves the queue in cycle `cyc` and counts as complete (R117). -/
def freeEntry (K : CopyChan) (cyc : Nat) : CopyChan :=
  { K with queue := K.queue.drop 1, completed := K.completed + 1,
           freed := (cyc, (if K.freed.1 = cyc then K.freed.2 else 0) + 1) }

/-- DESCRIPTOR_COMPLETE: the oldest descriptor of the channel, all its runs landed, leaves the queue, counts as complete
and makes its post (R117); a WAITQ that its entry satisfies is satisfied in the next cycle (R118). -/
def execDescriptorComplete (t : TileId) (e : EngineId) (ch : Fin 4) (cyc : Nat) (s : State) :
    Host.Outcome State Fault Refusal :=
  let s := s.settleTile t cyc
  let K := s.copyChan t e ch
  match K.queue with
  | d :: _ =>
    if K.halted || d.started < Desc.runs d.raw || d.inFlight ≠ 0 || cyc < d.landAt then .next s
    else
      let s := s.modCopyChan t e ch fun K => freeEntry K cyc
      .next (wakeQueueWait (sendPost s t e d.post) t e ch (cyc + 1))
  | [] => .next s

/-! ### CLAUNCH -/

/-- The units that a CLAUNCH selects: logical channels CH_FIRST to CH_FIRST + CH_COUNT_M1, pairs PAIR_FIRST to
PAIR_FIRST + PAIR_COUNT_M1; none where a channel lies outside the parcel (R153). -/
def claunchUnits (c : TCtx) : Option (List Nat) :=
  let chans := (List.range (fld c.w 17 9 + 1)).map fun i => c.s.globalChannel c.p (fld c.w 8 9 + i)
  if chans.any fun x => match x with | none => true | some g => c.s.channelFailed g then none
  else
    some ((chans.filterMap id).flatMap fun g =>
      (List.range (fld c.w 32 6 + 1)).map fun i => g * 64 + fld c.w 26 6 + i)

/-- CLAUNCH sends a launch to every unit selected (R153, R235, R236). -/
def claunchBody (c : TCtx) : Except Cause State := do
  let pf := postField c.w 86
  firstCause [(TCtx.postIllegal pf, .illegalField), (63 < fld c.w 26 6 + fld c.w 32 6, .illegalField)]
  let post ← c.resolvePost pf
  match claunchUnits c with
  | none => throw .accessRefused
  | some us =>
    if 8 ≤ c.E.launches.length then throw .queueOverflow
    let id := c.E.retired
    let arg := if bitAt c.w 49 then c.param (fld c.w 50 4) else fld c.w 54 32
    let L : UnitLaunch := { entry := BitVec.ofNat 11 (fld c.w 38 11), arg := BitVec.ofNat 32 arg, tile := c.t, id := id }
    let s := c.s.setEngine c.t c.e { c.E with launches := c.E.launches ++ [{ id := id, remaining := us, post := post }] }
    let s := { s with launches := s.launches ++ us.map fun u => { unit := u, launch := L } }
    let occ := 4 + (fld c.w 17 9 + 1 + 7) / 8
    .ok (retireAt s c.t c.e c.cyc occ occ true)

def execTileClaunch (t : TileId) (e : EngineId) (cyc : Nat) (s : State) : Host.Outcome State Fault Refusal :=
  issue s t e cyc (· = 0x50) claunchBody

/-- LAUNCH_COMPLETION_POST: a launch that every unit has completed makes its post (R235), which POST_ARRIVAL adds. -/
def execLaunchCompletionPost (t : TileId) (e : EngineId) (cyc : Nat) (s : State) : Host.Outcome State Fault Refusal :=
  let s := s.settleTile t cyc
  let E := s.engine t e
  match takeFirst (fun l : Launch => l.remaining.isEmpty) E.launches with
  | none => .next s
  | some (l, rest) =>
    .next (sendPost (s.setEngine t e { E with launches := rest }) t e l.post)

end Sys2Proof.Machine
end

