-- ==== Sys2Proof/Machine/Stack.lean ====
section
/-! DEFINITION. The channel controllers (08_pereo_stacks.md): the address map (R188), segment turns (R190, R191), staging
lines (R198 to R201, R254), refresh, scrub and clear slots (R203, R205, R206), whole-channel clearing (R207), training and
spare lanes (R208 to R211), with the error rules of 14_errors.md (R350, R351, R356).
Readings and choices: log entries 3, 28, 29, 30 and 53. -/

namespace Sys2Proof.Machine

/-! ### Addresses (Table 8.2) -/

/-- Segment number of an offset: 2 KiB segments. -/
def segOf (o : Nat) : Nat := o / 2048
/-- Bank pair of an offset: bits [21:16]. -/
def pairOf (o : Nat) : Nat := o / 65536 % 64
/-- Bank of an offset: bit 11. -/
def bankOf (o : Nat) : Nat := o / 2048 % 2
/-- Row of an offset within its bank: STRIPE * 16 + SEG. -/
def rowOf (o : Nat) : Nat := o / 0x400000 * 16 + o / 4096 % 16
/-- Key of an offset of channel `c` in the stack memory. -/
def stackKey (c o : Nat) : Nat := c * channelBytes + o
/-- The granule numbers that the range [o, o + n) of channel `c` touches. -/
def granulesOf (c o n : Nat) : List Nat :=
  (List.range ((o + n + 63) / 64 - o / 64)).map fun i => stackKey c 0 / 64 + o / 64 + i

/-! ### Staging lines (8.4) -/

/-- Where the lines of channel `c` are kept: the ways of its sector in its stack (R198). -/
def lineKey (c : Nat) : Nat := channelSector c * 12 + channelStack c

/-- A range of a memory, keyed from 0. -/
def Tab.slice {α : Type} (m : Tab α) (lo n : Nat) : Tab α :=
  (m.filter fun x => lo ≤ x.1 && x.1 < lo + n).map fun x => (x.1 - lo, x.2)

/-- The line that holds segment `g` of channel `c`, if any. -/
def lineOf (s : State) (c g : Nat) : Option Line :=
  (Tab.get [] s.lines (lineKey c)).find? fun l => l.channel = c && l.segment = g

/-- A copy of segment `g` as a read of its bank gives it: a correctable granule corrected, an uncorrectable one marked so
(R199, R349). -/
def freshLine (s : State) (c g : Nat) : Line :=
  let k := stackKey c (g * 2048)
  { channel := c, segment := g, data := Tab.slice s.stack k 2048,
    errs := (Tab.slice s.stackErr (k / 64) 32).filter fun x => x.2 = 2 }

/-- Place segment `g` of channel `c` in a line: a line that holds it takes the bank's data, else a new line is the
youngest of at most 512 (R199, R200). -/
def placeLine (s : State) (c g : Nat) : State :=
  let ls := Tab.get [] s.lines (lineKey c)
  let l := freshLine s c g
  let ls' :=
    if ls.any fun x => x.channel = c && x.segment = g then
      ls.map fun x => if x.channel = c && x.segment = g then l else x
    else (if ls.length < 512 then ls else ls.drop 1) ++ [l]
  { s with lines := Tab.set [] s.lines (lineKey c) ls' }

/-- Drop the line of segment `g` of channel `c`. -/
def dropLine (s : State) (c g : Nat) : State :=
  { s with lines := Tab.modify [] s.lines (lineKey c) fun ls => ls.filter fun x => !(x.channel = c && x.segment = g) }

/-- Invalidate every line of a sector's ways (R201). -/
def dropSectorLines (s : State) (k : Nat) : State :=
  { s with lines := Tab.clear s.lines (k * 12) (k * 12 + 12) }

/-- Drop the lines of the segments of [o, o + n) of channel `c`. -/
def dropLines (s : State) (c o n : Nat) : State :=
  { s with lines := Tab.modify [] s.lines (lineKey c) fun ls =>
      ls.filter fun x => !(x.channel = c && o < (x.segment + 1) * 2048 && x.segment * 2048 < o + n) }

/-! ### Reads and writes at the point of coherence (R195) -/

/-- Bytes of a channel as its banks hold them. -/
def bankRead (s : State) (c o n : Nat) : List Byte := Mem.readBytes s.stack (stackKey c o) n

/-- Write whole granules to the banks: a fresh code replaces any error (R350, R357). -/
def bankWrite (s : State) (c o : Nat) (bytes : List Byte) : State :=
  let k := stackKey c o
  { s with stack := Mem.writeBytes s.stack k bytes,
           stackErr := Tab.clear s.stackErr (k / 64) ((k + bytes.length + 63) / 64) }

/-- A write turn: whole granules of one segment to the bank, and the segment to its line (R199, R254). -/
def writeTurn (s : State) (c o : Nat) (bytes : List Byte) : State := placeLine (bankWrite s c o bytes) c (segOf o)

/-- Error state of a granule: 0 none, 1 correctable, 2 uncorrectable, 3 correctable by the generator's injection (R214). -/
def granuleErr (s : State) (g : Nat) : Nat := Tab.get 0 s.stackErr g

/-- Log an uncorrectable granule of channel `c` at offset `o`, found by `reader` (Table 14.5). -/
def logUncorr (s : State) (c o reader : Nat) : State :=
  s.logEvent 3 2 c (s.channelParcel c) (reader + pairOf o * 256) (o / 64 * 64)

/-- The same for one found in cycle `cyc` of the parcel's leg. -/
def logUncorrAt (s : State) (cyc c o reader : Nat) : State :=
  s.logCycle cyc 3 2 c (s.channelParcel c) (reader + pairOf o * 256) (o / 64 * 64)

/-- Corrected bank reads among granules count in the channel's bucket (R351). -/
def countCorrected (s : State) (c : Nat) (gs : List Nat) : State :=
  s.bucketEvents 2 c (s.channelParcel c) (gs.filter fun g => granuleErr s g = 1).length

/-- A read turn of the bytes [o, o + n) of one segment: from the segment's line, unless the read is volatile or the line
holds an uncorrectable granule of them, which drops it; else from the bank, which places the segment in a line (R199, R200,
R254, R356). Corrections count (R351). An uncorrectable granule in the bank gives its offset instead. -/
def readTurn (s : State) (c o n : Nat) (volatile : Bool) : State × Except Nat (List Byte) :=
  let g := segOf o
  let gs := granulesOf c o n
  let inLine (l : Line) (k : Nat) : Nat := (gs.filter fun x => Tab.get 0 l.errs (x % 32) = k).length
  let fromBank (s : State) : State × Except Nat (List Byte) :=
    match gs.find? fun x => granuleErr s x = 2 with
    | some x => (s, .error (x * 64 - stackKey c 0))
    | none => (placeLine (countCorrected s c gs) c g, .ok (bankRead s c o n))
  match lineOf s c g with
  | some l =>
    if volatile then fromBank s
    else if inLine l 2 ≠ 0 then fromBank ((dropLine s c g).bucketEvent 2 c (s.channelParcel c))
    else (s.bucketEvents 2 c (s.channelParcel c) (inLine l 1), .ok (Mem.readBytes l.data (o % 2048) n))
  | none => fromBank s

/-- Zero a range of a channel with valid check bytes, dropping its lines (R206, R207). -/
def zeroRange (s : State) (c o n : Nat) : State :=
  let k := stackKey c o
  dropLines { s with stack := Mem.zero s.stack k n, stackErr := Tab.clear s.stackErr (k / 64) ((k + n) / 64) } c o n

/-! ### Lane errors (R197, R210) -/

/-- The lanes in error of granule `g` of a segment. -/
def lanesOf (errs : List (Nat × Nat)) (g : Nat) : List Nat := ((errs.filter fun x => x.1 = g).map (·.2)).eraseDups

/-- The first granule of a segment, among `gs`, with two or more lanes in error: uncorrectable (R197). -/
def laneBadAt (errs : List (Nat × Nat)) (gs : List Nat) : Option Nat := gs.find? fun g => 2 ≤ (lanesOf errs g).length

/-- Is a spare free? (Table 8.10) -/
def spareFree (m : BitVec 16) (i : Nat) : Bool :=
  fld m.toNat (7 * i) 7 = 0x7F && !bitAt m.toNat (14 + i)

/-- Is lane `i` carried by a spare? -/
def laneReplaced (m : BitVec 16) (i : Nat) : Bool := fld m.toNat 0 7 = i || fld m.toNat 7 7 = i

/-- Is lane `i` in use: a lane 0 to 71 that no spare carries, or a spare that carries one? -/
def laneInUse (m : BitVec 16) (i : Nat) : Bool :=
  if i < 72 then !laneReplaced m i else fld m.toNat (7 * (i - 72)) 7 ≠ 0x7F

/-- The lane 0 to 71 whose symbol lane `i` carries. -/
def symbolOf (m : BitVec 16) (i : Nat) : Nat := if i < 72 then i else fld m.toNat (7 * (i - 72)) 7

/-- A lane in use whose count stands at the threshold or above it waits for a swap, or sets LANE_DEGRADED where no spare is
free (R210). A spare in use counts as any lane does (log entry 29). -/
def laneReached (s : State) (c i : Nat) : State :=
  let K := s.channel c
  if Tab.get 0 K.laneWindow i < K.swapThreshold.toNat || !laneInUse K.laneMap i || K.swapDue.contains i then s
  else if spareFree K.laneMap 0 || spareFree K.laneMap 1 then s.modChannel c fun K => { K with swapDue := K.swapDue ++ [i] }
  else if K.laneDegraded then s
  else (s.modChannel c fun K => { K with laneDegraded := true }).logEvent 0xE 4 c (s.channelParcel c) (symbolOf K.laneMap i) 0

/-- A correction on lane `i` in segment `g` counts where `g` is not the segment of the lane's previous counted
correction (R210). -/
def countLane (s : State) (c g i : Nat) : State :=
  let K := s.channel c
  if Tab.find K.laneLastSeg i = some g then s
  else
    laneReached (s.modChannel c fun K =>
      { K with laneLastSeg := Tab.put K.laneLastSeg i g, laneWindow := Tab.modify 0 K.laneWindow i (· + 1),
               laneCorrected := Tab.modify 0 K.laneCorrected i fun x => min (x + 1) 0xFFFFFFFF }) c i

/-- Count the corrected lanes of the granules `gs` of segment `g`. -/
def countLanes (s : State) (c g : Nat) (errs : List (Nat × Nat)) (gs : List Nat) : State :=
  let lanes := (gs.flatMap fun x => match lanesOf errs x with | [i] => [i] | _ => []).eraseDups
  lanes.foldl (fun s i => countLane s c g i) s

/-- LANE_MAP with spare `i` carrying lane `l`. -/
def withSpare (m : BitVec 16) (i l : Nat) : BitVec 16 :=
  BitVec.ofNat 16 (m.toNat - fld m.toNat (7 * i) 7 * 2 ^ (7 * i) + l * 2 ^ (7 * i))

/-- Substitute the lanes that wait (R210), at the start of a refresh slot; a lane that finds no spare sets
LANE_DEGRADED. -/
def swapLanes (s : State) (c : Nat) : List Nat → State
  | [] => s.modChannel c fun K => { K with swapDue := [] }
  | i :: rest =>
    let m := (s.channel c).laneMap
    let l := symbolOf m i
    let take (k : Nat) : State :=
      (s.modChannel c fun K => { K with laneMap := withSpare m k l }).logEvent 0xD 4 c (s.channelParcel c) l k
    let s :=
      if spareFree m 0 then take 0
      else if spareFree m 1 then take 1
      else (s.modChannel c fun K => { K with laneDegraded := true }).logEvent 0xE 4 c (s.channelParcel c) l 0
    swapLanes s c rest

/-! ### Fixed slots -/

/-- The frame counters of a channel's ports restart (R193). -/
def restartFrames (s : State) (c : Nat) : State :=
  { s with units := s.units.map fun u => if u.1 / 64 = c then (u.1, { u.2 with frame := 0 }) else u }

/-- The frame counters of every channel restart, as a tick begins (R193). -/
def restartAllFrames (s : State) : State := { s with units := s.units.map fun u => (u.1, { u.2 with frame := 0 }) }

/-- All-bank refresh commands of one refresh slot (R203): 3 s f in cool mode, 6 s f in hot mode, rounded up; f is 4/4,
5/4 or 8/4. While the timebase counts the Cartouche oscillator, up to 2 percent fast, a slot of 1.25 s f microseconds that
could be too short for its commands of 200 ns may leave the last one out (R401): whether it does is free. -/
def refreshCommands (s : State) (c : Nat) : Nat :=
  let f4 := if s.mer.level = 0 then 4 else if s.mer.level = 1 then 5 else 8
  let k := if (Tab.get StackMode.init s.stackModes (channelStack c)).hot then 6 else 3
  let n := (k * s.mer.steps * f4 + 3) / 4
  if timebaseFree s && 125 * s.mer.steps * f4 * 100 < 80 * n * 102 && Config.oscillatorShort s.now then n - 1 else n

/-- REFRESH_SLOT: waiting lane swaps at its start, then the slot's refresh commands, rows ascending (R203, R210). -/
def execRefreshSlot (c : ChannelId) (s : State) : Host.Outcome State Fault Refusal :=
  let s := swapLanes s c (s.channel c).swapDue
  let n := refreshCommands s c
  .next (restartFrames (s.modChannel c fun K => { K with refreshRow := (K.refreshRow + n) % 6144 }) c)

/-- Scrub one granule in error: a correctable one is written back and counted, unless the generator injected its error
(R214); an uncorrectable one is logged, but not in a retired range (R205, R351, R366). -/
def scrubGranule (s : State) (c : Nat) (x : Nat × Nat) : State :=
  let o := x.1 * 64 - stackKey c 0
  if x.2 = 1 then ({ s with stackErr := Tab.erase s.stackErr x.1 }).bucketEvent 2 c (s.channelParcel c)
  else if x.2 = 3 then { s with stackErr := Tab.erase s.stackErr x.1 }
  else if s.rangeRetired c o 64 then s
  else logUncorr s c o 3

/-- SCRUB_SLOT: one row of all 128 banks (R205). -/
def execScrubSlot (c : ChannelId) (s : State) : Host.Outcome State Fault Refusal :=
  let r := (s.channel c).scrubRow
  let lo := stackKey c 0 / 64
  let here := s.stackErr.filter fun x => lo ≤ x.1 && x.1 < lo + channelBytes / 64 && rowOf (x.1 * 64 - stackKey c 0) = r
  let s := here.foldl (fun s x => scrubGranule s c x) s
  let s := s.modChannel c fun K =>
    { K with scrubRow := (r + 1) % 6144, scrubPasses := K.scrubPasses + (if r = 6143 then 1 else 0) }
  .next (restartFrames s c)

/-- The pages that one clear slot serves from the head of the queue, and the rest: it stops at the eighth entry, at the
first that would be the third in one bank pair, or at one enqueued in this tick (R206). -/
def clearTake (now n : Nat) (pairs : List Nat) : List (Nat × Nat) → List Nat × List (Nat × Nat)
  | [] => ([], [])
  | (page, tick) :: q =>
    if 8 ≤ n || 2 ≤ (pairs.filter (· = page % 64)).length || now ≤ tick then ([], (page, tick) :: q)
    else
      let (a, b) := clearTake now (n + 1) (page % 64 :: pairs) q
      (page :: a, b)

/-- CLEAR_SLOT, in a channel that a sealed parcel owns (R24, R206). -/
def execClearSlot (c : ChannelId) (s : State) : Host.Outcome State Fault Refusal :=
  let owned := match s.channelParcel c with | some p => (s.parcel p).ctl.mode = .sealed | none => false
  if !owned then .next (restartFrames s c)
  else
    let (pages, rest) := clearTake s.now 0 [] (s.channel c).clearQueue
    let s := pages.foldl (fun s g => zeroRange s c (g * 65536) 65536) s
    let s := s.modChannel c fun K => { K with clearQueue := rest, pagesCleared := K.pagesCleared + pages.length }
    .next (restartFrames s c)

/-- Enqueue a page clear; refused where 256 wait (R206). -/
def enqueueClear (s : State) (c page tick : Nat) : Option State :=
  if (s.channel c).clearQueue.length < 256 then
    some (s.modChannel c fun K => { K with clearQueue := K.clearQueue ++ [(page, tick)] })
  else none

/-- CLEAR_ENQUEUE: the steward of the owning sector enqueues a page of its parcel; a full queue refuses it. -/
def execClearEnqueue (c : ChannelId) (page : Nat) (s : State) : Host.Outcome State Fault Refusal :=
  if (s.channelParcel c).isNone || 24576 ≤ page then .next s
  else .next ((enqueueClear s c page s.now).getD s)

/-- Whole-channel clearing starts; queued page clears are discarded (R207). -/
def startClearing (s : State) (c : Nat) : State :=
  s.modChannel c fun K => { K with clearing := true, clearQueue := [] }

/-- CHANNEL_CLEAR_DONE: the channel is all zeros and CLEARING clears (R207). -/
def execChannelClearDone (c : ChannelId) (s : State) : Host.Outcome State Fault Refusal :=
  if (s.channel c).clearing then
    .next ((zeroRange s c 0 channelBytes).modChannel c fun K =>
      { K with clearing := false, channelClears := min (K.channelClears + 1) 0xFFFFFFFF })
  else .next s

/-! ### Segment turns -/

/-- A requester of R191: the key orders by tile, engine and copy channel. -/
def requesterKey (t e ch : Nat) : Nat := t * 64 + e * 8 + ch + 1

/-- The first run of a copy channel that waits at channel `c`: its oldest run there, unless an earlier run in flight of
the same copy channel still writes scratchpad bytes that it writes (R180). -/
def waitingRun (K : CopyChan) (load : Bool) (c : Nat) : Option Run :=
  match K.runs.find? fun r => r.channel = c with
  | none => none
  | some r =>
    if load && K.runs.any fun q => q.seq < r.seq && rangesMeet q.scratch q.len r.scratch r.len then none else some r

/-- The key of the steward of the channel's sector, which comes after every copy channel (R191). -/
def stewardKey : Nat := 0x10000

/-- The copy channels with a run waiting at channel `c` in cycle `cyc`, as requester keys with tile, engine, channel and run. -/
def requesters (s : State) (c cyc : Nat) : List (Nat × (Nat × Nat × Nat) × Run) :=
  match s.channelParcel c with
  | none => []
  | some p =>
    if !s.legIssues p cyc then []
    else
      (s.tilesOf p).flatMap fun t => (s.tile t).engines.flatMap fun E => E.2.chans.filterMap fun K =>
        if K.2.halted then none
        else (waitingRun K.2 (E.1 = 0) c).map fun r => (requesterKey t E.1 K.1, (t, E.1, K.1), r)

/-- The requester after key `last` in round-robin order, by ascending key (R191). -/
def nextRequester (last : Nat) (l : List (Nat × (Nat × Nat × Nat) × Run)) : Option (Nat × (Nat × Nat × Nat) × Run) :=
  let least (xs : List (Nat × (Nat × Nat × Nat) × Run)) : Option (Nat × (Nat × Nat × Nat) × Run) :=
    xs.foldl (fun b x => match b with | none => some x | some y => if x.1 < y.1 then some x else some y) none
  match least (l.filter fun x => last < x.1) with
  | some x => some x
  | none => least l

/-- A run's turn has moved `n` bytes in cycle `cyc`: at its end the run leaves, and its descriptor has one run fewer in
flight. -/
def advanceRun (s : State) (t e ch cyc : Nat) (r : Run) (n : Nat) : State :=
  s.modCopyChan t e ch fun K =>
    if r.pos + n < r.len then
      { K with runs := K.runs.map fun q => if q.seq = r.seq then { q with pos := r.pos + n } else q }
    else
      { K with runs := K.runs.filter fun q => q.seq ≠ r.seq
               queue := setDesc (fun d => { d with inFlight := d.inFlight - 1, landAt := max d.landAt cyc }) K.queue
                 (r.desc - K.completed) }

/-- Bytes of the next turn of a range that has reached offset `o` with `left` bytes to go: to the segment's end. -/
def turnBytes (o left : Nat) : Nat := min left (2048 - o % 2048)

/-- A copy channel meets an uncorrectable granule at offset `o` of channel `c`; `reader` as in Table 14.5. -/
def copyUncorr (s : State) (c t e ch cyc o reader : Nat) : State :=
  copyFault (logUncorrAt s cyc c o reader) t e ch cyc .copyUncorrectable

/-- One turn of a LOAD run: from a line or the bank into the scratchpad (R190, R197, R199, R356). -/
def loadTurn (s : State) (c t e ch cyc p : Nat) (r : Run) (errs : List (Nat × Nat)) : State :=
  let o := r.offset + r.pos
  let n := turnBytes o (r.len - r.pos)
  let gs := granulesOf c o n
  let local' := gs.map (· % 32)
  let (s, got) := readTurn s c o n r.volatile
  match got, laneBadAt errs local' with
  | .error bad, _ => copyUncorr s c t e ch cyc bad 0
  | .ok _, some g => copyUncorr s c t e ch cyc (segOf o * 2048 + g * 64) 0
  | .ok bytes, none =>
    let s := countLanes s c (segOf o) errs local'
    let s := s.fly p { cyc := cyc, rank := rankLocal e ch, work := .scratch t (r.scratch + r.pos) bytes }
    let s := countBridge (s.count (some p) 0x0E gs.length) (some p) (tileSector t) (channelSector c) n
    advanceRun s t e ch cyc r n

/-- One turn of a STORE run: whole granules from the scratchpad to the bank and the segment's line (R190, R199). A granule
that arrives uncorrectable is refused whole; those before it have been accepted (R356, log entry 30). -/
def storeTurn (s : State) (c t e ch cyc p : Nat) (r : Run) (errs : List (Nat × Nat)) : State :=
  let o := r.offset + r.pos
  let n := turnBytes o (r.len - r.pos)
  let gs := granulesOf c o n
  let local' := gs.map (· % 32)
  let src := r.scratch + r.pos
  match scratchBadAt (s.tile t) src n with
  | some b => copyFault (s.logCycle cyc 2 1 t (some p) 0 b) t e ch cyc .sramUncorrectable
  | none =>
    let bytes := Mem.readBytes (s.tile t).scratch src n
    let s := s.readScratch p t src n
    match laneBadAt errs local' with
    | some g =>
      let bad := segOf o * 2048 + g * 64
      copyUncorr (writeTurn s c o (bytes.take (bad - o))) c t e ch cyc bad 7
    | none =>
      let s := countLanes (writeTurn s c o bytes) c (segOf o) errs local'
      let s := countBridge (s.count (some p) 0x0F gs.length) (some p) (tileSector t) (channelSector c) n
      advanceRun s t e ch cyc r n

/-- A turn of a copy channel, granted round-robin (R191). -/
def copyTurn (s : State) (c cyc : Nat) (errs : List (Nat × Nat)) : State :=
  match s.channelParcel c, nextRequester (s.channel c).lastGrant (requesters s c cyc) with
  | some p, some (key, (t, e, ch), r) =>
    let s := s.modChannel c fun K => { K with lastGrant := key, lastWrite := e ≠ 0 }
    if e = 0 then loadTurn s c t e ch cyc p r errs else storeTurn s c t e ch cyc p r errs
  | _, _ => s

/-- The turns of at most `k` copy channels that the rotation puts before the steward's (R191). -/
def turnsBefore (c cyc : Nat) : Nat → State → State
  | 0, s => s
  | k + 1, s =>
    let last := (s.channel c).lastGrant
    match nextRequester last (requesters s c cyc) with
    | some (key, _, _) => if last < key || last = stewardKey then turnsBefore c cyc k (copyTurn s c cyc []) else s
    | none => s

/-- The steward of the channel's sector takes its turn: every copy channel that waits and that the rotation puts before it
has had one (R191). -/
def stewardTurn (s : State) (p c : Nat) (write : Bool) : State :=
  let cyc := (s.parcel p).clock
  (turnsBefore c cyc (requesters s c cyc).length s).modChannel c fun K =>
    { K with lastGrant := stewardKey, lastWrite := write }

/-! ### Training (R208, R209, R211) -/

/-- RETRAIN (R211): refused where the channel belongs to a parcel, is clearing, or runs its generator. -/
def setRetrain (s : State) (c v : Nat) : Written :=
  if 1 < v then (.type, s)
  else if v = 0 then (.ok, s)
  else
    let K := s.channel c
    if (s.channelParcel c).isSome || K.clearing || K.tg.state = .waiting || K.tg.state = .writing || K.tg.state = .reading then
      refuse s
    else (.ok, s.modChannel c fun K => { K with training := true })

def execRetrain (who : Principal) (c : ChannelId) (value : Nat) (s : State) : Host.Outcome State Fault Refusal :=
  answer who (0x4000 + c) 0x04 s (operatorOnly who true false s (setRetrain s c value))

/-- LANE_MAP after training with the lanes `failing` (0 to 73) failing, and whether the spares suffice (R209). -/
def trainMap (failing : List Nat) : BitVec 16 × Bool × Bool :=
  let bad0 := failing.contains 72
  let bad1 := failing.contains 73
  let lanes := (List.range 72).filter failing.contains
  let spares := (if bad0 then [] else [0]) ++ (if bad1 then [] else [1])
  let rep (i : Nat) : Nat :=
    match (spares.zip lanes).find? fun x => x.1 = i with | some x => x.2 | none => 0x7F
  (BitVec.ofNat 16 (rep 0 + rep 1 * 128 + (if bad0 then 0x4000 else 0) + (if bad1 then 0x8000 else 0)),
   lanes.length ≤ spares.length, !lanes.isEmpty)

/-- A training ends (R209, Table 8.11): the lanes `failing` failed step 4 or 6, `failed` tells that another step's criterion
was not met, and the eyes are those measured. The channel is then cleared (R211). -/
def endTraining (s : State) (c : Nat) (failing : List Nat) (failed : Bool) (eyeWidth eyeHeight worst : Nat) : State :=
  let (m, passes, subst) := trainMap failing
  let passes := passes && !failed
  let result := if !passes then 3 else if subst then 2 else 1
  let word := BitVec.ofNat 32 (eyeWidth % 256 + eyeHeight % 256 * 256 + worst % 128 * 65536 + result * 0x1000000)
  let s := s.modChannel c fun K =>
    { K with training := false, trained := passes, trainResult := word, laneMap := m, swapDue := [] }
  startClearing (if result = 1 then s else s.logEvent 0xF 2 c none result word.toNat) c

end Sys2Proof.Machine
end

