-- ==== Sys2Proof/Machine/Steward.lean ====
section
/-! DEFINITION. The steward's accesses to stack memory, and those made for a remote module (01_two_halves.md R14;
08_pereo_stacks.md R191, R195, R196, R199, R200; 14_errors.md R356, R366; 15_rhumb_links.md R377), and the moves of save and
restore legs through the copy channels (12_parcels.md R301).
Readings and choices: log entries 25, 29 and 32. -/

namespace Sys2Proof.Machine

/-- A part of a range that lies in one segment of one channel: its place, the bytes of the range before it, and its
length. -/
structure Piece where
  channel : Nat
  offset : Nat
  pos : Nat
  len : Nat
deriving DecidableEq, Repr

/-- The logical address range [a, a + n) cut at segments: for each part its address, its distance from `a`, its length. -/
def cutSegments (a n : Nat) : List (Nat × Nat × Nat) :=
  (List.range ((a + n + 2047) / 2048 - a / 2048)).map fun i =>
    let lo := max a ((a / 2048 + i) * 2048)
    (lo, lo - a, min (a + n) ((a / 2048 + i + 1) * 2048) - lo)

/-- The places of a range of parcel `p`'s stack memory; none where the network refuses any of it: outside the parcel, on a
failed channel, or retired (R14, R313, R366). -/
def stackPieces (s : State) (p a n : Nat) : Option (List Piece) :=
  (cutSegments a n).mapM fun x =>
    match s.stackPlace p x.1 with
    | some (c, o) => if s.rangeRetired c o x.2.2 then none else some { channel := c, offset := o, pos := x.2.1, len := x.2.2 }
    | none => none

/-- Write turns for a range, each granted by `grant`; STACK_WRITE counts its granules (R307). -/
def storeTurns (grant : Nat → State → State) (p : Nat) (bytes : List Byte) (s : State) (xs : List Piece) : State :=
  xs.foldl (fun s x =>
    (writeTurn (grant x.channel s) x.channel x.offset ((bytes.drop x.pos).take x.len)).count (some p) 0x0F
      (granulesOf x.channel x.offset x.len).length) s

/-- Read turns for a range, each granted by `grant`: its bytes, or the channel and offset of the first uncorrectable granule;
STACK_READ counts its granules (R307). -/
def fetchTurns (grant : Nat → State → State) (p : Nat) (volatile : Bool) :
    List Piece → List Byte → State → State × Except (Nat × Nat) (List Byte)
  | [], got, s => (s, .ok got)
  | x :: xs, got, s =>
    match readTurn (grant x.channel s) x.channel x.offset x.len volatile with
    | (s, .error bad) => (s, .error (x.channel, bad))
    | (s, .ok bytes) =>
      fetchTurns grant p volatile xs (got ++ bytes)
        (s.count (some p) 0x0E (granulesOf x.channel x.offset x.len).length)

/-- The steward's grant at a channel (R191). -/
def stewardGrant (p : Nat) (write : Bool) (c : Nat) (s : State) : State := stewardTurn s p c write

/-- A write of part of a granule by the steward (`sub` 5) or for a remote module (6) is refused and logged (R196). -/
def refusedWrite (s : State) (p sub a : Nat) : State :=
  match s.stackPlace p a with
  | some (c, o) => s.logEvent 4 2 c (some p) sub o
  | none => s.logEvent 4 2 0xFFFF (some p) sub a

/-- Write bytes at a logical stack address for the steward of parcel p (`sub` 5) or for a remote module (6): refused whole
where the network refuses any of it, or where it covers part of a granule. -/
def stewardWrite (s : State) (p sub a : Nat) (bytes : List Byte) : State × Option Cause :=
  match stackPieces s p a bytes.length with
  | none => (s, some .accessRefused)
  | some xs =>
    if a % 64 ≠ 0 || bytes.length % 64 ≠ 0 then (refusedWrite s p sub a, some .granulePartial)
    else (storeTurns (stewardGrant p true) p bytes s xs, none)

/-- Read bytes at a logical stack address for the steward (`sub` 5) or for a remote module (6): an uncorrectable granule is
logged (Table 14.5). -/
def stewardRead (s : State) (p sub a n : Nat) (volatile : Bool) : State × Except Cause (List Byte) :=
  match stackPieces s p a n with
  | none => (s, .error .accessRefused)
  | some xs =>
    match fetchTurns (stewardGrant p false) p volatile xs [] s with
    | (s, .ok bytes) => (s, .ok bytes)
    | (s, .error (c, o)) => (logUncorr s c o sub, .error .copyUncorrectable)

/-- The DISCONNECTED stack or network that a range of the parcel meets, if one (Table 16.4). -/
def rangeCut (s : State) (p a n : Nat) : Option Nat :=
  ((cutSegments a n).flatMap fun x =>
    match s.globalChannel p (x.1 / channelBytes) with
    | some c => [0x20 + channelStack c, 2 + dieOfSector (channelSector c)]
    | none => []).find? fun d => (domain s d).disconnected

/-! ### Save and restore ranges (R301) -/

/-- The bytes of a manifest entry, rounded outward to whole granules. -/
def manifestBytes (m : BitVec 64) : Nat :=
  let lo := fld m.toNat 16 16 * 16
  let hi := lo + (fld m.toNat 32 16 + 1) * 16
  (hi + 63) / 64 * 64 - lo / 64 * 64

/-- A range of a manifest, rounded outward to granules: its tile, its space (1: accumulator), its first byte and its
length. -/
def manifestRange (m : BitVec 64) : Nat × Nat × Nat × Nat :=
  (fld m.toNat 0 9, fld m.toNat 9 1, fld m.toNat 16 16 * 16 / 64 * 64, manifestBytes m)

/-- Its place in the save area. -/
def saveAddr (area lt space lo : Nat) : Nat := area + lt * 0x100000 + (if space = 1 then 0xC0000 else 0) + lo

/-- Accumulator bytes: entry i at bytes 4 i to 4 i + 3, little-endian. -/
def accBytes (acc : Tab Word) (lo n : Nat) : List Byte :=
  (List.range (n / 4)).flatMap fun i => bytesOfNat (Tab.get 0 acc (lo / 4 + i)).toNat 4

/-- Write accumulator entries from bytes. -/
def putAcc (acc : Tab Word) (i : Nat) : List Byte → Tab Word
  | a :: b :: c :: d :: rest => putAcc (Tab.set 0 acc i (BitVec.ofNat 32 (natOfBytes [a, b, c, d]))) (i + 1) rest
  | _ => acc

/-- The STORE engine of a tile (Table 5.1). -/
def storeEngine (t : Nat) : Nat := if isVectorTile t then 3 else 4

/-- The grant of copy channel 0 of engine `e` of tile `t` at a channel (R191). -/
def channelGrant (t e : Nat) (c : Nat) (s : State) : State :=
  s.modChannel c fun K => { K with lastGrant := requesterKey t e 0, lastWrite := e ≠ 0 }

/-- The occupancy of the COPY that moves a range counts as a busy cycle of its engine (R301, R307; log entry 25). -/
def countMove (s : State) (t e p : Nat) : State := s.count (some p) (busyKey t e) 4

/-- The uncorrectable byte (entry) of a range of tile `t`, if any, and its kind. -/
def rangeBad (T : Tile) (space lo n : Nat) : Option Nat :=
  if space = 1 then (accBadAt T (lo / 4) (n / 4)).map (· * 4) else scratchBadAt T lo n

/-- Save one range through copy channel 0 of its tile's STORE engine: an access that is refused, or an uncorrectable byte,
faults that engine (R304). -/
def saveRange (s : State) (p : Nat) (m : BitVec 64) : State :=
  let (lt, space, lo, n) := manifestRange m
  match s.globalTile p lt with
  | none => s
  | some t =>
    let e := storeEngine t
    let cyc := (s.parcel p).clock
    match rangeBad (s.tile t) space lo n, stackPieces s p (saveAddr (s.parcel p).ctl.saveArea.toNat lt space lo) n with
    | some b, _ => (s.logCycle cyc 2 1 t (some p) space b).engineFault t e cyc .sramUncorrectable 0 0
    | none, none => s.engineFault t e cyc .accessRefused 0 0
    | none, some xs =>
      let s' := if space = 1 then s.readAcc p t (lo / 4) (n / 4) else s.readScratch p t lo n
      let bytes := if space = 1 then accBytes (s.tile t).acc lo n else Mem.readBytes (s.tile t).scratch lo n
      storeTurns (channelGrant t e) p bytes (countMove s' t e p) xs

/-- Restore one range through copy channel 0 of its tile's LOAD engine: an access that is refused, or an uncorrectable
granule, faults that engine (R304). -/
def restoreRange (s : State) (p : Nat) (m : BitVec 64) : State :=
  let (lt, space, lo, n) := manifestRange m
  match s.globalTile p lt with
  | none => s
  | some t =>
    let cyc := (s.parcel p).clock
    match stackPieces s p (saveAddr (s.parcel p).ctl.saveArea.toNat lt space lo) n with
    | none => s.engineFault t 0 cyc .accessRefused 0 0
    | some xs =>
      match fetchTurns (channelGrant t 0) p false xs [] (countMove s t 0 p) with
      | (s, .error (c, o)) => copyUncorr s c t 0 0 cyc o 0
      | (s, .ok bytes) =>
        if space = 1 then s.modTile t fun T =>
          { T with acc := putAcc T.acc (lo / 4) bytes, accErr := Tab.clear T.accErr (lo / 4) ((lo + n) / 4) }
        else writeScratch s t lo bytes

end Sys2Proof.Machine
end

