-- ==== Sys2Proof/Machine/Atomics.lean ====
section
/-! DEFINITION. Atomic operations on stack memory (10_memory_model.md R255 to R258): asked for by the steward, and by a
Rhumb engine for a remote module (RATOMIC).
Readings and choices: log entry 35. -/

namespace Sys2Proof.Machine

/-- Is the size allowed for the code (Table 10.3)? Codes 0xC and above are reserved. -/
def atomicSizeOk (code size : Nat) : Bool :=
  if code ≤ 9 then size = 4 || size = 8 else if code = 0xA then size = 4 else code = 0xB && size = 2

/-- A BF16 sum with one rounding (R258). -/
def bf16add (a b : Nat) : Nat := fmtBf16.roundArith .rne (FVal.add (fmtBf16.decode a) (fmtBf16.decode b))

/-- The new value (Table 10.3). -/
def atomicNew (code size old op cmp : Nat) : Nat :=
  let n := 2 ^ (8 * size)
  let sg (x : Nat) : Int := intOfCode (8 * size) true x
  match code with
  | 0x0 => (old + op) % n
  | 0x1 => old &&& op
  | 0x2 => old ||| op
  | 0x3 => old ^^^ op
  | 0x4 => if sg old < sg op then op else old
  | 0x5 => if sg op < sg old then op else old
  | 0x6 => max old op
  | 0x7 => min old op
  | 0x8 => op
  | 0x9 => if old = cmp then op else old
  | 0xA => (f32add (BitVec.ofNat 32 old) (BitVec.ofNat 32 op)).toNat
  | 0xB => bf16add old op
  | _ => old

/-- The controller's atomic operation at a place of a channel (R256, R257): the old value and the state after, or a
refusal, which is logged; `reader` is 5 for the steward, 6 for a Rhumb engine. It takes one turn of the steward, and counts as
a write turn. -/
def atomicAt (s : State) (c o reader code size op cmp : Nat) : Option Nat × State :=
  let p := s.channelParcel c
  let refuse (s : State) : Option Nat × State := (none, s.logEvent 5 2 c p (reader + code * 256) o)
  if !atomicSizeOk code size || o % size ≠ 0 then refuse s
  else
    let g := stackKey c o / 64
    let s := match p with | some p => stewardTurn s p c true | none => s
    if granuleErr s g = 2 then refuse (logUncorr s c o 4)
    else
      let s := countCorrected s c [g]
      let n := 2 ^ (8 * size)
      let old := natOfBytes (bankRead s c o size)
      let v := atomicNew code size old (op % n) (cmp % n)
      let granule := Mem.writeBytes (Tab.slice s.stack (stackKey c 0 + o / 64 * 64) 64) (o % 64) (bytesOfNat v size)
      (some old, (writeTurn s c (o / 64 * 64) (Mem.readBytes granule 0 64)).count p 0x0F 1)

/-- An atomic operation that the steward of a parcel asks for at a logical stack address; outside the parcel, or in a
retired range, it is refused (R257, R366); at a DISCONNECTED stack it has an error response, and the steward repeats
it (16_clocks_startup.md Table 16.4). -/
def stewardAtomic (p addr size code : Nat) (op cmp : BitVec 64) (s : State) : Host.Outcome State Fault Refusal :=
  match s.stackPlace p addr with
  | none => .next ((s.logEvent 5 2 0xFFFF (some p) (5 + code * 256) addr).send (.atomicReply p none))
  | some (c, o) =>
    if (domain s (0x20 + channelStack c)).disconnected then .next ((endTransfer s (0x20 + channelStack c)).send (.atomicReply p none))
    else if s.rangeRetired c o size then
      .next ((s.logEvent 5 2 c (some p) (5 + code * 256) o).send (.atomicReply p none))
    else
      let (r, s) := atomicAt s c o 5 code size op.toNat cmp.toNat
      .next (s.send (.atomicReply p r))

/-- ADD (code 0x0). -/
def execAtomicAdd (p : ParcelId) (addr size : Nat) (op : BitVec 64) (s : State) : Host.Outcome State Fault Refusal :=
  stewardAtomic p addr size 0x0 op 0 s

/-- AND (code 0x1). -/
def execAtomicAnd (p : ParcelId) (addr size : Nat) (op : BitVec 64) (s : State) : Host.Outcome State Fault Refusal :=
  stewardAtomic p addr size 0x1 op 0 s

/-- OR (code 0x2). -/
def execAtomicOr (p : ParcelId) (addr size : Nat) (op : BitVec 64) (s : State) : Host.Outcome State Fault Refusal :=
  stewardAtomic p addr size 0x2 op 0 s

/-- XOR (code 0x3). -/
def execAtomicXor (p : ParcelId) (addr size : Nat) (op : BitVec 64) (s : State) : Host.Outcome State Fault Refusal :=
  stewardAtomic p addr size 0x3 op 0 s

/-- MAX (code 0x4). -/
def execAtomicMax (p : ParcelId) (addr size : Nat) (op : BitVec 64) (s : State) : Host.Outcome State Fault Refusal :=
  stewardAtomic p addr size 0x4 op 0 s

/-- MIN (code 0x5). -/
def execAtomicMin (p : ParcelId) (addr size : Nat) (op : BitVec 64) (s : State) : Host.Outcome State Fault Refusal :=
  stewardAtomic p addr size 0x5 op 0 s

/-- MAXU (code 0x6). -/
def execAtomicMaxu (p : ParcelId) (addr size : Nat) (op : BitVec 64) (s : State) : Host.Outcome State Fault Refusal :=
  stewardAtomic p addr size 0x6 op 0 s

/-- MINU (code 0x7). -/
def execAtomicMinu (p : ParcelId) (addr size : Nat) (op : BitVec 64) (s : State) : Host.Outcome State Fault Refusal :=
  stewardAtomic p addr size 0x7 op 0 s

/-- SWAP (code 0x8). -/
def execAtomicSwap (p : ParcelId) (addr size : Nat) (op : BitVec 64) (s : State) : Host.Outcome State Fault Refusal :=
  stewardAtomic p addr size 0x8 op 0 s

/-- CAS: op where the old value equals the compare value, else the old value. -/
def execAtomicCas (p : ParcelId) (addr size : Nat) (op compare : BitVec 64) (s : State) :
    Host.Outcome State Fault Refusal :=
  stewardAtomic p addr size 0x9 op compare s

/-- FADD32 (code 0xA). -/
def execAtomicFadd32 (p : ParcelId) (addr size : Nat) (op : BitVec 64) (s : State) : Host.Outcome State Fault Refusal :=
  stewardAtomic p addr size 0xA op 0 s

/-- FADD16B (code 0xB). -/
def execAtomicFadd16b (p : ParcelId) (addr size : Nat) (op : BitVec 64) (s : State) : Host.Outcome State Fault Refusal :=
  stewardAtomic p addr size 0xB op 0 s

end Sys2Proof.Machine
end

