-- ==== Sys2Proof/Machine/ErrorsLog.lean ====
section
/-! DEFINITION. The log writer (R360), the bucket depth (R354), the meridian interval (R19) and the clearing of OVERRUN
(R40).
Readings and choices: log entry 45. -/

namespace Sys2Proof.Machine

/-- LOG_WRITE: the oldest queued record is stored with the next sequence number; one not yet acknowledged that it
overwrites is lost. -/
def execLogWrite (s : State) : Host.Outcome State Fault Refusal :=
  match s.log.queue with
  | [] => .next s
  | r :: rest =>
    let L := s.log
    let slot := L.nextSeq % 4096
    let loses : Bool := match Tab.find L.slots slot with | some x => L.ackSeq < x.2 | none => false
    let s := { s with log := { L with slots := Tab.put L.slots slot (r, L.nextSeq), queue := rest, nextSeq := L.nextSeq + 1 } }
    .next (if loses then s.logLost else s)

/-- BUCKET_DEPTH (R354): in force from the next boundary. -/
def setBucketDepth (s : State) (v : Nat) : Written :=
  if 2 ^ 8 ≤ v then (.type, s)
  else if v < 1 || 64 < v then refuse s
  else (.ok, { s with log := { s.log with pendingDepth := some v } })

def execBucketDepth (who : Principal) (value : Nat) (s : State) : Host.Outcome State Fault Refusal :=
  answer who 0x7000 0x08 s (operatorOnly who false false s (setBucketDepth s value))

/-- Every parcel is FREE. -/
def allFree (s : State) : Bool := (List.range 16).all fun p => (s.parcel p).ctl.mode = .free

/-- INTERVAL_STEPS (R19): accepted only while every parcel is FREE; in force from the next boundary. -/
def setIntervalSteps (s : State) (v : Nat) : Written :=
  if 2 ^ 8 ≤ v then (.type, s)
  else if !allFree s || v < 2 || 32 < v then refuse s
  else (.ok, { s with mer := { s.mer with pendingSteps := some v } })

def execIntervalSteps (who : Principal) (value : Nat) (s : State) : Host.Outcome State Fault Refusal :=
  answer who 0x3000 0x01 s (operatorOnly who false true s (setIntervalSteps s value))

/-- PARCEL_TICK_STATUS: a 1 written to OVERRUN clears it while LATE is 0; requests in flight receive fresh bounds from
the next boundary (R40, R277). The other fields are ro. -/
def setOverrun (s : State) (p v : Nat) : Written :=
  if 2 ^ 32 ≤ v then (.type, s)
  else
    let t := (s.parcel p).tick
    if !bitAt v 0 || t.late || !t.overrun then (.ok, s)
    else (.ok, (s.modPTick p fun x => { x with overrun := false }).modServing p fun V => { V with renew := true })

/-- Only the job's tenant clears OVERRUN; the operator may read the word (Table 2.8). -/
def tenantOnly (who : Principal) (p : Nat) (s : State) (w : Written) : Written :=
  match who with
  | .tenant q => if q = p then w else (.absent, s)
  | .operator => (.access, s)
  | .factory => (.absent, s)

def execOverrunClear (who : Principal) (p : ParcelId) (value : Nat) (s : State) : Host.Outcome State Fault Refusal :=
  answer who (0x3020 + p) 0x01 s (tenantOnly who p s (setOverrun s p value))

end Sys2Proof.Machine
end

