-- ==== Sys2Proof/Machine/TileDrain.lean ====
section
/-! DEFINITION. DRAIN at issue (06_tile_instructions.md R160 to R162, Table 6.15; 03_formats.md R62 to R66): its checks, and
the rows that it puts in flight.
Readings and choices: log entries 10 and 23. -/

namespace Sys2Proof.Machine

/-- The rows of a DRAIN: row `m` is read when the engine comes to it, p cycles for each row before it (R160). -/
def drainWork (t rows : Nat) (x : DrainOp) : List Flight :=
  (List.range rows).map fun m => { cyc := x.start + x.perRow * m, rank := 0, work := .drainRow t x m }

/-- DRAIN (R160 to R162). -/
def drainBody (c : TCtx) : Except Cause State := do
  let base := c.ea 8 16 1 24
  let pitch := fld c.w 27 10
  let rows := fld c.w 37 9 + 1
  let cols := fld c.w 46 9 + 1
  let fp := bitAt c.w 55
  let sat := bitAt c.w 62
  let shift := fld c.w 63 5
  let dst := c.ea 68 17 8 85
  let stride := fld c.w 88 10
  let lt := fld c.w 98 9
  let gen := bitAt c.w 107
  let scl := c.ea 108 17 8 125
  match Fmt.ofCode (fld c.w 56 4), Rnd.ofField (fld c.w 60 2) with
  | some f, some _ =>
    let rowLen := f.rowBytes cols
    let len := (rows - 1) * stride * 16 + rowLen
    let target := c.s.globalTile c.p lt
    let reach : Bool := match target with
      | none => true
      | some g => g = c.t || (isVectorTile g && tileSector g = tileSector c.t)
    firstCause
      [(f = .e8m0 || (f = .tern2 && !gen) || (gen && !f.scalable), .illegalFormat),
       ((fp && shift ≠ 0) || pitch < cols || stride * 16 < rowLen || dst % 8 ≠ 0 || (gen && scl % 8 ≠ 0) || !reach,
        .illegalField),
       (target.isNone, .accessRefused)]
    match target with
    | none => throw .accessRefused
    | some g =>
      let nscl := (cols + 31) / 32
      firstCause
        [(TCtx.scratchOver g dst len || (gen && TCtx.scratchOver g scl (16 * (rows - 1) + nscl)), .scratchRange),
         (accEntries < base + (rows - 1) * pitch + cols, .accRange)]
      let own : Bool := g = c.t
      let p := max ((cols + 63) / 64) ((rowLen + (if own then 255 else 127)) / (if own then 256 else 128))
      let x : DrainOp := { pc := c.E.pc, index := c.E.retired, base := base, pitch := pitch, cols := cols, fp := fp,
                           fmt := fld c.w 56 4, rnd := fld c.w 60 2, sat := sat, shift := shift, tile := g, dst := dst,
                           stride := stride * 16, scl := if gen then some scl else none, perRow := p, start := c.cyc }
      .ok (retireAt (c.s.flyAll c.p (drainWork c.t rows x)) c.t c.e c.cyc (rows * p)
        (rows * p + 20 + (if own then 0 else 12)) true)
  | _, _ => throw .illegalFormat

def execTileDrain (t : TileId) (e : EngineId) (cyc : Nat) (s : State) : Host.Outcome State Fault Refusal :=
  issue s t e cyc (· = 0x40) drainBody

end Sys2Proof.Machine
end

