-- ==== Sys2Proof/Machine/Transc.lean ====
section
/-! DEFINITION. The transcendental functions of VECTOR and of the Celulo units (06_tile_instructions.md R166): a
reference result by integer arithmetic, moved by the device's free distance within the stated bound; the special values
as the table of R166 gives them.
Readings and choices: log entry 19. -/

namespace Sys2Proof.Machine

/-- Move a positive FP32 code by `k` units in the last place, at most `b`, within [+0, +infinity]. -/
def moveUlps (code : Nat) (k : Int) (b : Nat) : Nat :=
  let k := max (-(b : Int)) (min (b : Int) k)
  (max 0 (min 0x7F800000 ((code : Int) + k))).toNat

/-- A non-zero finite FP32 word moved likewise, keeping its sign. -/
def moveWord (w : Word) (k : Int) (b : Nat) : Word :=
  let n := w.toNat
  BitVec.ofNat 32 (n / 2 ^ 31 * 2 ^ 31 + moveUlps (n % 2 ^ 31) k b)

/-- Fraction bits of the fixed-point values of a reference: an FP32 input has at most 149. -/
def refBits : Nat := 160

/-- Sum of y^k / k! from term number `k` on, with `refBits` fraction bits; `fuel` terms. -/
def expTerms (y : Nat) : Nat → Nat → Nat → Nat
  | 0, _, _ => 0
  | fuel + 1, k, term => term + expTerms y fuel (k + 1) (term * y / 2 ^ refBits / (k + 1))

/-- ln 2 and log2 e, with 192 fraction bits. -/
def ln2Fix : Nat := 0xb17217f7d1cf79abc9e3b39803f2f6af40f343267298b62d
def log2eFix : Nat := 0x171547652b82fe1777d0ffda0d23a7d11d6aef551bad2b4b1

/-- 2^f for a fraction f, both with `refBits` fraction bits. -/
def exp2Frac (f : Nat) : Nat := expTerms (f * ln2Fix / 2 ^ 192) 40 0 (2 ^ refBits)

/-- m * 2^e of a non-zero FP32 value, with `refBits` fraction bits: exact. -/
def fixedRef (s : Bool) (m : Nat) (e : Int) : Int := FVal.toSigned s (m <<< (e + refBits).toNat)

/-- The quotient num / den as an exact value up to a sticky bit, 62 significant bits. -/
def quotient (num den : Nat) : FVal :=
  if num = 0 || den = 0 then .zero
  else
    let k := Nat.log2 den + 62 - Nat.log2 num
    let n := num <<< k
    .fin false (n / den * 2 + (if n % den = 0 then 0 else 1)) (-(k : Int) - 1)

/-- Reference 2^x. -/
def exp2Ref : FVal → FVal
  | .fin s m e =>
    if m = 0 then .fin false 1 0
    else if 9 ≤ (Nat.log2 m : Int) + e then (if s then .zero else .inf false)
    else
      let x := fixedRef s m e
      .fin false (exp2Frac (x % 2 ^ refBits).toNat) (x / 2 ^ refBits - refBits)
  | .inf s => if s then .zero else .inf false
  | .nan => .nan

/-- Fraction bits of log2 of z / 2^256, 1 <= z / 2^256 < 2, by repeated squaring. -/
def log2Bits : Nat → Nat → Nat → Nat
  | 0, _, acc => acc
  | n + 1, z, acc =>
    let q := z * z / 2 ^ 256
    if 2 ^ 257 ≤ q then log2Bits n (q / 2) (acc * 2 + 1) else log2Bits n q (acc * 2)

/-- Reference log2 of a positive finite value. -/
def log2Ref (m : Nat) (e : Int) : FVal :=
  let k := Nat.log2 m
  let frac := log2Bits refBits (m * 2 ^ 256 / 2 ^ k) 0
  let v : Int := ((k : Int) + e) * 2 ^ refBits + frac
  .fin (v < 0) v.natAbs (-(refBits : Int))

/-- Integer square root by binary digits, from digit `n - 1` down. -/
def isqrtFrom (x : Nat) : Nat → Nat → Nat
  | 0, r => r
  | n + 1, r => if (r + 2 ^ n) * (r + 2 ^ n) ≤ x then isqrtFrom x n (r + 2 ^ n) else isqrtFrom x n r

/-- Reference 1 / sqrt(m * 2^e). -/
def rsqrtRef (m : Nat) (e : Int) : FVal :=
  let odd : Bool := e % 2 = 1
  let m' := if odd then m * 2 else m
  let e' := if odd then e - 1 else e
  let r := isqrtFrom (2 ^ 260 / m') 132 0
  .fin false (r * 2 + 1) (-131 - e' / 2)

/-- Reference 1 / (1 + e^-x), through e^-x = 2^(-x log2 e). -/
def sigRef (s : Bool) (m : Nat) (e : Int) : FVal :=
  if 9 ≤ (Nat.log2 m : Int) + e && m ≠ 0 then (if s then .zero else .fin false 1 0)
  else
    let z : Int := -(fixedRef s m e) * log2eFix / 2 ^ 192
    let r := exp2Frac (z % 2 ^ refBits).toNat
    match z / 2 ^ refBits with
    | .ofNat k => quotient (2 ^ refBits) (2 ^ refBits + r * 2 ^ k)
    | .negSucc k => quotient (2 ^ (refBits + k + 1)) (2 ^ (refBits + k + 1) + r)

/-- A word with any NaN made the canonical one (R48). -/
def canonical (w : Word) : Word := if (f32val w).isNan then f32nan else w

/-- VEXP2 (R166). -/
def vexp2 (w : Word) : Word :=
  match f32val w with
  | .fin s m e => let r := f32rne (exp2Ref (.fin s m e)); moveWord r (Config.exp2Ulps w) 2
  | v => f32rne (exp2Ref v)

/-- VLOG2 (R166). -/
def vlog2 (w : Word) : Word :=
  match f32val w with
  | .nan => f32nan
  | .inf s => if s then canonical Config.log2NegInf else 0x7F800000
  | .fin s m e =>
    if m = 0 then 0xFF800000
    else if s then f32nan
    else moveWord (f32rne (log2Ref m e)) (Config.log2Ulps w) 2

/-- VRCP (R166). -/
def vrcp (w : Word) : Word :=
  match f32val w with
  | .nan => f32nan
  | .inf s => if s then 0x80000000 else 0
  | .fin s m e =>
    if m = 0 then (if s then 0xFF800000 else 0x7F800000)
    else
      let q := (quotient 1 m).scaleBy (-e)
      moveWord (f32rne (if s then q.neg else q)) (Config.rcpUlps w) 1

/-- VRSQRT (R166). -/
def vrsqrt (w : Word) : Word :=
  match f32val w with
  | .nan => f32nan
  | .inf s => if s then f32nan else 0
  | .fin s m e =>
    if m = 0 then (if s then canonical Config.rsqrtNegZero else 0x7F800000)
    else if s then f32nan
    else moveWord (f32rne (rsqrtRef m e)) (Config.rsqrtUlps w) 1

/-- VSIG (R166). -/
def vsig (w : Word) : Word :=
  match f32val w with
  | .nan => f32nan
  | .inf s => if s then 0 else f32one
  | .fin s m e => moveWord (f32rne (sigRef s m e)) (Config.sigUlps w) 3

/-- VMAX: a NaN gives the canonical NaN, and -0 orders below +0 (R165). -/
def f32max (a b : Word) : Word :=
  let x := f32val a; let y := f32val b
  if x.isNan || y.isNan then f32nan
  else if FVal.lt x y then b else if FVal.lt y x then a else if x.sign then b else a

/-- VMIN (R165). -/
def f32min (a b : Word) : Word :=
  let x := f32val a; let y := f32val b
  if x.isNan || y.isNan then f32nan
  else if FVal.lt x y then a else if FVal.lt y x then b else if x.sign then a else b

/-- One level of a balanced tree: neighbours in pairs, an odd last element alone. -/
def pairUp {α : Type} (f : α → α → α) : List α → List α
  | a :: b :: r => f a b :: pairUp f r
  | l => l

/-- A balanced tree over ascending pairs (R165, R230); `n` levels. -/
def treeFold {α : Type} (f : α → α → α) : Nat → List α → List α
  | 0, l => l
  | n + 1, l => treeFold f n (pairUp f l)

end Sys2Proof.Machine
end

