-- ==== Sys2Proof/Machine/TileVector.lean ====
section
/-! DEFINITION. The VECTOR operations (06_tile_instructions.md R163 to R166, R141, Tables 6.12 and 6.16).
Readings and choices: log entries 10, 20 and 21. -/

namespace Sys2Proof.Machine

/-- An FP32 result with the flags raised on the way. -/
abbrev FW := Word × FFlags

/-- An exact result rounded once to FP32, with the flags of its inputs and of the rounding. -/
def fwOf (inputs : List FVal) (x : FVal) (fl : FFlags) : FW :=
  let r := f32rne x
  (r, fl ||| arithFlags inputs (f32val r))

/-- Widen an element code to FP32 with its block scale (R61). -/
def widen (f : Fmt) (code : Nat) (scale : Option Nat) : FW :=
  let (v, fl) := f.scaledValue code scale
  let r := f32rne v
  (r, fl ||| (if v.isFin && (f32val r).isInf then flInfProduced else 0))

def fwAdd (a b : FW) : FW := fwOf [f32val a.1, f32val b.1] (FVal.add (f32val a.1) (f32val b.1)) (a.2 ||| b.2)
def fwMul (a b : FW) : FW := fwOf [f32val a.1, f32val b.1] (FVal.mul (f32val a.1) (f32val b.1)) (a.2 ||| b.2)
def fwSub (a b : FW) : FW := fwOf [f32val a.1, f32val b.1] (FVal.sub (f32val a.1) (f32val b.1)) (a.2 ||| b.2)
def fwNeg (a : FW) : FW := (f32rne (f32val a.1).neg, a.2)
/-- Fused multiply-add, one rounding (R61). -/
def fwFma (a b c : FW) : FW :=
  fwOf [f32val a.1, f32val b.1, f32val c.1] (FVal.add (FVal.mul (f32val a.1) (f32val b.1)) (f32val c.1))
    (a.2 ||| b.2 ||| c.2)
def fwMax (a b : FW) : FW := (f32max a.1 b.1, a.2 ||| b.2)
def fwMin (a b : FW) : FW := (f32min a.1 b.1, a.2 ||| b.2)
/-- A function of one value, with the flags of a new infinity or NaN (R166). -/
def fwFun (g : Word → Word) (a : FW) : FW := (g a.1, a.2 ||| arithFlags [f32val a.1] (f32val (g a.1)))

/-- Operations with two sources (Table 6.12). -/
def vecTwo (op : Nat) : Bool := op ≤ 0x65 || op = 0x78
/-- Reductions. -/
def vecReduce (op : Nat) : Bool := 0x70 ≤ op && op ≤ 0x72
/-- Splits, whose B fields name a second destination. -/
def vecSplit (op : Nat) : Bool := op = 0x7C || op = 0x7D
/-- Cycles per 64 elements (Table 6.12). -/
def vecRate (op : Nat) : Nat := if (0x69 ≤ op && op ≤ 0x6D) || op = 0x78 then 2 else 1

/-- One element of an elementwise operation (Table 6.12, R165, R166). -/
def vecElem (op : Nat) (a b d : FW) : FW :=
  match op with
  | 0x60 => fwAdd a b
  | 0x61 => fwSub a b
  | 0x62 => fwMul a b
  | 0x63 => fwFma a b d
  | 0x64 => fwMax a b
  | 0x65 => fwMin a b
  | 0x66 => (f32rne (f32val a.1).abs, a.2)
  | 0x67 => fwNeg a
  | 0x69 => fwFun vexp2 a
  | 0x6A => fwFun vlog2 a
  | 0x6B => fwFun vrcp a
  | 0x6C => fwFun vrsqrt a
  | 0x6D => fwFun vsig a
  | _ => (f32rne (f32val a.1), a.2)

/-- VROT over pairs: y0 := fma(-x1, s, rne(x0 c)), y1 := fma(x0, s, rne(x1 c)) (R165). -/
def vecRotate : List FW → List FW → List FW
  | x0 :: x1 :: xs, c :: s :: bs => fwFma (fwNeg x1) s (fwMul x0 c) :: fwFma x0 s (fwMul x1 c) :: vecRotate xs bs
  | _, _ => []

/-- A reduction: each group of 64 by a balanced tree, the groups added in ascending order to a running value (R165). -/
def vecReduction (op : Nat) (xs : List FW) : FW :=
  let xs := if op = 0x72 then xs.map fun x => fwMul x x else xs
  let f := if op = 0x71 then fwMax else fwAdd
  let groups := (chunks 64 xs.length xs).flatMap (treeFold f 6)
  groups.foldl f ((if op = 0x71 then 0xFF800000 else 0), 0)

/-- Bytes that `n` elements of a format take. -/
def vecBytes (f : Fmt) (n : Nat) : Nat := f.rowBytes n

/-- A length that does not fill whole bytes or groups (R164). -/
def lenRagged (f : Fmt) (n : Nat) : Bool :=
  match f with
  | .tern2 | .fp6e2m3 | .fp6e3m2 => n % 4 ≠ 0
  | .int4 | .fp4 => n % 2 ≠ 0
  | _ => false

/-- A range of the scratchpad: start, bytes, element width in bits. -/
structure VRange where
  lo : Nat
  n : Nat
  bits : Nat
deriving DecidableEq, Repr

/-- A destination overlaps a source in a way R164 refuses. -/
def overlapBad (d a : VRange) : Bool := rangesMeet d.lo d.n a.lo a.n && !(d.lo = a.lo && d.bits = a.bits)

/-- R141: a source overlaps the destination of an earlier instruction that has not retired before cycle `cyc`. -/
def hazard (E : Engine) (cyc : Nat) (srcs : List (Nat × Nat)) : Bool :=
  E.pendingDst.any fun d => cyc ≤ d.retireAt && srcs.any fun r => rangesMeet r.1 r.2 d.lo (d.hi - d.lo)

/-- Record the destinations of an instruction until it retires, dropping those that have (R141). -/
def noteDst (s : State) (t e cyc ret : Nat) (dsts : List (Nat × Nat)) : State :=
  s.modEngine t e fun E =>
    { E with pendingDst := (E.pendingDst.filter fun d => cyc ≤ d.retireAt) ++
        dsts.map fun r => { lo := r.1, hi := r.1 + r.2, retireAt := cyc + ret } }

/-- The formats that Table 6.12 and R164 refuse. -/
def vecFormatBad (op : Nat) (fa fb fd : Fmt) (sclOp : Nat) : Bool :=
  let two := vecTwo op
  (op = 0x63 && !(fd = .fp32 || fd = .bf16 || fd = .fp16) || op = 0x63 && sclOp = 3) ||
  (vecReduce op && fd ≠ .fp32) ||
  (op = 0x7C && !(fa = .fp32 && fd = .bf16 && fb = .bf16)) ||
  (op = 0x7D && !(fa = .int16 && fd = .int8 && fb = .uint8)) ||
  (vecSplit op && sclOp ≠ 0) ||
  (fa = .tern2 && sclOp ≠ 1) || (two && fb = .tern2 && sclOp ≠ 2) || (fd = .tern2 && sclOp ≠ 3) ||
  (sclOp = 1 && !fa.scalable) || (two && sclOp = 2 && !fb.scalable) || (sclOp = 3 && !fd.scalable)

/-- The `n` widened elements of an operand, with its scales where it has them (R61, R163). -/
def vecOperand (T : Tile) (f : Fmt) (a n : Nat) (scl : Option Nat) : List FW :=
  (List.range n).map fun i => widen f (elemCode T.scratch f a i) (scl.map fun q => (Mem.read T.scratch (q + i / 32)).toNat)

/-- Results converted to the destination format: codes, generated scales, flags (R163). -/
def vecConvert (f : Fmt) (r : Rnd) (sat gen : Bool) (ys : List Word) : List Nat × List Nat × FFlags :=
  if gen then drainRow f r sat true true 0 ys
  else if f = .fp32 then (ys.map (·.toNat), [], 0)
  else drainRow f r sat false true 0 ys

/-- A VECTOR instruction (R163 to R166): it reads its sources at its issue, and its results land as it retires (R250). -/
def vectorBody (c : TCtx) : Except Cause State := do
  let op := c.w % 256
  let n := fld c.w 77 12 + 1
  let a := c.ea 8 20 1 28
  let b := c.ea 31 20 1 51
  let d := c.ea 54 20 1 74
  let sat := bitAt c.w 103
  let bcast := bitAt c.w 104
  let sclOp := fld c.w 105 2
  let scl := c.ea 107 17 8 124
  let two := vecTwo op
  let split := vecSplit op
  -- the B format of an operation of one source is ignored (R163)
  let fb? := if two || split then Fmt.ofCode (fld c.w 93 4) else some .fp32
  let rnd? := Rnd.ofField (fld c.w 101 2)
  match Fmt.ofCode (fld c.w 89 4), fb?, Fmt.ofCode (fld c.w 97 4) with
  | some fa, some fb, some fd =>
    let r := rnd?.getD .rne
    let nb := if bcast && !split then (if op = 0x78 then 2 else 1) else n
    let nd := if vecReduce op then 1 else n
    let scaled := sclOp = 1 || sclOp = 3 || (sclOp = 2 && two)
    let nscl := (if sclOp = 2 then nb + 31 else n + 31) / 32
    let ra : VRange := ⟨a, vecBytes fa n, fa.bits⟩
    let rb : VRange := ⟨b, vecBytes fb nb, fb.bits⟩
    let rd : VRange := ⟨d, vecBytes fd nd, fd.bits⟩
    let rs : VRange := ⟨scl, nscl, 8⟩
    let srcs := [ra] ++ (if two then [rb] else []) ++ (if scaled && sclOp ≠ 3 then [rs] else [])
    let reads := srcs ++ (if op = 0x63 then [rd] else [])
    let dsts := [rd] ++ (if split then [rb] else []) ++ (if sclOp = 3 then [rs] else [])
    if hazard c.E c.cyc (reads.map fun x => (x.lo, x.n)) then return c.s0
    firstCause
      [(vecFormatBad op fa fb fd sclOp || rnd?.isNone, .illegalFormat),
       (a % 4 ≠ 0 || d % 4 ≠ 0 || ((two || split) && b % 4 ≠ 0) || (scaled && scl % 8 ≠ 0), .illegalField),
       (lenRagged fa n || (two && !bcast && lenRagged fb n) || (!vecReduce op && lenRagged fd n) || (op = 0x78 && n % 2 ≠ 0),
        .illegalField),
       (dsts.any (fun x => srcs.any (overlapBad x)), .illegalField),
       ((srcs ++ dsts).any (fun x => TCtx.scratchOver c.t x.lo x.n), .scratchRange)]
    match reads.findSome? fun x => scratchBadAt c.T x.lo x.n with
    | some b => return c.sramFault b
    | none =>
      let ret := (n + 63) / 64 * vecRate op + 10 + (if vecReduce op then 6 else 0)
      let occ := (n + 63) / 64 * vecRate op
      let finish (s : State) : State :=
        retireAt (noteDst s c.t c.e c.cyc ret (dsts.map fun x => (x.lo, x.n))) c.t c.e c.cyc occ ret true
      let s0 := countScratch c c.s (reads.map fun x => (x.lo, x.n))
      if split then
        let parts := (List.range n).map fun i =>
          let x := elemCode c.T.scratch fa a i
          if op = 0x7C then splitFp32 (BitVec.ofNat 32 x) else splitInt16 (BitVec.ofNat 16 x)
        let s := c.land s0 ret d (fd.packRow (parts.map (·.1)) 0)
        return finish (c.land s ret b (fb.packRow (parts.map (·.2)) 0))
      let xa := vecOperand c.T fa a n (if sclOp = 1 then some scl else none)
      let xb0 := if two then vecOperand c.T fb b nb (if sclOp = 2 then some scl else none) else []
      let xb := if op = 0x78 then (if bcast then (List.range n).map fun i => xb0.getD (i % 2) (0, 0) else xb0)
        else if bcast then (List.range n).map fun _ => xb0.headD (0, 0) else xb0
      let xd := if op = 0x63 then vecOperand c.T fd d n none else []
      let ys : List FW :=
        if vecReduce op then [vecReduction op xa]
        else if op = 0x78 then vecRotate xa xb
        else xa.mapIdx fun i x => vecElem op x (xb.getD i (0, 0)) (xd.getD i (0, 0))
      let (codes, scales, fl) := vecConvert fd r sat (sclOp = 3) (ys.map (·.1))
      let s := c.land s0 ret d (fd.packRow codes 0)
      let s := if sclOp = 3 then c.land s ret scl (scales.map (BitVec.ofNat 8)) else s
      .ok (finish (s.tileFlags c.t c.e (fl ||| joinFlags (ys.map (·.2)))))
  | _, _, _ => throw .illegalFormat

/-- VADD: D := A + B. -/
def execTileVadd (t : TileId) (e : EngineId) (cyc : Nat) (s : State) : Host.Outcome State Fault Refusal :=
  issue s t e cyc (· = 0x60) vectorBody

/-- VSUB: D := A - B. -/
def execTileVsub (t : TileId) (e : EngineId) (cyc : Nat) (s : State) : Host.Outcome State Fault Refusal :=
  issue s t e cyc (· = 0x61) vectorBody

/-- VMUL: D := A * B. -/
def execTileVmul (t : TileId) (e : EngineId) (cyc : Nat) (s : State) : Host.Outcome State Fault Refusal :=
  issue s t e cyc (· = 0x62) vectorBody

/-- VFMA: D := A * B + D, rounded once. -/
def execTileVfma (t : TileId) (e : EngineId) (cyc : Nat) (s : State) : Host.Outcome State Fault Refusal :=
  issue s t e cyc (· = 0x63) vectorBody

/-- VMAX. -/
def execTileVmax (t : TileId) (e : EngineId) (cyc : Nat) (s : State) : Host.Outcome State Fault Refusal :=
  issue s t e cyc (· = 0x64) vectorBody

/-- VMIN. -/
def execTileVmin (t : TileId) (e : EngineId) (cyc : Nat) (s : State) : Host.Outcome State Fault Refusal :=
  issue s t e cyc (· = 0x65) vectorBody

/-- VABS. -/
def execTileVabs (t : TileId) (e : EngineId) (cyc : Nat) (s : State) : Host.Outcome State Fault Refusal :=
  issue s t e cyc (· = 0x66) vectorBody

/-- VNEG. -/
def execTileVneg (t : TileId) (e : EngineId) (cyc : Nat) (s : State) : Host.Outcome State Fault Refusal :=
  issue s t e cyc (· = 0x67) vectorBody

/-- VCVT. -/
def execTileVcvt (t : TileId) (e : EngineId) (cyc : Nat) (s : State) : Host.Outcome State Fault Refusal :=
  issue s t e cyc (· = 0x68) vectorBody

/-- VEXP2 (R166). -/
def execTileVexp2 (t : TileId) (e : EngineId) (cyc : Nat) (s : State) : Host.Outcome State Fault Refusal :=
  issue s t e cyc (· = 0x69) vectorBody

/-- VLOG2 (R166). -/
def execTileVlog2 (t : TileId) (e : EngineId) (cyc : Nat) (s : State) : Host.Outcome State Fault Refusal :=
  issue s t e cyc (· = 0x6A) vectorBody

/-- VRCP (R166). -/
def execTileVrcp (t : TileId) (e : EngineId) (cyc : Nat) (s : State) : Host.Outcome State Fault Refusal :=
  issue s t e cyc (· = 0x6B) vectorBody

/-- VRSQRT (R166). -/
def execTileVrsqrt (t : TileId) (e : EngineId) (cyc : Nat) (s : State) : Host.Outcome State Fault Refusal :=
  issue s t e cyc (· = 0x6C) vectorBody

/-- VSIG (R166). -/
def execTileVsig (t : TileId) (e : EngineId) (cyc : Nat) (s : State) : Host.Outcome State Fault Refusal :=
  issue s t e cyc (· = 0x6D) vectorBody

/-- VRSUM: D[0] := sum of A. -/
def execTileVrsum (t : TileId) (e : EngineId) (cyc : Nat) (s : State) : Host.Outcome State Fault Refusal :=
  issue s t e cyc (· = 0x70) vectorBody

/-- VRMAX: D[0] := largest of A. -/
def execTileVrmax (t : TileId) (e : EngineId) (cyc : Nat) (s : State) : Host.Outcome State Fault Refusal :=
  issue s t e cyc (· = 0x71) vectorBody

/-- VRSSQ: D[0] := sum of squares of A. -/
def execTileVrssq (t : TileId) (e : EngineId) (cyc : Nat) (s : State) : Host.Outcome State Fault Refusal :=
  issue s t e cyc (· = 0x72) vectorBody

/-- VROT: a rotation of each pair. -/
def execTileVrot (t : TileId) (e : EngineId) (cyc : Nat) (s : State) : Host.Outcome State Fault Refusal :=
  issue s t e cyc (· = 0x78) vectorBody

/-- VSPLIT32 (R67). -/
def execTileVsplit32 (t : TileId) (e : EngineId) (cyc : Nat) (s : State) : Host.Outcome State Fault Refusal :=
  issue s t e cyc (· = 0x7C) vectorBody

/-- VSPLIT16 (R68). -/
def execTileVsplit16 (t : TileId) (e : EngineId) (cyc : Nat) (s : State) : Host.Outcome State Fault Refusal :=
  issue s t e cyc (· = 0x7D) vectorBody

end Sys2Proof.Machine
end

