-- ==== Sys2Proof/Machine/CeluloUnit.lean ====
section
/-! DEFINITION. The Celulo unit (09_celulo.md): launches (R233 to R236), the port (R194, R219, R221), exceptions and the
double-fault lock (R241 to R245), and how an instruction issues (R216, R227).
Readings and choices: log entries 33 and 34. -/

namespace Sys2Proof.Machine

/-- Bytes of a unit's data SRAM (Table 9.1). -/
def dataBytes : Nat := 16384
/-- Bytes of a bank pair (R218). -/
def pairBytes : Nat := 0x1800000

/-- The channel offset of pair address `p` of pair `r` (Table 9.2). -/
def pairOffset (r p : Nat) : Nat := p % 65536 + r * 65536 + p / 65536 * 0x400000

/-- Causes of Table 9.13. -/
inductive CCause where
  | illegalInstruction | illegalFormat | misaligned | sramRange | streamRange | streamQueueFull | streamEmpty
  | writeQueueFull | writeStream | granulePartial | loopRange | pcRange | sramUncorrectable | streamUncorrectable
  | fetchUncorrectable | launchOverrun | softwareFail
deriving DecidableEq, Repr

/-- The code of Table 9.13. -/
def CCause.code : CCause → Nat
  | .illegalInstruction => 1 | .illegalFormat => 2 | .misaligned => 3 | .sramRange => 4 | .streamRange => 5
  | .streamQueueFull => 6 | .streamEmpty => 7 | .writeQueueFull => 8 | .writeStream => 9 | .granulePartial => 0xA
  | .loopRange => 0xB | .pcRange => 0xC | .sramUncorrectable => 0xD | .streamUncorrectable => 0xE
  | .fetchUncorrectable => 0x10 | .launchOverrun => 0x11 | .softwareFail => 0x12

/-- A scalar register of a unit. -/
def sreg (U : CUnit) (i : Nat) : Word := Tab.get 0 U.s i
def setSreg (U : CUnit) (i : Nat) (v : Word) : CUnit := { U with s := Tab.set 0 U.s i v }
def vreg (U : CUnit) (i : Nat) : BitVec 128 := Tab.get 0 U.v i
def setVreg (U : CUnit) (i : Nat) (v : BitVec 128) : CUnit := { U with v := Tab.set 0 U.v i v }

/-! ### Launches -/

/-- The unit starts a launch in Celulo cycle `k` (R233): its data SRAM keeps its contents. `lu` is its logical number. -/
def startUnit (U : CUnit) (L : UnitLaunch) (lu k : Nat) : CUnit :=
  { U with
      s := Tab.set 0 (Tab.set 0 (Tab.set 0 [] 0 L.arg) 1 (BitVec.ofNat 32 lu)) 15 0x4000
      v := [], fcw := 0x007F7F55, pc := L.entry.setWidth 32, loops := [], inHandler := false
      running := some L, openRead := none, pendingRead := none, fifo := [], writeStream := none, writeQueue := []
      finishing := false, startCyc := k, nextIssue := k, ready := [] }

/-- The logical number of a unit in its parcel (R233). -/
def logicalUnit (s : State) (u : Nat) : Nat :=
  match s.channelParcel (u / 64) with
  | some p => s.logicalChannel p (u / 64) * 64 + u % 64
  | none => u

/-- A unit has completed launch `id` of tile `t` (R235). -/
def completeLaunch (s : State) (u : Nat) (L : UnitLaunch) : State :=
  s.modEngine L.tile 3 fun E =>
    { E with launches := E.launches.map fun l => if l.id = L.id then { l with remaining := l.remaining.filter (· ≠ u) } else l }

/-- The Celulo cycle of tile cycle `cyc` (R216: 3 tile cycles). -/
def celuloCycle (cyc : Nat) : Nat := cyc / 3

/-- Celulo busy cycles run from a unit's start to its DONE, halt or lock (R307): those before Celulo cycle `k` count. -/
def countCelulo (s : State) (u k : Nat) : State :=
  (s.count (s.channelParcel (u / 64)) 0x0D (k - (s.cunit u).startCyc)).modUnit u fun U => { U with startCyc := max U.startCyc k }

/-- Records of granules that the port read as uncorrectable and the program never took (Table 14.3). -/
def logNotTaken (s : State) (u cyc : Nat) (fifo : List FifoGranule) : State :=
  fifo.foldl (fun s g =>
    if g.bad && !g.logged then logUncorrAt s cyc (u / 64) (pairOffset (u % 64) g.addr) 2 else s) s

/-- The first unit of the parcel to halt in the leg, by cycle and then by number (R246). -/
def noteHalt (s : State) (u cyc : Nat) : State :=
  match s.channelParcel (u / 64) with
  | none => s
  | some p => s.modParcel p fun P =>
    { P with unitFirst := match P.unitFirst with
        | some (c, v) => if cyc < c || (cyc = c && u < v) then some (cyc, u) else some (c, v)
        | none => some (cyc, u) }

/-- A unit halts in tile cycle `cyc` (R243, R244): its port stops reading, a partly appended granule is discarded, complete
ones stay to be written. -/
def haltUnit (s : State) (u cyc : Nat) (h : UnitHalt) : State :=
  let U : CUnit := s.cunit u
  let s := noteHalt (logNotTaken (countCelulo s u (celuloCycle cyc + 1)) u cyc U.fifo) u cyc
  s.modUnit u fun U =>
    { U with halt := h, openRead := none, pendingRead := none, fifo := [], finishing := false,
             writeQueue := U.writeQueue.filter fun g => decide (g.bytes.length = 64) }

/-- CELULO_LAUNCH: the oldest launch on its way reaches the unit (R234): a retired pair completes it at once; an idle
unit starts; a running one holds it in its slot, or faults with LAUNCH_OVERRUN where the slot is full; a halted one
takes none. -/
def execCeluloLaunch (u : UnitId) (cyc : Nat) (s : State) : Host.Outcome State Fault Refusal :=
  let s := match s.channelParcel (u / 64) with | some p => s.settle p cyc | none => s
  match takeFirst (fun f : LaunchFlight => f.unit = u.val) s.launches with
  | none => .next s
  | some (f, rest) =>
    let s := { s with launches := rest }
    let U := s.cunit u
    if (s.channel (u / 64)).retiredPairs.contains (u % 64) then .next (completeLaunch s u f.launch)
    else if U.halt ≠ .none then .next s
    else
      match U.running, U.pendingLaunch with
      | none, _ => .next (s.setUnit u (startUnit U f.launch (logicalUnit s u) (celuloCycle cyc)))
      | some _, none => .next (s.setUnit u { U with pendingLaunch := some f.launch })
      | some _, some _ => .next (haltUnit s u cyc (.direct CCause.launchOverrun.code U.pc.toNat 0))

/-! ### The port -/

/-- The port reads one granule of the open stream. -/
def portRead (s : State) (u : Nat) : State :=
  let U := s.cunit u
  match U.openRead with
  | none => s
  | some r =>
    let c := u / 64
    let o := pairOffset (u % 64) r.addr
    let e := granuleErr s (stackKey c o / 64)
    let s := countCorrected s c [stackKey c o / 64]
    let s := s.count (s.channelParcel c) 0x10 1
    let g : FifoGranule := { addr := r.addr, bytes := bankRead s c o 64, bad := e = 2, logged := false }
    let U : CUnit := { U with fifo := U.fifo ++ [g] }
    s.setUnit u (if r.left ≤ 1 then { U with openRead := U.pendingRead, pendingRead := none }
      else { U with openRead := some { addr := r.addr + 64, left := r.left - 1 } })

/-- The port writes the oldest eligible granule of the write queue to its bank; staging lines do not follow (R199). -/
def portWrite (s : State) (u : Nat) : State :=
  let U := s.cunit u
  match U.writeQueue with
  | g :: rest =>
    if g.bytes.length = 64 then
      let c := u / 64
      ((bankWrite s c (pairOffset (u % 64) g.addr) g.bytes).count (s.channelParcel c) 0x11 1).setUnit u
        { U with writeQueue := rest }
    else s
  | [] => s

/-- PORT_FRAME: frames 0 to 3 of five read up to two granules, frame 4 writes up to two (R194, R219, R221). -/
def execPortFrame (u : UnitId) (s : State) : Host.Outcome State Fault Refusal :=
  let U := s.cunit u
  let next (s : State) : State := s.modUnit u fun U => { U with frame := (U.frame + 1) % 5 }
  if U.frame % 5 = 4 then .next (next (portWrite (portWrite s u) u))
  else
    match U.openRead with
    | none => .next (next s)
    | some r =>
      if U.halt ≠ .none then .next (next s)
      else if r.left = 1 then .next (next (if U.fifo.length < 16 then portRead s u else s))
      else if U.fifo.length ≤ 14 then .next (next (portRead (portRead s u) u))
      else .next (next s)

/-! ### Exceptions -/

/-- A unit's write to its data SRAM lands at the end of the Celulo cycle in which it issues, above a descriptor's of the same
cycle (R237). -/
def unitWrite (s : State) (u cyc a : Nat) (bytes : List Byte) : State :=
  match s.channelParcel (u / 64) with
  | some p => s.fly p { cyc := celuloEnd cyc, rank := rankUnit, work := .sram u a bytes }
  | none => s

/-- The exception frame (Table 9.14). -/
def excFrame (U : CUnit) (cause info word : Nat) : Nat :=
  U.pc.toNat + 2 ^ 32 * (cause + (if U.inHandler then 256 else 0) + U.loops.length * 512) + 2 ^ 64 * info + 2 ^ 96 * word

/-- A handler cause (R242, R243): the frame is pushed and the handler entered, or the unit locks. -/
def celuloException (s : State) (u cyc : Nat) (cause : CCause) (info word : Nat) : State :=
  let U := s.cunit u
  let sp := (sreg U 15).toNat
  if sp % 16 = 0 && 16 ≤ sp && sp ≤ dataBytes then
    let s := unitWrite s u cyc (sp - 16) (bytesOfNat (excFrame U cause.code info word) 16)
    (s.setUnit u
      { setSreg U 15 (BitVec.ofNat 32 (sp - 16)) with inHandler := true, pc := 2032, nextIssue := celuloCycle cyc + 1 }).modChannel
      (u / 64) fun K => { K with celuloExceptions := min (K.celuloExceptions + 1) 0xFFFFFFFF }
  else
    haltUnit (s.modUnit u fun U => { U with shadowPc := U.pc.setWidth 11, shadowCause := BitVec.ofNat 8 cause.code }) u cyc .lock

/-! ### Issue -/

/-- An instruction at its issue: the state that the row meets, the state at the start of its Celulo cycle, the unit, the tile
cycle, the unit's state, the index and the word. -/
structure CCtx where
  s0 : State
  s : State
  u : Nat
  cyc : Nat
  U : CUnit
  pc : Nat
  w : Nat

/-- A stop in an instruction: a handler cause with its EXC_INFO, a direct cause with its INFO (Table 9.13). -/
inductive CStop where
  | handler (cause : CCause) (info : Nat)
  | direct (cause : CCause) (info : Nat)
deriving DecidableEq, Repr

namespace CCtx

def d (c : CCtx) : Nat := fld c.w 6 4
def a (c : CCtx) : Nat := fld c.w 10 4
def b (c : CCtx) : Nat := fld c.w 14 4
def fn (c : CCtx) : Nat := fld c.w 18 8
def part (c : CCtx) : Nat := fld c.w 26 2
/-- s[A], s[B], s[D]. -/
def sA (c : CCtx) : Word := sreg c.U c.a
def sB (c : CCtx) : Word := sreg c.U c.b
def sD (c : CCtx) : Word := sreg c.U c.d
/-- IMM18, sign-extended. -/
def imm18 (c : CCtx) : Word := BitVec.ofInt 32 (sfld c.w 14 18)
/-- The data SRAM address s[A] + unit * IMM8, in 32 bits. -/
def addr (c : CCtx) (unit : Nat) : Nat := (c.sA + BitVec.ofInt 32 (sfld c.w 18 8 * unit)).toNat

/-- Raise a handler cause. -/
def raise {α : Type} (cause : CCause) (info : Nat) : Except CStop α := .error (.handler cause info)

/-- The Celulo cycle in which the instruction issues. -/
def k (c : CCtx) : Nat := celuloCycle c.cyc

/-- A result of the instruction is usable `n` Celulo cycles after its issue (R229); one usable in the next cycle needs no
note. -/
def usable (c : CCtx) (U : CUnit) (key n : Nat) (dot : Bool) : CUnit :=
  { U with ready := (U.ready.filter fun r => c.k < r.2.1 && r.1 ≠ key) ++ (if n ≤ 1 then [] else [(key, c.k + n, dot)]) }

/-- The instruction retires: the unit becomes `U`, flags are raised, and the next index follows (R231). -/
def retire (c : CCtx) (U : CUnit) (fl : FFlags) : State :=
  let (npc, loops, _) := afterInstr c.pc U.loops
  let s := c.s.setUnit c.u { U with pc := BitVec.ofNat 32 npc, loops := loops, nextIssue := c.k + 1 }
  if fl = 0 then s
  else s.modChannel (c.u / 64) fun K => { K with celuloFormatStatus := K.celuloFormatStatus ||| fl.setWidth 32 }

/-- The instruction writes `bytes` of data SRAM as it retires. -/
def store (c : CCtx) (a : Nat) (bytes : List Byte) : CCtx := { c with s := unitWrite c.s c.u c.cyc a bytes }

/-- The keys of R229 for a scalar register, a vector register and a data SRAM address. -/
def keyS (i : Nat) : Nat := i
def keyV (i : Nat) : Nat := 16 + i
def keyM (a : Nat) : Nat := 32 + a / 64

/-- Alignment and range of a data SRAM access (R228). -/
def checkData (a n : Nat) : Except CStop Unit :=
  if a % n ≠ 0 then raise .misaligned a else if dataBytes < a + n then raise .sramRange a else .ok ()

/-- Read `n` bytes of data SRAM; an uncorrectable byte raises SRAM_UNCORRECTABLE with its address. -/
def readData (c : CCtx) (a n : Nat) : Except CStop (List Byte) :=
  match errAt c.U.dataErr 2 a n with
  | some b => raise .sramUncorrectable b
  | none => .ok (Mem.readBytes c.U.data a n)

/-- A corrected data SRAM read is an event of the channel's bucket (R351). -/
def counted (c : CCtx) (a n : Nat) : CCtx :=
  if (errAt c.U.dataErr 1 a n).isSome then { c with s := c.s.bucketEvent 2 (c.u / 64) (c.s.channelParcel (c.u / 64)) } else c

end CCtx

/-- Opcodes of Table 9.7. -/
def celuloOp (op : Nat) : Bool := (0x01 ≤ op && op ≤ 0x16) || (0x18 ≤ op && op ≤ 0x1C)

/-- The record that the program has taken bytes of an uncorrectable granule (Table 14.5) is written once for a granule. -/
def logTaken (c : CCtx) (addr : Nat) : State :=
  (logUncorrAt c.s c.cyc (c.u / 64) (pairOffset (c.u % 64) addr) 1).modUnit c.u fun U =>
    { U with fifo := U.fifo.map fun g => if g.bad && g.addr = addr then { g with logged := true } else g }

/-- A stop takes effect: the records of Table 14.3, then the exception or the direct fault (R242, R244). -/
def celuloStop (c : CCtx) (x : CStop) : State :=
  let p := c.s.channelParcel (c.u / 64)
  match x with
  | .handler cause info =>
    let s :=
      if cause = .sramUncorrectable then c.s.logCycle c.cyc 2 3 c.u p 3 info
      else if cause = .streamUncorrectable then logTaken c info
      else c.s
    celuloException s c.u c.cyc cause info c.w
  | .direct cause info =>
    let s := if cause = .fetchUncorrectable then c.s.logCycle c.cyc 2 3 c.u p 4 (c.pc * 4) else c.s
    haltUnit s c.u c.cyc (.direct cause.code c.pc (BitVec.ofNat 32 info))

/-- A register or line of `keys` is not usable yet (R229); a VDOT does not wait for another VDOT's sum at key `acc`. -/
def celuloWaits (c : CCtx) (keys : List Nat) (acc : Option Nat) : Bool :=
  c.U.ready.any fun r => c.k < r.2.1 && ((keys.contains r.1 && !(r.2.2 && acc = some r.1)) || (acc = some r.1 && !r.2.2))

/-- Issue the instruction at the unit's program counter as one of opcode `op` in tile cycle `cyc` (R216, R227): at most one
in a Celulo cycle, after what landed in earlier ones. A word with another opcode of Table 9.7 is another row's; a reserved
one raises ILLEGAL_INSTRUCTION. It waits for what `reads` names (R229). -/
def celuloIssue (s0 : State) (u cyc op : Nat) (reads : CCtx → List Nat × Option Nat) (body : CCtx → Except CStop State) :
    State :=
  let ch := u / 64
  match s0.channelParcel ch with
  | none => s0
  | some p =>
    let s := s0.settle p (cyc / 3 * 3)
    let U := s.cunit u
    if U.running.isNone || U.halt ≠ .none || (U.finishing && op ≠ 0x19) || celuloCycle cyc < U.nextIssue then s0
    else
      let pc := U.pc.toNat
      let w := if pc < 2048 then (Tab.get 0 (s.channel ch).image pc).toNat else 0
      let c : CCtx := { s0 := s0, s := s, u := u, cyc := cyc, U := U, pc := pc, w := w }
      if 2048 ≤ pc then celuloStop c (.handler .pcRange 0)
      else if Tab.get 0 U.instrErr pc = 2 then celuloStop c (.direct .fetchUncorrectable 0)
      else if !celuloOp (w % 64) then celuloStop c (.handler .illegalInstruction 0)
      else if w % 64 ≠ op || celuloWaits c (reads c).1 (reads c).2 then s0
      else
        let c := if Tab.get 0 U.instrErr pc = 1 then { c with s := s.bucketEvent 2 ch (some p) } else c
        match body c with
        | .ok s' => s'
        | .error x => celuloStop c x

end Sys2Proof.Machine
end

