-- ==== Sys2Proof/Machine/ServingOps.lean ====
section
/-! DEFINITION. What the steward computes for serving (11_serving.md): the request fields of a submission entry, page
columns and loads (R279 to R282), the admission arithmetic (R36, R37, R270, R281, R470), handles and insets (R283 to
R285), and the completions it holds for the host rings (R266, R268).
Readings and choices: log entries 44 and 45. -/

namespace Sys2Proof.Machine

/-! ### Submission entries (Table 11.4) -/

namespace Sub

def opcode (e : BitVec 512) : Nat := fld e.toNat 0 8
def cls (e : BitVec 512) : Nat := fld e.toNat 8 4
def ring (e : BitVec 512) : Nat := fld e.toNat 12 3
def inset (e : BitVec 512) : Nat := fld e.toNat 16 6
def tag (e : BitVec 512) : BitVec 32 := BitVec.ofNat 32 (fld e.toNat 32 32)
def addr (e : BitVec 512) : Nat := fld e.toNat 64 64
def len (e : BitVec 512) : Nat := fld e.toNat 128 20
def gen (e : BitVec 512) : Nat := fld e.toNat 148 20
def pendingLimit (e : BitVec 512) : Nat := fld e.toNat 168 16
def handle (e : BitVec 512) : Nat := fld e.toNat 192 40
def stops (e : BitVec 512) : List Nat := (List.range 4).map fun i => fld e.toNat (320 + 32 * i) 32

/-- The reserved fields are 0. -/
def reservedZero (e : BitVec 512) : Bool :=
  fld e.toNat 15 1 = 0 && fld e.toNat 22 10 = 0 && fld e.toNat 184 8 = 0 && fld e.toNat 232 24 = 0 && fld e.toNat 448 64 = 0

end Sub

/-- The recovery allowance a of a class, and its default pending limit (Table 11.9). -/
def classAllowance (k : Nat) : Nat := if k = 0 then 1 else if k = 1 then 0 else if k = 2 then 2 else 4
def classLimit (k : Nat) : Nat := if k = 0 then 1000 else if k = 1 then 200 else if k = 2 then 5000 else 60000

/-- Blocks of 256 positions of `n` positions. -/
def blocksOf (n : Nat) : Nat := (n + 255) / 256
def ceilDiv (a b : Nat) : Nat := if b = 0 then 0 else (a + b - 1) / b

/-! ### Gazetteer entries -/

/-- An entry that counts as active (R36): PREFILL, DECODE or REGISTER. -/
def GazEntry.active (g : GazEntry) : Bool := g.state = .prefill || g.state = .decode || g.state = .register

/-- The entries in use, in Gazetteer order. -/
def gazList (V : Serving) : List (Nat × GazEntry) := V.gaz.filter fun g => g.2.state ≠ .free

def activeList (V : Serving) : List (Nat × GazEntry) := V.gaz.filter fun g => g.2.active

/-- The lowest FREE entry of a slice of `n` entries. -/
def firstFree (V : Serving) (n : Nat) : Option Nat :=
  (List.range n).find? fun e => (Tab.get GazEntry.init V.gaz e).state = .free

/-- Prefill layer legs that a request from position `shared` to L owes in all (R276). -/
def prefillLegs (V : Serving) (L shared : Nat) : Nat := ceilDiv (L - shared) V.chunk * V.nLayers

/-! ### Page columns (11.6) -/

/-- The slot `k` of logical unit `u` exists: its channel serves, its pair is not retired, and no page that it touches is
retired (R279, R366). -/
def slotOk (s : State) (p u k : Nat) : Bool :=
  let V := (s.parcel p).serving
  match s.globalChannel p (u / 64) with
  | none => false
  | some c =>
    let K := s.channel c
    let r := u % 64
    let lo := V.stripeFirst.toNat + k * V.nLayers
    !s.channelFailed c && !K.retiredPairs.contains r &&
    !K.retiredPages.any fun g => g % 2 = r / 32 && lo ≤ g / 2 && g / 2 < lo + V.nLayers

/-- Column slots of a unit by size alone (R279). -/
def slotsPerUnit (V : Serving) : Nat := if V.nLayers = 0 then 0 else V.stripeCount.toNat / V.nLayers

/-- The parcel's logical units in interleave order (R280). -/
def unitOrder (s : State) (p : Nat) : List Nat :=
  let C := 24 * s.sectorCount p
  (List.range (64 * C)).map fun k => k % C * 64 + k / C

/-- A unit with its load and its free slots. -/
structure UnitRoom where
  unit : Nat
  load : Nat
  free : List Nat
deriving DecidableEq, Repr

/-- The slots that unit `u` has. -/
def unitSlots (s : State) (p u : Nat) : List Nat :=
  (List.range (slotsPerUnit (s.parcel p).serving)).filter fun k => slotOk s p u k

/-- The load of unit `u` (R280): columns held for active requests, plus one for each active request that cites a handle
with a column on the unit. -/
def unitLoad (V : Serving) (u : Nat) : Nat :=
  let n := slotsPerUnit V
  let onUnit (cols : List Nat) : Nat := (cols.filter fun x => n ≠ 0 && x / n = u).length
  (activeList V).foldl (fun a g =>
    a + onUnit g.2.cols +
      (match g.2.handleEntry with
       | some h => if 0 < onUnit (Tab.get GazEntry.init V.gaz h).cols then 1 else 0
       | none => 0)) 0

/-- Columns held by entries, or waiting for their clears. -/
def heldColumns (V : Serving) : List Nat := V.gaz.flatMap (fun g => g.2.cols) ++ V.clearingCols.map (·.1)

/-- Every unit's room as it stands. -/
def rooms (s : State) (p : Nat) : List UnitRoom :=
  let V := (s.parcel p).serving
  let n := slotsPerUnit V
  let held := heldColumns V
  (unitOrder s p).map fun u =>
    { unit := u, load := unitLoad V u, free := (unitSlots s p u).filter fun k => !held.contains (u * n + k) }

/-- The place of the room to use next: least load with a free slot, the earliest on a tie. -/
def bestRoom : List UnitRoom → Option (Nat × Nat)
  | [] => none
  | r :: rs =>
    let rest := (bestRoom rs).map fun x => (x.1 + 1, x.2)
    if r.free.isEmpty then rest
    else match rest with
      | some (i, l) => if l < r.load then some (i, l) else some (0, r.load)
      | none => some (0, r.load)

/-- Use the lowest free slot of the room at place `i`: the column number and the rooms after. -/
def useRoom (n : Nat) : List UnitRoom → Nat → List UnitRoom × Nat
  | [], _ => ([], 0)
  | r :: rs, 0 => ({ r with load := r.load + 1, free := r.free.drop 1 } :: rs, r.unit * n + r.free.headD 0)
  | r :: rs, i + 1 => let (rs', c) := useRoom n rs i; (r :: rs', c)

/-- Place `m` columns (R280); none where they do not all fit. -/
def placeColumns (n : Nat) : Nat → List UnitRoom → Option (List Nat × List UnitRoom)
  | 0, rs => some ([], rs)
  | m + 1, rs =>
    match bestRoom rs with
    | none => none
    | some (i, _) =>
      let (rs', c) := useRoom n rs i
      (placeColumns n m rs').map fun x => (c :: x.1, x.2)

/-- The load of a citing request on the units that hold its handle's columns. -/
def citeRooms (V : Serving) (h : Option Nat) (rs : List UnitRoom) : List UnitRoom :=
  match h with
  | none => rs
  | some e =>
    let n := slotsPerUnit V
    let cols := (Tab.get GazEntry.init V.gaz e).cols
    rs.map fun r => if cols.any (fun x => n ≠ 0 && x / n = r.unit) then { r with load := r.load + 1 } else r

def maxLoad (rs : List UnitRoom) : Nat := rs.foldl (fun a r => max a r.load) 0

/-- Units with slots. -/
def unitsWithSlots (s : State) (p : Nat) : Nat := ((unitOrder s p).filter fun u => !(unitSlots s p u).isEmpty).length

def columnsTotal (s : State) (p : Nat) : Nat := (unitOrder s p).foldl (fun a u => a + (unitSlots s p u).length) 0

def columnsFree (s : State) (p : Nat) : Nat := (rooms s p).foldl (fun a r => a + r.free.length) 0

/-! ### Admission arithmetic (R36, R281, R470) -/

/-- The smallest bucket that holds `n` requests. -/
def bucketOf (n : Nat) : Option Nat := [8, 16, 32, 64, 128, 256, 512].find? fun b => n ≤ b

def templateCost (T : LegTemplate) (kpos : Nat) : Nat := T.fixed + T.perKpos * kpos

/-- The positions that a template's cost is counted at (R281): the larger of the sum of L + G and the load-equivalent
count for a largest load `m`. -/
def positionsFor (V : Serving) (sum m units : Nat) : Nat := max sum (ceilDiv ((m - 1) * units * 256) V.heads)

/-- t_dec[b] of R470: the greatest cost at kpos among the templates of the bucket that cover `pos`. -/
def admitDec (c : Chart) (b pos : Nat) : Option Nat :=
  let ts := c.templates.filter fun T => (match T.use with | .decode b' => b' = b | .prefill _ _ => false) && pos ≤ T.maxPos
  if ts.isEmpty then none else some (ts.foldl (fun a T => max a (templateCost T (ceilDiv pos 1024))) 0)

/-- t_pre[chunk] of R470: the greatest cost of a prefill template, at its largest declared position count. -/
def admitPre (c : Chart) : Nat :=
  (c.templates.filter fun T => match T.use with | .prefill _ _ => true | .decode _ => false).foldl
    (fun a T => max a (templateCost T (ceilDiv T.maxPos 1024))) 0

/-- R36 for `active` requests in all and `pos` positions. -/
def budgetHolds (s : State) (V : Serving) (c : Chart) (active pos : Nat) : Bool :=
  match bucketOf active with
  | none => false
  | some b =>
    match admitDec c b pos with
    | none => false
    | some dec => V.qd * dec + V.qp * admitPre c ≤ s.legBudget

/-- The sum of L + G over the active requests. -/
def activePositions (V : Serving) : Nat := (activeList V).foldl (fun a g => a + g.2.promptLen + g.2.genLimit) 0

/-- Columns that a request places: those of its L + G positions less its handle's (R280). -/
def columnsNeeded (V : Serving) (L G : Nat) (h : Option Nat) : Nat :=
  blocksOf (L + G) * V.heads -
    (match h with | some e => (Tab.get GazEntry.init V.gaz e).cols.length | none => 0)

/-- The handle entry whose token is `t`, in DATUM. -/
def findHandle (V : Serving) (t : Nat) : Option Nat :=
  (V.gaz.find? fun g => g.2.state = .datum && g.2.token = t).map (·.1)

/-- Could the request run with no other request active (R270)? -/
def fitsAlone (s : State) (p : Nat) (e : BitVec 512) : Bool :=
  let P := s.parcel p
  let V := P.serving
  match P.chart with
  | none => false
  | some c =>
    let h := if Sub.opcode e ≠ 0x01 || Sub.handle e = 0 then none else findHandle V (Sub.handle e)
    let empty := (unitOrder s p).map fun u => { unit := u, load := 0, free := unitSlots s p u : UnitRoom }
    match placeColumns (slotsPerUnit V) (columnsNeeded V (Sub.len e) (Sub.gen e) h) (citeRooms V h empty) with
    | none => false
    | some (_, rs) => budgetHolds s V c 1 (positionsFor V (Sub.len e + Sub.gen e) (maxLoad rs) (unitsWithSlots s p))

/-! ### Completions (11.2) -/

/-- What goes into a completion entry (Table 11.6). -/
structure Comp where
  kind : Nat
  reason : Nat
  tag : BitVec 32
  token : Nat
  value : Nat
  index : Nat
  tick : Nat
  bound : Nat
  unchecked : Bool
  recomputed : Bool
deriving DecidableEq, Repr

/-- A completion with nothing but its kind, reason and tag, at a tick. -/
def Comp.plain (kind reason : Nat) (tag : BitVec 32) (tick : Nat) : Comp :=
  { kind := kind, reason := reason, tag := tag, token := 0, value := 0, index := 0, tick := tick, bound := 0,
    unchecked := false, recomputed := false }

/-- The entry's bits, PHASE and LATE_DELIVERY 0. -/
def Comp.bits (c : Comp) : BitVec 256 :=
  BitVec.ofNat 256 (c.kind % 256 + (if c.unchecked then 2 ^ 10 else 0) + (if c.recomputed then 2 ^ 11 else 0) +
    c.reason % 256 * 2 ^ 16 + c.tag.toNat * 2 ^ 32 + c.token % 2 ^ 40 * 2 ^ 64 + c.value % 2 ^ 32 * 2 ^ 128 +
    c.index % 2 ^ 20 * 2 ^ 160 + c.tick % 2 ^ 48 * 2 ^ 192 + c.bound % 256 * 2 ^ 240)

/-- Hold a completion for ring `r` (R266), judged by nothing. -/
def holdComp (s : State) (p r : Nat) (h : HeldComp) : State :=
  s.modServing p fun V =>
    { V with compRings := Tab.modify Ring.init V.compRings r fun R => { R with held := R.held ++ [h] } }

def complete (s : State) (p r : Nat) (c : Comp) : State :=
  holdComp s p r { entry := c.bits, token := c.token, judged := false, first := false, bound := 0, prev := 0 }

/-- A REFUSED completion counts in REFUSED_TOTAL. -/
def refuseEntry (s : State) (p r reason : Nat) (tag : BitVec 32) (tick : Nat) : State :=
  (complete s p r (Comp.plain 0x04 reason tag tick)).modServing p fun V => { V with refusedTotal := V.refusedTotal + 1 }

/-- A delivery that R277 judges: a TOKEN, or a DATUM_READY (`first`). -/
def deliver (s : State) (p : Nat) (g : GazEntry) (first : Bool) (c : Comp) : State :=
  holdComp s p g.ring
    { entry := c.bits, token := g.token, judged := true, first := first,
      bound := if first then g.firstBound else g.tokenBound + g.boundExtra, prev := g.lastTick }

/-! ### Bounds (R37) -/

/-- Prefill layer legs still owed to requests committed earlier than token `t`. -/
def legsAhead (V : Serving) (t : Nat) : Nat :=
  ((V.gaz.filter fun g => (g.2.state = .prefill || g.2.state = .register) && g.2.token < t).map fun g =>
    prefillLegs V g.2.promptLen g.2.sharedPos - g.2.doneLegs).foldl (· + ·) 0

/-- The first-token bound of a request with token `t`, whose own legs are counted in full, from boundary `b`. -/
def firstBoundOf (V : Serving) (t cls b own : Nat) : Nat :=
  b + ceilDiv (legsAhead V t + own) V.qp + classAllowance cls

/-- The per-token bound. -/
def tokenBoundOf (V : Serving) (cls : Nat) : Nat := ceilDiv V.nLayers V.qd + classAllowance cls

/-! ### Releases (R274, R282, R283, R285) -/

/-- Pages of a column: the channel and page number (64 KiB) of each layer. -/
def columnPages (s : State) (p col : Nat) : List (Nat × Nat) :=
  let V := (s.parcel p).serving
  let n := slotsPerUnit V
  if n = 0 then [] else
    let u := col / n
    match s.globalChannel p (u / 64) with
    | none => []
    | some c => (List.range V.nLayers).map fun l => (c, (V.stripeFirst.toNat + col % n * V.nLayers + l) * 64 + u % 64)

/-- Enqueue pages for clearing in tick `tick`, in order, as far as the queues take them: what is left. -/
def enqueuePages (tick : Nat) (s : State) : List (Nat × Nat) → State × List (Nat × Nat)
  | [] => (s, [])
  | (c, g) :: rest =>
    match enqueueClear s c g tick with
    | some s' => enqueuePages tick s' rest
    | none => let (s', l) := enqueuePages tick s rest; (s', (c, g) :: l)

/-- Columns return to the free slots; with CLEAR_ON_FREE each first waits for its pages' clears. What a boundary enqueues
counts as enqueued in the tick that ends there, `tick`, so that the first clear slot after it serves it (R206, R282). -/
def freeColumns (s : State) (p tick : Nat) (cols : List Nat) : State :=
  if (s.parcel p).serving.clearOnFree then
    cols.foldl (fun s c =>
      let (s', left) := enqueuePages tick s (columnPages s p c)
      s'.modServing p fun V => { V with clearingCols := V.clearingCols ++ [(c, left)] }) s
  else s

/-- At a boundary: enqueue what is left of the columns that wait for their clears; those with no page queued any more are
free. -/
def settleColumns (s : State) (p : Nat) : State :=
  let cols := (s.parcel p).serving.clearingCols
  let (s, cols) := cols.foldl (fun (a : State × List (Nat × List (Nat × Nat))) x =>
    let (s', left) := enqueuePages (s.now - 1) a.1 x.2
    (s', a.2 ++ [(x.1, left)])) (s, [])
  let busy (col : Nat) : Bool :=
    (columnPages s p col).any fun x => ((s.channel x.1).clearQueue.any fun q => q.1 = x.2)
  s.modServing p fun V => { V with clearingCols := cols.filter fun x => !x.2.isEmpty || busy x.1 }

/-- The entries of a leg's batch whose rows have an effect. -/
def Leg.live (l : Leg) : List Nat := l.batch.filter fun e => !l.masked.contains e

/-- Is entry `e` named by a leg that is composed, committed or running? -/
def namedByLeg (P : Parcel) (e : Nat) : Bool :=
  let names (l : Leg) : Bool := l.live.contains e
  (match P.nextPlan with | some ls => ls.any names | none => false) || P.legs.any names || P.serving.deferred.any names ||
  P.serving.recompute.any names

/-- Versions of a slot that no entry names and that are not current are freed (R285). -/
def freeVersions (V : Serving) : Serving :=
  let bound (slot v : Nat) : Bool := (gazList V).any fun g => g.2.insetSlot = slot && g.2.insetVersion = v
  { V with insets := V.insets.map fun x =>
      (x.1, { x.2 with live := x.2.live.filter fun v => v.1 = x.2.current || bound x.1 v.1 }) }

/-- At a boundary an entry becomes FREE, its columns and its prompt buffer with it; a handle that it cites loses a
reference. -/
def releaseEntry (s : State) (p e : Nat) : State :=
  let g := s.gaz p e
  let s := freeColumns s p (s.now - 1) g.cols
  let s := match g.handleEntry with
    | some h => s.modGaz p h fun x => { x with generated := x.generated - 1 }
    | none => s
  s.modServing p fun V => { V with gaz := Tab.erase V.gaz e }

end Sys2Proof.Machine
end

