-- ==== Sys2Proof/Machine/Serving.lean ====
section
/-! DEFINITION. The serving commands (11_serving.md): doorbells and submission entries (R266, R267, R269),
admission (R36, R271, R284), pending expiry (R271), and the writing of completions (R266, R277).
Readings and choices: log entries 44 and 45. -/

namespace Sys2Proof.Machine

/-! ### Rings -/

/-- DOORBELL: TAIL of a submission ring (Table 11.3). -/
def execDoorbell (p : ParcelId) (r : Fin 8) (tail : BitVec 32) (s : State) : Host.Outcome State Fault Refusal :=
  if accessOpen s (.tenant p) then
    .next (s.modServing p fun V =>
      { V with subRings := Tab.modify Ring.init V.subRings r fun R => { R with tail := tail } })
  else .next (turnAway s (.tenant p))

/-- A submission ring with an entry to consume. -/
def ringReady (V : Serving) (r : Nat) : Bool :=
  let R := Tab.get Ring.init V.subRings r
  R.enable && R.head ≠ R.tail

/-- A free prompt buffer, the lowest (R269). -/
def freeBuffer (s : State) (p : Nat) : Option Nat :=
  let V := (s.parcel p).serving
  let used := V.pending.map (·.buf) ++ V.gaz.filterMap (fun g => g.2.promptBuf)
  (List.range (256 * s.sectorCount p)).find? fun b => !used.contains b

/-- The next ring in round-robin order with an entry (R270). -/
def nextSubRing (V : Serving) : Option Nat :=
  ((List.range 8).map fun i => (V.nextRing + i) % 8).find? fun r => ringReady V r

/-- The steward consumes the entry at the head of ring r: only while the job is RUNNING (R295), in round-robin order
where no ring can be waiting for a prompt buffer. -/
def takeEntry (s : State) (p r : Nat) : Option State :=
  let P := s.parcel p
  let V := P.serving
  if P.ctl.job ≠ .running || !hostOpen s p || !ringReady V r then none
  else if (freeBuffer s p).isSome && nextSubRing V ≠ some r then none
  else
    some ((s.modServing p fun V =>
      { V with nextRing := (r + 1) % 8
               subRings := Tab.modify Ring.init V.subRings r fun R => { R with head := R.head + 1 } }).count (some p) 0x14 1)

/-- ENTRY_READ: the host read of the entry failed (R267). -/
def execEntryRead (p : ParcelId) (r : Fin 8) (s : State) : Host.Outcome State Fault Refusal :=
  match takeEntry s p r with
  | none => .next s
  | some s => .next (refuseEntry s p r 0x0E 0 s.now)

/-- The limits of Table 11.5 and R286 for an entry. -/
def entryBad (V : Serving) (e : BitVec 512) : Bool :=
  let L := Sub.len e
  let G := Sub.gen e
  !Sub.reservedZero e ||
  match Sub.opcode e with
  | 0x01 => L < 1 || G < 1 || 262144 < L + G || 65520 < blocksOf (L + G) * V.heads || 3 < Sub.cls e || Sub.addr e % 4 ≠ 0
  | 0x03 => L < 256 || 262144 < L || G ≠ 0 || 3 < Sub.cls e || Sub.addr e % 4 ≠ 0
  | 0x05 => Sub.inset e = 0
  | 0x06 => Sub.inset e = 0
  | 0x00 => false
  | 0x02 => false
  | 0x04 => false
  | _ => true

/-- Consume an entry of opcode `op` from ring r: a bad entry is answered with REFUSED/BAD_ENTRY; a listed opcode other
than `op` is another row's. -/
def consume (s : State) (p r op : Nat) (e : BitVec 512) (body : State → State) : State :=
  let V := (s.parcel p).serving
  if Sub.opcode e ≠ op && Sub.opcode e ≤ 0x06 then s
  else
    match takeEntry s p r with
    | none => s
    | some s => if entryBad V e then refuseEntry s p (Sub.ring e) 0x07 (Sub.tag e) s.now else body s

/-- NOP: consumed with no completion. -/
def execSubmitNop (p : ParcelId) (r : Fin 8) (entry : BitVec 512) (s : State) : Host.Outcome State Fault Refusal :=
  .next (consume s p r 0x00 entry fun s => s)

/-- The position from which the prompt of an entry is read (R269, R283): SHARED_POS of the handle that it cites, as the
handle stands when the entry is consumed. -/
def sharedFrom (V : Serving) (e : BitVec 512) : Nat :=
  if Sub.opcode e = 0x01 && Sub.handle e ≠ 0 then
    match findHandle V (Sub.handle e) with
    | some h => (Tab.get GazEntry.init V.gaz h).sharedPos
    | none => 0
  else 0

/-- A request or registration is consumed into a prompt buffer, or refused as too large (R269, R270): it joins the list in
its order of arrival. -/
def takeRequest (p : Nat) (e : BitVec 512) (s : State) : State :=
  match freeBuffer s p with
  | none => s
  | some b =>
    if fitsAlone s p e then
      s.modServing p fun V => { V with pending := V.pending ++ [{ raw := e, buf := b, shared := sharedFrom (s.parcel p).serving e, since := none, waited := 0 }] }
    else refuseEntry s p (Sub.ring e) 0x06 (Sub.tag e) s.now

/-- SUBMIT, consumed only when a prompt buffer is free. -/
def execSubmit (p : ParcelId) (r : Fin 8) (entry : BitVec 512) (s : State) : Host.Outcome State Fault Refusal :=
  if (freeBuffer s p).isNone then .next s else .next (consume s p r 0x01 entry (takeRequest p entry))

/-- REGISTER_DATUM, a request with G = 0 (R283). -/
def execRegisterDatum (p : ParcelId) (r : Fin 8) (entry : BitVec 512) (s : State) : Host.Outcome State Fault Refusal :=
  if (freeBuffer s p).isNone then .next s else .next (consume s p r 0x03 entry (takeRequest p entry))

/-- CANCEL takes effect at S2 of the next boundary (R272, R273). -/
def execCancel (p : ParcelId) (r : Fin 8) (entry : BitVec 512) (s : State) : Host.Outcome State Fault Refusal :=
  .next (consume s p r 0x02 entry fun s => s.modServing p fun V => { V with cancelled := V.cancelled ++ [Sub.tag entry] })

/-- Remember a change for S4 of the boundary after next (R272). -/
def noteChange (p op arg : Nat) (e : BitVec 512) (s : State) : State :=
  s.modServing p fun V =>
    { V with changes := V.changes ++ [{ opcode := op, tick := s.now, ring := Sub.ring e, hostTag := Sub.tag e, arg := arg }] }

def execReleaseDatum (p : ParcelId) (r : Fin 8) (entry : BitVec 512) (s : State) : Host.Outcome State Fault Refusal :=
  .next (consume s p r 0x04 entry (noteChange p 0x04 (Sub.handle entry) entry))

def execInsetPublish (p : ParcelId) (r : Fin 8) (entry : BitVec 512) (s : State) : Host.Outcome State Fault Refusal :=
  .next (consume s p r 0x05 entry (noteChange p 0x05 (Sub.inset entry) entry))

def execInsetRetire (p : ParcelId) (r : Fin 8) (entry : BitVec 512) (s : State) : Host.Outcome State Fault Refusal :=
  .next (consume s p r 0x06 entry (noteChange p 0x06 (Sub.inset entry) entry))

/-! ### Completions -/

/-- The completion has the kind TOKEN. -/
def isToken (h : HeldComp) : Bool := fld h.entry.toNat 0 8 = 0x02

/-- R277: is the delivery late? -/
def lateNow (s : State) (p : Nat) (h : HeldComp) : Bool :=
  h.judged && ((s.parcel p).tick.overrun || (if h.first then h.bound < s.now else h.prev + h.bound < s.now))

/-- What a delivery changes in the entry of its request: the count, the tick of delivery, BOUND_MISSED. -/
def noteDelivery (s : State) (p : Nat) (h : HeldComp) (late : Bool) : State :=
  if !h.judged then s
  else
    match ((s.parcel p).serving.gaz.find? fun g => g.2.token = h.token) with
    | none => s
    | some (e, _) =>
      s.modGaz p e fun g =>
        { g with generated := if isToken h && g.state ≠ .datum then g.generated + 1 else g.generated
                 lastTick := s.now, boundExtra := 0, boundMissed := g.boundMissed || late }

/-- COMPLETION_WRITE: the oldest completion held for ring r is written, once the ring is enabled and has room (R266). -/
def execCompletionWrite (p : ParcelId) (r : Fin 8) (s : State) : Host.Outcome State Fault Refusal :=
  let V := (s.parcel p).serving
  let R := Tab.get Ring.init V.compRings r
  let size := 2 ^ R.sizeLog2
  match R.held with
  | [] => .next s
  | h :: rest =>
    if !R.enable || !hostOpen s p || size ≤ (R.tail - R.head).toNat then .next s
    else
      let late := lateNow s p h
      let phase := R.tail.toNat / size % 2 = 0
      let entry := h.entry ||| (if phase then 0x100 else 0) ||| (if late then 0x200 else 0)
      let rest := rest.map fun x => if h.judged && x.judged && x.token = h.token then { x with prev := s.now } else x
      let s := s.send (.completion p r (BitVec.ofNat 32 (R.tail.toNat % size)) entry ((s.parcel p).sec.tdi = .run))
      let s := s.modServing p fun V =>
        { V with compRings := Tab.set Ring.init V.compRings r { R with held := rest, tail := R.tail + 1, added := true }
                 tokensDelivered := V.tokensDelivered + (if isToken h then 1 else 0)
                 lateDeliveries := V.lateDeliveries + (if late then 1 else 0) }
      .next ((noteDelivery s p h late).count (some p) 0x14 1)

/-! ### Insets (R285) -/

/-- INSET_PUBLISH on a slot: the slot after, and the reason. -/
def publishSlot (x : InsetSlot) : InsetSlot × Nat :=
  match x.staged with
  | none => (x, 0x09)
  | some i =>
    if 0xFFFFFFFF ≤ x.last then (x, 0x0D)
    else if 4 ≤ x.live.length then (x, 0x0B)
    else ({ staged := none, current := x.last + 1, last := x.last + 1, live := x.live ++ [(x.last + 1, i)] }, 0)

/-- The slot after the changes that hold by the commit of an evaluation made now: those read in an earlier tick. -/
def slotAtCommit (V : Serving) (now slot : Nat) : InsetSlot :=
  (V.changes.filter fun c => c.tick < now && c.arg = slot).foldl
    (fun x c => if c.opcode = 0x05 then (publishSlot x).1 else if c.opcode = 0x06 then { x with current := 0 } else x)
    (Tab.get InsetSlot.init V.insets slot)

/-! ### Admission (R36, R271, R284) -/

/-- Does the request's handle or inset stop it, and why (R284, R285)? -/
def handleReason (V : Serving) (now : Nat) (e : BitVec 512) : Option Nat :=
  let k := Sub.inset e
  let cites := Sub.opcode e = 0x01 && Sub.handle e ≠ 0
  let released := V.changes.any fun c => c.opcode = 0x04 && c.arg = Sub.handle e && c.tick < now
  let noInset := k ≠ 0 && (slotAtCommit V now k).current = 0
  if cites then
    match findHandle V (Sub.handle e) with
    | none => some 0x08
    | some h =>
      let g := Tab.get GazEntry.init V.gaz h
      if g.releasing || released then some 0x08
      else if g.insetSlot ≠ k then some 0x0A
      else if noInset then some 0x09 else none
  else if noInset then some 0x09 else none

/-- The evaluation of one pending request. -/
def evaluate (s : State) (p : Nat) (q : PendReq) : Evaluation :=
  let e := q.raw
  let P := s.parcel p
  let V := P.serving
  match handleReason V s.now e with
  | some r => .refuse q.buf r
  | none =>
    let h := if Sub.opcode e = 0x01 && Sub.handle e ≠ 0 then findHandle V (Sub.handle e) else none
    let active := (activeList V).length
    match P.chart, firstFree V (1024 * s.sectorCount p) with
    | some c, some entry =>
      if 512 < active + 1 then .none
      else
        match placeColumns (slotsPerUnit V) (columnsNeeded V (Sub.len e) (Sub.gen e) h) (citeRooms V h (rooms s p)) with
        | none => .none
        | some (cols, rs) =>
          let pos := positionsFor V (activePositions V + Sub.len e + Sub.gen e) (maxLoad rs) (unitsWithSlots s p)
          if budgetHolds s V c (active + 1) pos then .admission q.buf entry cols h else .none
    | _, _ => .none

/-- The oldest pending request. -/
def oldestPending (V : Serving) (now : Nat) : Option PendReq :=
  V.pending.find? fun q => match q.since with | some t => t ≤ now | none => false

/-- ADMISSION_HELD (Table 2.8): OVERRUN is set, or a preemption is pending or in effect, from the boundary that applies it on
(R303). -/
def admissionHeld (P : Parcel) : Bool :=
  P.tick.overrun || P.tick.preemptPending || P.ctl.job = .saving || P.tick.preempted

/-- ADMISSION_EVALUATE. -/
def execAdmissionEvaluate (p : ParcelId) (s : State) : Host.Outcome State Fault Refusal :=
  let P := s.parcel p
  if P.ctl.job ≠ .running || admissionHeld P || P.serving.eval ≠ .none then .next s
  else
    match oldestPending P.serving s.now with
    | none => .next s
    | some q => .next (s.modServing p fun V => { V with eval := evaluate s p q })

/-- A request's pending limit (R271). -/
def pendLimit (e : BitVec 512) : Nat := if Sub.pendingLimit e = 0 then classLimit (Sub.cls e) else Sub.pendingLimit e

/-- The pending request that the steward has admitted and will commit: it no longer expires (R275). -/
def admittedBuf (V : Serving) : Option Nat :=
  match V.eval with
  | .admission buf _ _ _ => some buf
  | _ => none

/-- Refuse the pending requests that have waited more than their limit. -/
def expirePending (s : State) (p : Nat) : State :=
  let V := (s.parcel p).serving
  let gone (q : PendReq) : Bool := q.since.isSome && pendLimit q.raw < q.waited && admittedBuf V ≠ some q.buf
  let s := s.modServing p fun V => { V with pending := V.pending.filter fun q => !gone q }
  (V.pending.filter gone).foldl (fun s q => refuseEntry s p (Sub.ring q.raw) 0x05 (Sub.tag q.raw) s.now) s

/-- PENDING_EXPIRED. -/
def execPendingExpired (p : ParcelId) (s : State) : Host.Outcome State Fault Refusal := .next (expirePending s p)

end Sys2Proof.Machine
end

