-- ==== Sys2Proof/Machine/Plan.lean ====
section
/-! DEFINITION. How the steward composes the plan of the next tick (R276, R281, R302, R303, R378, R381, R470).
Readings and choices: log entries 39 and 42. -/

namespace Sys2Proof.Machine

/-- The template of least cost at `kpos` among `ts`, the lowest number on a tie (R470). -/
def cheapest (kpos : Nat) (ts : List LegTemplate) : Option LegTemplate :=
  ts.foldl (fun b T =>
    match b with
    | none => some T
    | some B =>
      let x := templateCost T kpos
      let y := templateCost B kpos
      if x < y || (x = y && T.number < B.number) then some T else some B) none

def findTemplate (c : Chart) (n : Nat) : Option LegTemplate := c.templates.find? fun T => T.number = n

def mkLeg (kind : LegKind) (T : LegTemplate) (kpos tick : Nat) (batch masked : List Nat) : Leg :=
  { kind := kind, template := T.number, batch := batch, cost := templateCost T kpos, state := .composed,
    recompute := false, tick := tick, dumped := false, masked := masked, launched := false }

/-! ### Decode legs -/

/-- The decode template of a bucket for `pos` positions. -/
def decodeTemplate (c : Chart) (b pos : Nat) : Option LegTemplate :=
  cheapest (ceilDiv pos 1024) (c.templates.filter fun T =>
    (match T.use with | .decode b' => b' = b | .prefill _ _ => false) && pos ≤ T.maxPos)

/-- At most `k` decode legs, from the step in flight or a new one whose batch is the entries in DECODE (R276). -/
def decodeLegs (c : Chart) (V : Serving) (ready : List Nat) (pos tick : Nat) : Nat → Option DecStep → Nat → List Leg
  | 0, _, _ => []
  | k + 1, step, no =>
    let st : Option DecStep :=
      match step with
      | some d => some d
      | none =>
        if ready.isEmpty then none
        else (bucketOf ready.length).map fun b => { no := no, batch := ready, masked := [], bucket := b, nextLayer := 0 }
    match st with
    | none => []
    | some d =>
      if V.nLayers ≤ d.nextLayer then []
      else
        match decodeTemplate c d.bucket pos with
        | none => []
        | some T =>
          let leg := mkLeg (.decode d.no d.nextLayer) T (ceilDiv pos 1024) tick d.batch d.masked
          let next := if d.nextLayer + 1 = V.nLayers then none else some { d with nextLayer := d.nextLayer + 1 }
          leg :: decodeLegs c V ready pos tick k next (d.no + 1)

/-! ### Prefill legs -/

/-- A request with prefill legs to compose. -/
structure PrefillWork where
  entry : Nat
  shared : Nat
  len : Nat
  composed : Nat
deriving DecidableEq, Repr

/-- The requests owed prefill legs, in order of commit; last the one the boundary will commit. -/
def prefillWork (V : Serving) : List PrefillWork :=
  let es := V.gaz.filter fun g => g.2.state = .prefill || g.2.state = .register
  let sorted := es.mergeSort fun a b => a.2.token ≤ b.2.token
  let own := sorted.map fun g => { entry := g.1, shared := g.2.sharedPos, len := g.2.promptLen, composed := g.2.composedLegs : PrefillWork }
  match V.eval with
  | .admission buf e _ h =>
    match V.pending.find? fun q => q.buf = buf with
    | some q =>
      own ++ [{ entry := e, shared := (match h with | some x => (Tab.get GazEntry.init V.gaz x).sharedPos | none => 0),
                len := Sub.len q.raw, composed := 0 }]
    | none => own
  | _ => own

/-- The prefill template that covers `prior` positions, at the end position `pos`. -/
def prefillTemplate (c : Chart) (prior pos : Nat) : Option LegTemplate :=
  cheapest (ceilDiv pos 1024) (c.templates.filter fun T =>
    match T.use with | .decode _ => false | .prefill lo hi => lo ≤ prior && prior ≤ hi)

/-- At most `k` prefill legs: one chunk of one request at a time; a short last chunk costs a full one (R276). -/
def prefillLegsOf (c : Chart) (V : Serving) (tick : Nat) : Nat → List PrefillWork → List Leg
  | 0, _ => []
  | _ + 1, [] => []
  | k + 1, w :: ws =>
    if V.nLayers = 0 || prefillLegs V w.len w.shared ≤ w.composed then prefillLegsOf c V tick k ws
    else
      let chunk := w.composed / V.nLayers
      let prior := w.shared + chunk * V.chunk
      let pos := prior + V.chunk
      match prefillTemplate c prior pos with
      | none => []
      | some T =>
        mkLeg (.prefill w.entry chunk (w.composed % V.nLayers)) T (ceilDiv pos 1024) tick [w.entry] [] ::
          prefillLegsOf c V tick k ({ w with composed := w.composed + 1 } :: ws)

/-! ### Order -/

/-- Prefill leg j follows decode leg floor((j + 1) q_d / (q_p + 1)) - 1 (R276): so many decode legs stand before it. -/
def legsBefore (qd qp j : Nat) : Nat := (j + 1) * qd / (qp + 1)

/-- The plan's order: before decode leg i, and after the last, the prefill legs whose place it is. -/
def interleave (qd qp : Nat) (ds ps : List Leg) : List Leg :=
  (List.range (ds.length + 1)).flatMap fun i =>
    ((ps.zipIdx.filter fun x => min (legsBefore qd qp x.2) ds.length = i).map (·.1)) ++ (ds[i]?).toList

/-! ### Remote lists and needs (R378, R381) -/

/-- Operations issued and not completed, with the lists of legs composed and not complete. -/
def remoteLoad (P : Parcel) (c : Chart) : Nat :=
  let lists (ls : List Leg) : Nat :=
    ls.foldl (fun a l => a + (match findTemplate c l.template with | some T => T.remoteList.length | none => 0)) 0
  P.remote.queue.length + P.remote.out.length + lists P.legs

/-- Needs of counter `k` that legs already composed and not yet launched hold. -/
def needHeld (c : Chart) (ls : List Leg) (k : Nat) : Nat :=
  ls.foldl (fun a l =>
    if l.state = .composed || l.state = .committed then
      a + (match findTemplate c l.template with
           | some T => (T.needs.filter fun n => n.counter = k).foldl (fun b n => b + n.amount) 0
           | none => 0)
    else a) 0

/-- May a leg be composed after the legs `before`? -/
def remoteOk (P : Parcel) (c : Chart) (before : List Leg) (l : Leg) : Bool :=
  match findTemplate c l.template with
  | none => true
  | some T =>
    let lists := before.foldl (fun a x => a + (match findTemplate c x.template with | some U => U.remoteList.length | none => 0)) 0
    (T.remoteList.isEmpty || remoteLoad P c + lists + T.remoteList.length ≤ 4096) &&
    (T.needs.isEmpty || !P.remote.fault) &&
    T.needs.all fun n =>
      let C := Tab.get RemoteCounter.zero P.remote.counters n.counter
      let own := (T.needs.filter fun x => x.counter = n.counter).foldl (fun b x => b + x.amount) 0
      own + needHeld c (P.legs ++ before) n.counter ≤ C.arrived - C.consumed

/-- The legs that can be composed, up to the first that cannot. -/
def composable (P : Parcel) (c : Chart) : List Leg → List Leg → List Leg
  | before, [] => before
  | before, l :: ls => if remoteOk P c before l then composable P c (before ++ [l]) ls else before

/-- The legs of a plan within a budget (R43). -/
def withinBudget (budget : Nat) : List Leg → List Leg
  | [] => []
  | l :: ls => if l.cost ≤ budget then l :: withinBudget (budget - l.cost) ls else []

/-! ### Save and restore (R43, R301) -/

/-- The cost in cycles of saving or restoring a manifest: the bytes of the busiest logical sector at 1.92 TB/s, in whole
tick units. -/
def manifestCost (s : State) (m : List (BitVec 64)) : Nat :=
  let perSector (k : Nat) : Nat := (m.filter fun e => fld e.toNat 0 9 / 32 = k).foldl (fun a e => a + manifestBytes e) 0
  let b := (List.range 16).foldl (fun a k => max a (perSector k)) 0
  let ns := s.mer.steps * 125000 * (if s.mer.level = 0 then 4 else if s.mer.level = 1 then 5 else 8) / 4
  ceilDiv (100 * b) (192 * ns) * s.mer.steps * 150

/-- The manifest of the parcel's last completed leg. -/
def lastManifest (P : Parcel) : List (BitVec 64) :=
  match P.chart, P.lastLeg with
  | some c, some n => (match findTemplate c n with | some T => T.manifest | none => [])
  | _, _ => []

/-- The save leg or the restore leg. -/
def moveLeg (s : State) (P : Parcel) (kind : LegKind) : Leg :=
  { kind := kind, template := P.lastLeg.getD 0xFFFFFF, batch := [], cost := manifestCost s (lastManifest P),
    state := .composed, recompute := false, tick := s.now + 1, dumped := false, masked := [], launched := false }

/-! ### Recomputation (R34) -/

/-- Take legs off the end of a plan, given last first, until their cost covers `need`: what stays (last first) and what
moves on by one tick, in order. -/
def deferTail : List Leg → Nat → List Leg → List Leg × List Leg
  | [], _, out => ([], out)
  | l :: ls, need, out => if need = 0 then (l :: ls, out) else deferTail ls (need - l.cost) (l :: out)

/-- The plan amended for the legs to run again, and the legs deferred. -/
def amend (again plan : List Leg) : List Leg × List Leg :=
  let (kept, out) := deferTail plan.reverse ((again.map (·.cost)).foldl (· + ·) 0) []
  (again ++ kept.reverse, out)

/-! ### The plan -/

/-- The legs that deferral left over come first, each kind within its quota (R34, R276). -/
def isDecode (l : Leg) : Bool := match l.kind with | .decode _ _ => true | _ => false

/-- The ordinary legs of the next tick, in order. -/
def ordinaryLegs (s : State) (P : Parcel) (c : Chart) (p : Nat) : List Leg :=
  let V := P.serving
  let pos := positionsFor V (activePositions V) (maxLoad (rooms s p)) (unitsWithSlots s p)
  let ready := (V.gaz.filter fun g => g.2.state = .decode).map (·.1)
  let oldD := V.deferred.filter isDecode
  let oldP := V.deferred.filter fun l => !isDecode l
  let ds := (oldD ++ decodeLegs c V ready pos (s.now + 1) (V.qd - oldD.length) V.step V.steps).take V.qd
  let ps := (oldP ++ prefillLegsOf c V (s.now + 1) (V.qp - oldP.length + (prefillWork V).length) (prefillWork V)).take V.qp
  interleave V.qd V.qp ds ps

/-- The step in flight, and the number of the next step, after one more leg has been composed. -/
def stepAfterLeg (V : Serving) (a : Option DecStep × Nat) (x : Leg) : Option DecStep × Nat :=
  match x.kind with
  | .decode k layer =>
    if x.recompute || V.deferred.contains x then a
    else if layer + 1 = V.nLayers then (none, k + 1)
    else
      let fresh := (bucketOf x.batch.length).getD 8
      let bucket := match a.1 with | some d => if d.no = k then d.bucket else fresh | none => fresh
      (some { no := k, batch := x.batch, masked := x.masked, bucket := bucket, nextLayer := layer + 1 }, k + 1)
  | _ => a

/-- Count the prefill legs composed for entry `e`. -/
def composedFor (V : Serving) (ls : List Leg) (e : Nat) : Nat :=
  (ls.filter fun l => !l.recompute && !V.deferred.contains l &&
    match l.kind with | .prefill x _ _ => x = e | _ => false).length

/-- PLAN_COMPOSE: once a tick, for a parcel that is not LATE (R38), the steward composes the next tick's plan: the save
plan where a preemption can be applied, else the ordinary legs, after the restore leg where a resumption has been
sampled. Recomputation that was held over replaces the last of the ordinary legs, which wait one tick more (R34). -/
def execPlanCompose (p : ParcelId) (s : State) : Host.Outcome State Fault Refusal :=
  let P := s.parcel p
  let V := P.serving
  let runs := P.ctl.job = .running || P.ctl.job = .draining || P.ctl.job = .starting ||
    (P.ctl.job = .preempted && P.ctl.sampled = 0x11)
  match P.chart with
  | none => .next s
  | some c =>
    if !runs || P.tick.late || P.nextPlan.isSome then .next s
    else if P.tick.preemptPending && P.remote.queue.isEmpty && P.remote.out.isEmpty then
      .next (s.modParcel p fun P => { P with nextPlan := some [moveLeg s P .save] })
    else
      let restore := if P.ctl.job = .preempted then [moveLeg s P .restore] else []
      let cost := restore.foldl (fun a l => a + l.cost) 0
      let ordinary := ordinaryLegs s P c p
      let (whole, out) := amend V.recompute ordinary
      let all := if restore.isEmpty then whole else withinBudget (s.legBudget - cost) whole
      let legs := composable P c [] all
      let out := if legs.length < whole.length then [] else out
      let (st, no) := (ordinary.filter fun l => legs.contains l || out.contains l).foldl (stepAfterLeg V) (V.step, V.steps)
      .next (s.modParcel p fun P =>
        { P with
            nextPlan := some (restore ++ legs)
            remote := { P.remote with deferred := legs.length < all.length }
            serving :=
              { P.serving with
                  step := st, steps := no
                  deferred := out ++ P.serving.deferred.filter fun l => !legs.contains l && !out.contains l
                  recompute := P.serving.recompute.filter fun l => !legs.contains l
                  gaz := P.serving.gaz.map fun g =>
                    (g.1, { g.2 with composedLegs := g.2.composedLegs + composedFor V (legs ++ out) g.1 }) } })

end Sys2Proof.Machine
end

