-- ==== Sys2Proof/Machine/Teardown.lean ====
section
/-! DEFINITION. Stopping a parcel and tearing down a job's context (R33, R122, R246, R288, R304 to R306, R356).
Readings and choices: log entries 29, 32 and 40. -/

namespace Sys2Proof.Machine

/-! ### Deliveries (R336) -/

/-- The delivery in progress ends with a result of Table 13.8 (`state` 3 done, 4 failed, 5 aborted). -/
def endDelivery (s : State) (p result state : Nat) : State :=
  (s.modParcel p fun P =>
    { P with sec := { P.sec with delivery := none, result := result, state := state } }).raise (1 + p) 9

/-- A delivery in progress ends; with none, nothing changes. -/
def cutDelivery (s : State) (p result state : Nat) : State :=
  if (s.parcel p).sec.delivery.isSome then endDelivery s p result state else s

/-! ### Stopping (R122) -/

/-- Does an engine run: issuing or waiting? -/
def engineRuns (E : Engine) : Bool := E.mode = .issuing || E.mode = .waitCairn || E.mode = .waitQueue

/-- An engine stopped by another's fault, or by STOP or ABORT: PEER_HALTED, its copy channels halted. -/
def stopEngine (E : Engine) : Engine :=
  let E := { E with chans := E.chans.map fun c => (c.1, { c.2 with halted := true }) }
  if engineRuns E then { E with mode := .peerHalted, ending := false, retireLast := BitVec.ofNat 32 E.retired } else E

/-- A tile's engines and copy channels stop in cycle `cyc`: the occupancy of an END that waits counts up to it (R307). -/
def stopTile (p cyc : Nat) (s : State) (t : Nat) : State :=
  let open' := (s.tile t).engines.filter fun e => e.2.ending && engineRuns e.2
  let s := open'.foldl (fun s e => s.count (some p) (busyKey t e.1) (cyc - e.2.busyFrom)) s
  s.modTile t fun T => { T with engines := T.engines.map fun e => (e.1, stopEngine e.2) }

/-- Every engine and copy channel of the parcel's tiles stops in cycle `cyc`. -/
def stopParcel (s : State) (p cyc : Nat) : State := (s.tilesOf p).foldl (stopTile p cyc) s

/-- FAULT_STOP: an engine or channel of the leg has faulted, and the parcel's others stop issuing in cycle `cyc`. -/
def execFaultStop (p : ParcelId) (cyc : Nat) (s : State) : Host.Outcome State Fault Refusal :=
  let s := s.settle p cyc
  if s.noFaultYet p then .next s else .next (stopParcel s p cyc)

/-! ### What a teardown clears -/

/-- A tile with its data and its job state zeroed (R70, R81, R305); its closure history and its engines' records stay. -/
def clearTile (T : Tile) : Tile :=
  { T with
      scratch := [], acc := [], imem := [], cairns := [], plane0 := .empty, plane1 := .empty, formatStatus := 0
      scratchErr := [], accErr := [], imemErr := [], arrivals := [], group := []
      closure := { T.closure with suspects := [] }
      engines := T.engines.map fun e =>
        (e.1, { e.2 with chans := [], launches := [], queue := [], loops := [], offs := [], pendingDst := [], ending := false }) }

/-- The Celulo state of a channel's units written 0 (R232); what is wrong with their instruction SRAM stays. -/
def clearUnits (s : State) (c : Nat) : State :=
  let keep (u : Nat × CUnit) : Option (Nat × CUnit) :=
    if u.1 / 64 ≠ c then some u
    else if u.2.instrErr.isEmpty then none
    else some (u.1, { CUnit.idle 0 with instrErr := u.2.instrErr })
  ({ s with units := s.units.filterMap keep }).modChannel c fun K => { K with unitsCleared := true, celuloFormatStatus := 0 }

/-- CELULO_FAULT (Table 9.17) of a halted unit. -/
def celuloFaultOf (u : Nat) (U : CUnit) (primary : Bool) : Option (BitVec 64) :=
  let make (lock : Bool) (cause pc info : Nat) : BitVec 64 :=
    BitVec.ofNat 64 (u % 64 + (if lock then 64 else 0) + (if primary then 128 else 0) + cause % 256 * 256 +
      pc % 2048 * 65536 + info * 2 ^ 32)
  match U.halt with
  | .none => none
  | .lock => some (make true U.shadowCause.toNat U.shadowPc.toNat 0)
  | .direct cause pc info => some (make false cause pc info.toNat)

/-- The reports of a channel's halted units enter CELULO_FAULT and the log (R246). -/
def recordUnits (s : State) (p c : Nat) (primary : Option Nat) : State :=
  (s.units.filter fun u => u.1 / 64 = c).foldl (fun s u =>
    match celuloFaultOf u.1 u.2 (primary = some u.1) with
    | none => s
    | some f => (s.modChannel c fun K => { K with celuloFault := f }).logEvent 7 3 u.1 (some p) 0 f.toNat) s

/-- A slot with every version freed (R288): the number of its last version stays. -/
def InsetSlot.freed (x : InsetSlot) : InsetSlot := { InsetSlot.init with last := x.last }

/-- The serving slice ends (R288): every entry with TEARDOWN, every pending request refused, every handle freed; columns,
buffers and inset versions are free and every entry FREE. -/
def endSlice (s : State) (p : Nat) : State :=
  let V := (s.parcel p).serving
  let s := V.gaz.foldl (fun s g =>
    let e := g.2
    if e.state = .datum then complete s p e.ring { Comp.plain 0x06 0x04 e.hostTag s.now with token := e.token }
    else if e.state = .free || e.state = .ended then s
    else complete s p e.ring { Comp.plain 0x03 0x04 e.hostTag s.now with token := e.token, value := e.sampled }) s
  let s := V.pending.foldl (fun s q => refuseEntry s p (Sub.ring q.raw) 0x04 (Sub.tag q.raw) s.now) s
  let s := V.gaz.foldl (fun s g => freeColumns s p s.now g.2.cols) s
  s.modServing p fun V =>
    { V with
        gaz := [], pending := [], eval := .none, cancelled := [], changes := [], step := none, sampled := []
        finished := [], recompute := [], deferred := [], kept := []
        insets := V.insets.map fun x => (x.1, x.2.freed) }

/-- TEARDOWN_RECORD (Table 12.10). -/
def teardownRecord (tick cause sector : Nat) : BitVec 64 :=
  BitVec.ofNat 64 (tick % 2 ^ 48 + cause * 2 ^ 48 + sector * 2 ^ 56)

/-- Record an outcome of Table 12.17 for the last command; the operator's PARCEL vector follows (Table 18.9). -/
def outcome (s : State) (p o : Nat) : State :=
  (s.modCtl p fun k => { k with resultOutcome := o, resultTick := s.now }).raise 0 2

/-- Record an outcome for the command that was sampled: COMMAND_RESULT shows it while no later command has been written. -/
def outcomeSampled (s : State) (p o : Nat) : State := if (s.parcel p).ctl.sampledLast then outcome s p o else s

/-- A held or sampled command, a pending PREEMPT among them, is discarded (R294, R306). -/
def discardCommand (s : State) (p : Nat) : State :=
  let P := s.parcel p
  let clear := s.modCtl p fun k => { k with held := none, sampled := 0 }
  if P.ctl.held.isSome then outcome clear p 5
  else if P.ctl.sampled ≠ 0 || P.tick.preemptPending then outcomeSampled clear p 5
  else clear

/-- The unit that is primary in the leg (R246): the first to halt, where no engine faulted in an earlier cycle. -/
def unitPrimary (P : Parcel) : Option Nat :=
  match P.unitFirst, P.primary with
  | some (c, u), some (c', _) => if c ≤ c' then some u else none
  | some (_, u), none => some u
  | none, _ => none

/-- Every Celulo unit of a channel that runs stops in cycle `cyc`: its busy cycles count up to it (R305, R307). -/
def stopUnits (cyc : Nat) (s : State) (c : Nat) : State :=
  (s.units.filter fun u => u.1 / 64 = c && u.2.running.isSome && u.2.halt = .none).foldl
    (fun s u => countCelulo s u.1 (celuloCycle cyc)) s

/-- Nothing of the leg is left: its work in flight, its plan and its faults (R305). -/
def dropLeg (P : Parcel) : Parcel :=
  { P with nextPlan := none, legs := [], flight := [], primary := none, unitFirst := none }

/-- Tear down the context of parcel p's job with a cause of Table 12.10. `sector` is the global sector of the primary
fault. The job state follows at the next boundary. -/
def teardown (s : State) (p cause : Nat) (sector : Option Nat) : State :=
  let cyc := (s.parcel p).clock
  let unit := unitPrimary (s.parcel p)
  let s := stopParcel s p cyc
  let s := discardCommand s p
  let tiles := s.tilesOf p
  let chans := s.channelsOf p
  let s := { s with
    posts := s.posts.filter fun q => !tiles.contains q.srcTile && !tiles.contains q.dst.tile
    launches := s.launches.filter fun f => !chans.contains (f.unit / 64) }
  let s := endSlice s p
  let s := chans.foldl (fun s c => clearUnits (recordUnits (stopUnits cyc s c) p c unit) c) s
  let s := tiles.foldl (fun s t => s.modTile t clearTile) s
  let s := (s.sectorsOf p).foldl (fun s k => (dropSectorLines s k).modSector k fun K => { K with coreErr := 0 }) s
  let s := cutDelivery s p 0x09 5
  let rec' := teardownRecord s.now cause (match sector with | some k => s.logicalSector p k | none => 0xFF)
  let s := if cause = 0x06 then s else s.logEvent 8 6 (sector.getD 0xFFFF) (some p) 0 rec'.toNat
  s.modParcel p fun P =>
    { dropLeg P with
        tick := { P.tick with preemptPending := false, preempted := false }
        remote := { P.remote with queue := [], out := [], counters := [], deferred := false }
        sec := { P.sec with exporting := none }
        ctl := { P.ctl with teardownRecord := rec', tearingDown := some (if cause = 0x06 then .none else .tornDown) } }

/-- A job is there to tear down (Table 12.2). -/
def jobLive (P : Parcel) : Bool := P.ctl.job ≠ .none && P.ctl.job ≠ .tornDown && P.ctl.tearingDown.isNone

/-- Tear down as STOP does, where a job runs (R329, R408, R426). -/
def stopJob (s : State) (p : Nat) : State := if jobLive (s.parcel p) then teardown s p 0x04 none else s

/-- The leg at the head of the plan saves or restores. -/
def inMove (P : Parcel) : Bool :=
  match P.legs with
  | l :: _ => l.launched && (l.kind = .save || l.kind = .restore)
  | [] => false

/-- The cause and the global sector of the teardown that a fault of the leg brings (Table 12.10): that of the primary engine,
copy channel or unit. -/
def faultTeardown (s : State) (p : Nat) : State :=
  let P := s.parcel p
  let (cause, sector) := match unitPrimary P, P.primary with
    | some u, _ => (0x02, some (channelSector (u / 64)))
    | none, some (_, t, _) => (0x01, some (tileSector t))
    | none, none => (0x01, none)
  teardown s p (if inMove P then 0x07 else cause) sector

/-- CONTEXT_TEARDOWN: a fault of the leg reaches the steward (R33, R122, R304). -/
def execContextTeardown (p : ParcelId) (s : State) : Host.Outcome State Fault Refusal :=
  if s.noFaultYet p || !jobLive (s.parcel p) then .next s else .next (faultTeardown s p)

/-- CELULO_FAULT_REPORT: the report of a halted unit reaches the steward (R246). -/
def execCeluloFaultReport (u : UnitId) (s : State) : Host.Outcome State Fault Refusal :=
  match s.channelParcel (u / 64) with
  | none => .next s
  | some p =>
    if (s.cunit u).halt = .none || !jobLive (s.parcel p) then .next s
    else .next (faultTeardown (s.markLegFaulted p) p)

/-- An access of parcel p's steward core is refused, or meets an uncorrectable byte (R14, R356, R366): the fault is recorded
against engine 0 of logical tile 0 with COPY_CHANNEL 7, and the context is torn down. -/
def stewardFault (s : State) (p : Nat) (cause : Cause) : State :=
  let s := match s.globalTile p 0 with
    | some t => s.engineFault t 0 (s.parcel p).clock cause 7 0
    | none => s
  if jobLive (s.parcel p) then faultTeardown s p else s

/-- Write for the steward of parcel p; what the network refuses faults (R14). -/
def stewardPut (s : State) (p a : Nat) (bytes : List Byte) : State :=
  match stewardWrite s p 5 a bytes with
  | (s, none) => s
  | (s, some cause) => stewardFault s p cause

end Sys2Proof.Machine
end

