-- ==== Sys2Proof/Machine/Legs.lean ====
section
/-! DEFINITION. Legs: launch (R81, R108, R109, R131, R381), completion (R31, R110, R378), the end-of-leg dump (R128,
R468), and the save and restore legs (R301).
Readings and choices: log entries 25 and 26. -/

namespace Sys2Proof.Machine

/-! ### ENGINE_STATUS (Table 5.6) -/

/-- ENGINE_STATUS of an engine as it stands. -/
def engineStatus (E : Engine) : BitVec 32 :=
  BitVec.ofNat 32 (E.mode.code + E.pc.toNat * 16 + E.loops.length * 65536 +
    (if E.mode = .waitCairn then E.waitCairn.toNat * 2 ^ 24 else 0) +
    (if E.mode = .waitQueue then E.waitChannel.toNat * 2 ^ 30 else 0))

/-! ### Launch -/

/-- Does the chart use tile `t` of parcel `p`? -/
def chartUses (s : State) (p t : Nat) : Bool :=
  match (s.parcel p).chart with
  | none => false
  | some c => (c.tileMasks.getD (s.logicalSector p (tileSector t)) 0).getLsbD (t % 32)

/-- An engine at its launch (R109): its queue is empty, and the first instruction may issue in cycle 8 (R106). RETIRE_LAST
keeps the count of the leg before until this one ends it, in a tile that the leg does not use as well: the spec does not say
whether such a leg is the tile's last (DESIGN CHOICE, log entry 73). -/
def launchEngine (E : Engine) (run : Bool) (entry : Nat) : Engine :=
  { Engine.idle with
      mode := (if run then .issuing else .idle)
      pc := BitVec.ofNat 12 entry
      nextIssue := 8
      fetchAt := 8
      retireLast := E.retireLast
      statusSnap := E.statusSnap
      retireSnap := E.retireSnap }

/-- A tile at a launch: the record, its engines' start state, cairns 0, planes EMPTY (R81, R109). -/
def launchTile (t : Nat) (record : BitVec 1024) (run : Bool) (T : Tile) : Tile :=
  { T with
      launch := record, cairns := [], arrivals := [], group := [], plane0 := .empty, plane1 := .empty
      engines := (List.range (engineCount t)).foldl (fun es e =>
        Tab.set Engine.idle es e (launchEngine (Tab.get Engine.idle es e) run (launchEntry record e))) T.engines }

/-- The needs of a leg are taken from the counters and posted to their cairns before its first issue (R381): a post that
would pass 65,535 faults as R114 says. -/
def postNeeds (s : State) (p : Nat) (needs : List RemoteNeed) : State :=
  needs.foldl (fun s n =>
    let s := s.modParcel p fun P =>
      { P with remote :=
          { P.remote with
              counters := Tab.modify RemoteCounter.zero P.remote.counters n.counter fun c =>
                { c with consumed := c.consumed + n.amount } } }
    match s.globalTile p n.tile with
    | none => s
    | some t => addToCairn s t n.cairn n.amount 0) s

/-- The stride of dump records (R128), and whether the dump area lies in the parcel's channels (R131). -/
def dumpStride (B : Bisect) : Nat := if B.scope = 1 then 0x100000 else 0x400
def dumpInside (s : State) (p : Nat) : Bool :=
  let B := (s.parcel p).bisect
  B.base.toNat + 32 * s.sectorCount p * dumpStride B ≤ 24 * s.sectorCount p * channelBytes

/-! ### Save and restore (R301) -/

/-- What a save or restore leg moves. -/
def moveRanges (s : State) (p : Nat) (kind : LegKind) : State :=
  let m := lastManifest (s.parcel p)
  match kind with
  | .save => m.foldl (fun s r => if s.noFaultYet p then saveRange s p r else s) s
  | .restore => m.foldl (fun s r => if s.noFaultYet p then restoreRange s p r else s) s
  | _ => s

/-- The launch of a leg in every tile of the parcel. -/
def launchTiles (s : State) (p : Nat) (record : BitVec 1024) (move : Bool) : State :=
  (s.tilesOf p).foldl (fun s t => s.modTile t (launchTile t record (!move && chartUses s p t))) s

/-- The launch record of a leg of template `T` (R9, R108, R129): entry program counters and DUMP are the template's, halts
and parameters the steward's. A save or restore leg starts no engine and dumps nothing. -/
def legLaunchRecord (T : Option LegTemplate) (record : BitVec 1024) : BitVec 1024 :=
  let low : Nat := match T with
    | some T => ((T.entry.take 5).zipIdx).foldl (fun a x => a + x.1.toNat * 2 ^ (12 * x.2)) 0 + (if T.dump then 2 ^ 60 else 0)
    | none => 0
  BitVec.ofNat 1024 (record.toNat / 2 ^ 64 * 2 ^ 64 + low)

/-- The template of a leg; none for a save or restore leg. -/
def legTemplate (P : Parcel) (l : Leg) : Option LegTemplate :=
  if l.kind = .save || l.kind = .restore then none else P.chart.bind fun c => findTemplate c l.template

/-- The inputs of a leg's rows are kept until its verdicts are clean (R278). -/
def keepInputs (V : Serving) (l : Leg) : Serving :=
  let new := (l.live.map fun e => { kind := l.kind, entry := e : KeptInput }).filter fun k => !V.kept.contains k
  { V with kept := V.kept ++ new }

/-- The parcel as a leg begins `tickCyc` cycles into a tick: the leg's cycle 0, with nothing in flight and no fault. -/
def beginFlights (P : Parcel) (tickCyc : Nat) : Parcel :=
  { P with flight := [], clock := 0, origin := -(tickCyc : Int), primary := none, unitFirst := none }

/-- LEG_LAUNCH: the launch record of the committed leg at the head of the plan is written to every tile, `tickCyc` cycles into
the tick (R32, R108); a leg whose dump area lies outside the parcel tears the context down instead (R131). The leg is Running
when its first instruction issues (Table 2.4); a save or restore leg moves its ranges at once. -/
def execLegLaunch (p : ParcelId) (record : BitVec 1024) (tickCyc : Nat) (s : State) : Host.Outcome State Fault Refusal :=
  let P := s.parcel p
  let jobRuns := P.ctl.job = .running || P.ctl.job = .draining || P.ctl.job = .saving
  match P.legs with
  | [] => .next s
  | l :: ls =>
    let T := legTemplate P l
    let record := legLaunchRecord T record
    let move := l.kind = .save || l.kind = .restore
    if l.state ≠ .committed || l.launched || !jobRuns || P.ctl.tearingDown.isSome then .next s
    else
      let s := s.modParcel p fun P => beginFlights P tickCyc
      if launchDump record && !dumpInside s p then .next (stewardFault s p .accessRefused)
      else
        let s := launchTiles s p record move
        let s := s.modParcel p fun P =>
          { P with legs := { l with launched := true, state := if move then .running else .committed } :: ls
                   serving := if move then P.serving else keepInputs P.serving l }
        .next (moveRanges (postNeeds s p (match T with | some T => T.needs | none => [])) p l.kind)

/-! ### Completion -/

/-- Every engine of the parcel has ended or halted, or was not used (R31, R110), and nothing of the leg is under way. -/
def enginesDone (s : State) (p : Nat) : Bool :=
  (s.tilesOf p).all fun t => (s.tile t).engines.all fun e =>
    (e.2.mode = .ended || e.2.mode = .halted || e.2.mode = .idle) && e.2.launches.isEmpty &&
    e.2.chans.all fun c => c.2.queue.isEmpty && c.2.runs.isEmpty

/-- The launch record of the leg, as logical tile 0 holds it. -/
def legRecord (s : State) (p : Nat) : BitVec 1024 :=
  match s.globalTile p 0 with
  | some t => (s.tile t).launch
  | none => 0

/-- A remote list entry with the launch parameters added to its addresses (R378, Table 15.2). -/
def withParams (record : BitVec 1024) (e : BitVec 512) : BitVec 512 :=
  let w := e.toNat
  let add (lo n sel : Nat) : Nat :=
    if bitAt w (sel + 4) then (fld w lo n + launchParam record (fld w sel 4) * 64) % 2 ^ n else fld w lo n
  let put (x lo n v : Nat) : Nat := x - fld x lo n * 2 ^ lo + v * 2 ^ lo
  BitVec.ofNat 512 (put (put w 256 40 (add 256 40 308)) 40 40 (add 40 40 313))

/-- Hand a list to the Rhumb engine, in list order. -/
def handList (s : State) (p : Nat) (list : List (BitVec 512)) : State :=
  let record := legRecord s p
  list.foldl (fun s e => s.modParcel p fun P =>
    { P with remote :=
        { P.remote with
            queue := P.remote.queue ++ [{ entry := withParams record e, seq := P.remote.nextSeq }]
            nextSeq := P.remote.nextSeq + 1 } }) s

/-- The tokens that a leg may sample: the last layer of a step, or the last prefill leg of a request; one each for the
requests of its batch. -/
def samples (V : Serving) (l : Leg) (tokens : List (Nat × Nat)) : List (Nat × Nat) :=
  let last : Bool := match l.kind with
    | .decode _ layer => layer + 1 = V.nLayers
    | .prefill e chunk layer =>
      let g := Tab.get GazEntry.init V.gaz e
      g.state = .prefill && chunk * V.nLayers + layer + 1 = prefillLegs V g.promptLen g.sharedPos
    | _ => false
  if last then l.live.filterMap fun e => tokens.find? fun t => t.1 = e else []

/-- The leg at the head of a plan is Committed once no leg stands before it (Table 2.4). -/
def commitHead : List Leg → List Leg
  | l :: ls => (if l.state = .composed then { l with state := .committed } else l) :: ls
  | [] => []

/-- LEG_COMPLETE: the leg in progress is Complete, and the next one Committed; `lateCycles` is how far past the boundary the
parcel has run. -/
def execLegComplete (p : ParcelId) (tokens : List (Nat × Nat)) (lateCycles : Nat) (s : State) :
    Host.Outcome State Fault Refusal :=
  let s := s.settleAll p
  let P := s.parcel p
  match s.runningLeg p with
  | none => .next s
  | some l =>
    let move := l.kind = .save || l.kind = .restore
    if !enginesDone s p || (launchDump (legRecord s p) && !l.dumped) then .next s
    else
      let list := match legTemplate P l with | some T => T.remoteList | none => []
      let s := handList s p list
      .next (s.modParcel p fun P =>
        { P with
            legs := commitHead (P.legs.drop 1)
            lastLeg := if move then P.lastLeg else some l.template
            tick := if P.tick.late then { P.tick with lateCycles := min (max P.tick.lateCycles lateCycles) 0xFFFFFFFF } else P.tick
            serving :=
              if move then P.serving
              else
                { P.serving with
                    sampled := P.serving.sampled ++
                      (samples P.serving l tokens).map fun t => (P.serving.finished.length, t.1, t.2)
                    finished := P.serving.finished ++ [{ l with state := .complete }] } })

/-! ### The dump (R128, R468) -/

/-- An engine block (Table 5.11). -/
def dumpEngine (E : Engine) : List Byte :=
  let chan (i : Nat) : CopyChan := Tab.get CopyChan.idle E.chans i
  let outer := E.loops.reverse
  bytesOfNat (engineStatus E).toNat 4 ++ bytesOfNat E.retired 4 ++
  (List.range 4).flatMap (fun i => bytesOfNat (match outer[i]? with | some f => f.done | none => 0) 4) ++
  (List.range 4).flatMap (fun i => bytesOfNat (chan i).queue.length 1) ++ bytesOfNat 0 4 ++
  (List.range 4).flatMap (fun i => bytesOfNat (chan i).completed 4) ++ bytesOfNat 0 16

/-- A tile's dump record (Table 5.10). -/
def dumpRecord (s : State) (p lt t tick template : Nat) : List Byte :=
  let T := s.tile t
  let scope := (s.parcel p).bisect.scope
  let vec := isVectorTile t
  bytesOfNat (tick % 2 ^ 48) 8 ++ bytesOfNat template 4 ++ bytesOfNat lt 2 ++ bytesOfNat (if vec then 1 else 0) 1 ++
  bytesOfNat scope.toNat 1 ++ bytesOfNat 0 48 ++
  (List.range 5).flatMap (fun e =>
    if vec && e = 4 then bytesOfNat 0 64 else dumpEngine (Tab.get Engine.idle T.engines e)) ++
  (List.range 64).flatMap (fun j => bytesOfNat (Tab.get 0 T.cairns j) 2) ++ bytesOfNat 0 512 ++
  (if scope = 1 then
    Mem.readBytes T.scratch 0 (scratchBytes t) ++ (if vec then [] else accBytes T.acc 0 (4 * accEntries))
   else [])

/-- A tile writes its dump record: an uncorrectable byte of what it reads, or an access that the network refuses, faults its
STORE engine (R14, R356; DESIGN CHOICE of the engine, log entry 26). -/
def writeDump (p tick template : Nat) (s : State) (x : Nat × Nat) : State :=
  let (t, lt) := x
  let B := (s.parcel p).bisect
  let T := s.tile t
  let cyc := (s.parcel p).clock
  let e := storeEngine t
  let n := if B.scope = 1 then scratchBytes t else 0
  let m := if B.scope = 1 && !isVectorTile t then accEntries else 0
  match scratchBadAt T 0 n, accBadAt T 0 m with
  | some b, _ => (s.logCycle cyc 2 1 t (some p) 0 b).engineFault t e cyc .sramUncorrectable 7 0
  | none, some b => (s.logCycle cyc 2 1 t (some p) 1 b).engineFault t e cyc .sramUncorrectable 7 0
  | none, none =>
    let bytes := dumpRecord s p lt t tick template
    match stackPieces s p (B.base.toNat + lt * dumpStride B) bytes.length with
    | none => s.engineFault t e cyc .accessRefused 7 0
    | some xs => storeTurns (channelGrant t e) p bytes ((s.readScratch p t 0 n).readAcc p t 0 m) xs

/-- Write the dump of every tile of the parcel, up to the first fault. -/
def writeDumps (s : State) (p tick template : Nat) : State :=
  ((s.tilesOf p).zipIdx).foldl (fun s x => if s.noFaultYet p then writeDump p tick template s x else s) s

/-- LEG_DUMP: every engine has ended or halted, the leg's launch record has DUMP set, and no engine has faulted. DUMP_COUNT
adds one for the leg: the spec says only 'dumps written' (DESIGN CHOICE, log entry 73). -/
def execLegDump (p : ParcelId) (s : State) : Host.Outcome State Fault Refusal :=
  let s := s.settleAll p
  match s.runningLeg p with
  | none => .next s
  | some l =>
    if !launchDump (legRecord s p) || l.dumped || !enginesDone s p then .next s
    else
      let s := writeDumps s p l.tick l.template
      if !s.noFaultYet p then .next s
      else
        .next (s.modParcel p fun P =>
          { P with
              legs := { l with dumped := true } :: P.legs.drop 1
              bisect := { P.bisect with tick := l.tick, template := l.template, count := min (P.bisect.count + 1) 0xFFFFFFFF } })

end Sys2Proof.Machine
end

