-- ==== Sys2Proof/Machine/Tensors.lean ====
section
/-! DEFINITION. Tensor records: where shards lie and which records the steward refuses (07_layout_graticule.md R172, R181
to R184, Table 7.4).
Readings and choices: log entry 27. -/

namespace Sys2Proof.Machine

/-! ### Fields of Table 7.4 -/

/-- A dimension entry. -/
structure TDim where
  extent : Nat
  shard : Nat
  axis0 : Nat
  axis1 : Nat
  block : Nat
deriving DecidableEq, Repr

namespace TRec

def fmt (r : BitVec 1024) : Nat := fld r.toNat 0 4
def scaled (r : BitVec 1024) : Bool := bitAt r.toNat 4
def rank (r : BitVec 1024) : Nat := fld r.toNat 5 3 + 1
def id (r : BitVec 1024) : Nat := fld r.toNat 16 16
def channel0 (r : BitVec 1024) : Nat := fld r.toNat 32 5
def rowPitch (r : BitVec 1024) : Nat := fld r.toNat 40 32
def shardPitch (r : BitVec 1024) : Nat := fld r.toNat 72 32
def base (r : BitVec 1024) : Nat := fld r.toNat 128 32
def scaleBase (r : BitVec 1024) : Nat := fld r.toNat 160 32
def scalePitch (r : BitVec 1024) : Nat := fld r.toNat 192 32

/-- The dimensions up to the rank, innermost first. -/
def dims (r : BitVec 1024) : List TDim :=
  (List.range (min (rank r) 6)).map fun d =>
    let lo := 256 + 64 * d
    { extent := fld r.toNat lo 32, shard := fld r.toNat (lo + 32) 2, axis0 := fld r.toNat (lo + 34) 3,
      axis1 := fld r.toNat (lo + 37) 3, block := fld r.toNat (lo + 40) 16 }

end TRec

/-! ### Ranks (Table 7.5, R182) -/

/-- Ranks of an axis in parcel p. -/
def axisRanks (s : State) (p a : Nat) : Nat :=
  match a with
  | 1 => (s.parcel p).remote.size
  | 2 => s.sectorCount p
  | 3 => 24
  | 4 => 16
  | 5 => 16
  | 6 => 64
  | _ => 1

/-- A place: its rank on every axis, by axis code. -/
abbrev Place := Nat → Nat

/-- The number of ranks of a dimension, and the rank of a place on it (R182). -/
def dimRanks (s : State) (p : Nat) (d : TDim) : Nat := axisRanks s p d.axis0 * axisRanks s p d.axis1
def dimRank (s : State) (p : Nat) (d : TDim) (x : Place) : Nat := x d.axis0 * axisRanks s p d.axis1 + x d.axis1

/-- What a dimension contributes to a shard at rank r of n: its cycle indices and the elements within one (R182, R183). -/
def dimShape (d : TDim) (n r : Nat) : Nat × Nat :=
  match d.shard with
  | 1 => let sz := ceilDiv d.extent n; (1, min d.extent ((r + 1) * sz) - r * sz)
  | 2 =>
    let blocks := ceilDiv d.extent d.block
    (if r < blocks then (blocks - r + n - 1) / n else 0, min d.block d.extent)
  | _ => (1, d.extent)

/-- Rows and elements in a row of the shard at a place. -/
def shardShape (s : State) (p : Nat) (ds : List TDim) (x : Place) : Nat × Nat :=
  match ds with
  | [] => (0, 0)
  | d0 :: rest =>
    let shape (d : TDim) := dimShape d (dimRanks s p d) (dimRank s p d x)
    (rest.foldl (fun a d => a * (shape d).1 * (shape d).2) (shape d0).1, (shape d0).2)

/-- The bytes that a shard of `rows` rows of `row` bytes spans at a pitch. -/
def shardBytes (rows row pitch : Nat) : Nat := if rows = 0 || row = 0 then 0 else (rows - 1) * pitch + row

/-- The tile or pair axis that a record names, if any. -/
def unitAxis (ds : List TDim) : Nat :=
  ((ds.flatMap fun d => [d.axis0, d.axis1]).find? fun a => 4 ≤ a && a ≤ 6).getD 0

def namesAxis (ds : List TDim) (a : Nat) : Bool := ds.any fun d => d.axis0 = a || d.axis1 = a

/-- Bytes of a packed row of `n` elements, and bits of an element (R52); codes that Fmt does not name have none. -/
def recRow (r : BitVec 1024) (n : Nat) : Nat := match Fmt.ofCode (TRec.fmt r) with | some f => f.rowBytes n | none => 0

/-- A range of a logical channel: channel, first byte, length. -/
abbrev ChanRange := Nat × Nat × Nat

/-- The ranges that the shards of a record, and its scale shards, occupy in parcel p (R172, R183). -/
def shardRanges (s : State) (p : Nat) (r : BitVec 1024) : List ChanRange :=
  let ds := TRec.dims r
  let ua := unitAxis ds
  let chans := if namesAxis ds 3 then List.range 24 else [TRec.channel0 r]
  let ranges := (List.range (s.sectorCount p)).flatMap fun k =>
    chans.flatMap fun c =>
      (List.range (if ua = 0 then 1 else axisRanks s p ua)).flatMap fun u =>
        let x : Place := fun a =>
          if a = 1 then (s.parcel p).remote.position else if a = 2 then k else if a = 3 then c else if a = ua then u else 0
        let (rows, n) := shardShape s p ds x
        [(k * 24 + c, TRec.base r + u * TRec.shardPitch r, shardBytes rows (recRow r n) (TRec.rowPitch r))] ++
        (if TRec.scaled r then
          [(k * 24 + c, TRec.scaleBase r + u * TRec.shardPitch r, shardBytes rows (ceilDiv n 32) (TRec.scalePitch r))]
         else [])
  ranges.filter fun x => x.2.2 ≠ 0

/-! ### Refusal (R184) -/

/-- Does a boundary between elements at a multiple of `n` fall where R184 forbids it? -/
def boundaryBad (r : BitVec 1024) (n : Nat) : Bool :=
  let bits := match Fmt.ofCode (TRec.fmt r) with | some f => f.bits | none => 8
  (if bits = 6 then n % 4 ≠ 0 else n * bits % 8 ≠ 0) || (TRec.scaled r && n % 32 ≠ 0)

/-- The boundaries that dimension 0 has: the shard size or the cyclic block, where it divides the extent. -/
def dim0Bad (s : State) (p : Nat) (r : BitVec 1024) (d : TDim) : Bool :=
  let step := match d.shard with | 1 => ceilDiv d.extent (dimRanks s p d) | 2 => d.block | _ => d.extent
  step < d.extent && boundaryBad r step

/-- The largest shard of a record in bytes, and its longest packed row. -/
def longest (s : State) (p : Nat) (r : BitVec 1024) : Nat × Nat :=
  let (rows, n) := shardShape s p (TRec.dims r) (fun _ => 0)
  (shardBytes rows (recRow r n) (TRec.rowPitch r), recRow r n)

/-- 256 MiB: the chart area at the start of logical channel 0. -/
def chartArea : Nat := 0x10000000

/-- The steward refuses the record (R184). -/
def recordRefused (s : State) (p : Nat) (r : BitVec 1024) : Bool :=
  let ds := TRec.dims r
  let axes := (ds.flatMap fun d => [d.axis0, d.axis1].eraseDups).filter (· ≠ 0)
  let (shard, row) := longest s p r
  axes.length ≠ axes.eraseDups.length || axes.contains 7 || 6 < TRec.rank r || (Fmt.ofCode (TRec.fmt r)).isNone ||
  (!namesAxis ds 3 && 24 ≤ TRec.channel0 r) || ds.any (fun d => d.shard = 3 || (d.shard = 2 && d.block = 0)) ||
  (match ds with | d :: _ => dim0Bad s p r d | [] => true) ||
  TRec.rowPitch r % 64 ≠ 0 || TRec.shardPitch r % 64 ≠ 0 || TRec.rowPitch r < row ||
  (unitAxis ds ≠ 0 && TRec.shardPitch r < shard) ||
  (shardRanges s p r).any fun x => channelBytes < x.2.1 + x.2.2 || (x.1 = 0 && x.2.1 < chartArea)

/-! ### Ranges of the parcel -/

/-- A run of logical addresses cut at channel ends. -/
def cutRange (a n : Nat) : List ChanRange :=
  (List.range ((a % channelBytes + n + channelBytes - 1) / channelBytes)).map fun i =>
    let c := a / channelBytes + i
    let lo := if i = 0 then a % channelBytes else 0
    (c, lo, min channelBytes (a + n - c * channelBytes) - lo)

def meets (x y : ChanRange) : Bool := x.1 = y.1 && x.2.1 < y.2.1 + y.2.2 && y.2.1 < x.2.1 + x.2.2

/-- A range touches a retired page or pair (R366). -/
def retiredIn (s : State) (p : Nat) (x : ChanRange) : Bool :=
  match s.globalChannel p x.1 with
  | some c => s.rangeRetired c x.2.1 x.2.2
  | none => true

/-- Cover from `lo` on by the ranges of a channel: how far they reach without a gap. -/
def coverFrom (xs : List ChanRange) (lo : Nat) : Nat → Nat
  | 0 => lo
  | k + 1 =>
    match xs.find? fun x => x.2.1 ≤ lo && lo < x.2.1 + x.2.2 with
    | some x => coverFrom xs (x.2.1 + x.2.2) k
    | none => lo

/-- Every byte of the run lies within the ranges. -/
def covered (xs : List ChanRange) (a n : Nat) : Bool :=
  (cutRange a n).all fun y =>
    let mine := xs.filter fun x => x.1 = y.1
    y.2.1 + y.2.2 ≤ coverFrom mine y.2.1 mine.length

end Sys2Proof.Machine
end

