-- ==== Sys2Proof/Machine/TrafficGen.lean ====
section
/-! DEFINITION. The traffic generator and checker of a channel (08_pereo_stacks.md R212 to R214, Tables 8.12 and 8.13),
and SEGMENT_TURN, which moves one segment for it or for a copy channel.
Readings and choices: log entries 28 and 31. -/

namespace Sys2Proof.Machine

/-! ### Fields of TG_CONTROL (Table 8.12) -/

def tgMode (w : BitVec 32) : Nat := fld w.toNat 2 2
def tgPatternOf (w : BitVec 32) : Nat := fld w.toNat 4 3
def tgOrder (w : BitVec 32) : Nat := fld w.toNat 8 2
/-- Run length in bytes: 2^(6 + RUN_LOG2). -/
def tgRun (w : BitVec 32) : Nat := 2 ^ (6 + fld w.toNat 10 4)
def tgLoops (w : BitVec 32) : Nat := fld w.toNat 14 8
def tgStopOnError (w : BitVec 32) : Bool := bitAt w.toNat 22
def tgInject (w : BitVec 32) : Bool := bitAt w.toNat 23

/-- Is the generator waiting or running? -/
def tgBusy (g : TrafficGen) : Bool := g.state = .waiting || g.state = .writing || g.state = .reading
/-- Is the generator running? (GENERATOR_ACTIVE, Table 8.9) -/
def tgActive (g : TrafficGen) : Bool := g.state = .writing || g.state = .reading

/-- Fields that refuse a start (R213, Tables 8.8 and 8.12). -/
def tgBad (w : BitVec 32) (off len : Nat) (seed : BitVec 32) : Bool :=
  tgPatternOf w = 7 || tgOrder w = 3 || 10 < fld w.toNat 10 4 || off % tgRun w ≠ 0 || len % tgRun w ≠ 0 ||
  len < tgRun w || channelBytes < off + len || (tgPatternOf w ≤ 2 && seed = 0)

/-- The generator may run on channel `c`: it belongs to no parcel, is not clearing, and its training has passed (R209,
R212). -/
def tgMayRun (s : State) (c : Nat) : Bool :=
  let K := s.channel c
  (s.channelParcel c).isNone && !K.clearing && !K.training && K.trained

/-- A write of TG_CONTROL (R212, R213): its rw fields are kept; START asks for a run from the next boundary, STOP ends
one at the end of its turn. A start on a channel that a parcel owns or that is clearing, or with a generator already
busy, is refused. -/
def setTgControl (s : State) (c v : Nat) : Written :=
  if 2 ^ 32 ≤ v then (.type, s)
  else
    let K := s.channel c
    let g := K.tg
    let w : BitVec 32 := BitVec.ofNat 32 (v % 2 ^ 24 / 4 * 4)
    let put (g : TrafficGen) : State := s.modChannel c fun K => { K with tg := g }
    let stopped := if bitAt v 1 && tgBusy g then { g with stopping := true } else g
    if !bitAt v 0 then (.ok, put { stopped with control := w })
    else if tgBusy g then refuse s
    else if !tgMayRun s c || tgBad w g.offset.toNat g.length.toNat g.seed then
      (.refused, put { g with state := .refused })
    else
      (.ok, put { TrafficGen.init with control := w, offset := g.offset, length := g.length, seed := g.seed,
                                       state := .waiting, startTick := s.now, stopping := bitAt v 1 })

def execTgStart (who : Principal) (c : ChannelId) (value : Nat) (s : State) : Host.Outcome State Fault Refusal :=
  answer who (0x4000 + c) 0x10 s (operatorOnly who true false s (setTgControl s c value))

def execTgStop (who : Principal) (c : ChannelId) (value : Nat) (s : State) : Host.Outcome State Fault Refusal :=
  answer who (0x4000 + c) 0x10 s (operatorOnly who true false s (setTgControl s c value))

/-- TG_RUN_BEGIN: at the boundary after the start, the run begins with the fields then in force (R213, R438); the start is
refused where the channel may not run it then (R212). -/
def execTgRunBegin (c : ChannelId) (s : State) : Host.Outcome State Fault Refusal :=
  let g := (s.channel c).tg
  if g.state = .waiting && g.startTick < s.now then
    let bad := !tgMayRun s c || tgBad g.control g.offset.toNat g.length.toNat g.seed
    .next (s.modChannel c fun K => { K with tg :=
      if bad then { g with state := .refused }
      else { g with state := if tgMode g.control ≤ 1 then .writing else .reading, runControl := g.control,
                    runOffset := g.offset.toNat, runLength := g.length.toNat, runSeed := g.seed, pos := 0, ticks := 1 } })
  else .next s

/-- TG_RUN_END: a run that has made its loops is done, and one asked to stop is stopped; the channel is cleared where
the run wrote to it (R212, R213). -/
def execTgRunEnd (c : ChannelId) (s : State) : Host.Outcome State Fault Refusal :=
  let g := (s.channel c).tg
  if tgBusy g && (g.finished || g.stopping) then
    let s' := s.modChannel c fun K => { K with tg := { g with state := if g.finished then .done else .stopped, stopping := false } }
    .next (if g.wrote then startClearing s' c else s')
  else .next s

/-! ### Turns -/

/-- Pair-hopping order: run `r` of `n` runs, `k` of them in a 64 KiB stripe of one pair; successive runs lie `k` apart,
in successive pairs (Table 8.12). -/
def hopRun (r n k : Nat) : Nat :=
  let q := n / k
  let m := n % k
  if r < m * (q + 1) then r / (q + 1) + r % (q + 1) * k
  else
    let r' := r - m * (q + 1)
    m + r' / q + r' % q * k

/-- The channel offset of position `pos` of a pass (R213). -/
def tgOffsetAt (w : BitVec 32) (off len pos : Nat) : Nat :=
  let run := tgRun w
  let n := len / run
  let r := pos / run
  let i := if tgOrder w = 0 then r else if tgOrder w = 1 then n - 1 - r else hopRun r n (65536 / run)
  off + i * run + pos % run

/-- Byte `o` of the pattern (Table 8.12). The PRBS sequences and the walking ones are the device's own, for the pattern, the
seed and the order in which the pass comes to its bytes; MODE has no part in them (R213). -/
def tgByte (g : TrafficGen) (o : Nat) : Byte :=
  let w := g.runControl
  let b : Byte :=
    match tgPatternOf w with
    | 4 => BitVec.ofNat 8 (o / 8 * 8 / 256 ^ (o % 8))
    | 5 => 0
    | 6 => 0xFF
    | k => Config.tgPattern k g.runSeed (tgOrder w) (tgRun w) g.runOffset g.runLength o
  if bitAt w.toNat 7 && o / 64 % 2 = 1 then ~~~b else b

def modTg (s : State) (c : Nat) (f : TrafficGen → TrafficGen) : State := s.modChannel c fun K => { K with tg := f K.tg }

/-- A mismatch at offset `o` (Table 8.8): counted, the first one kept; it stops the run where STOP_ON_ERROR is set. -/
def tgMismatch (o : Nat) (g : TrafficGen) : TrafficGen :=
  { g with mismatches := g.mismatches + 1, firstFail := if g.mismatches = 0 then o else g.firstFail, passFailed := true,
           stopping := g.stopping || tgStopOnError g.runControl }

/-- A corrected granule: the counts of its lanes and the count of granules (Table 8.8). -/
def tgCorrected (lanes : List Nat) (g : TrafficGen) : TrafficGen :=
  { g with corrected := g.corrected + 1,
           laneErrors := lanes.foldl (fun t i => Tab.modify 0 t i fun x => min (x + 1) 0xFFFFFFFF) g.laneErrors }

/-- The checker reads one granule at offset `o` (R213, R214): corrected in its bank, on a lane, or both, it counts once as a
granule. A correction of the injected error enters no bucket. -/
def tgCheck (errs : List (Nat × Nat)) (c : Nat) (s : State) (o : Nat) : State :=
  let k := stackKey c o / 64
  let g := (s.channel c).tg
  let lanes := lanesOf errs (o / 64 % 32)
  let e := granuleErr s k
  let injected := g.injectAt = some k && e = 3
  if e = 2 || 2 ≤ lanes.length then modTg s c (tgMismatch o)
  else
    let s := countCorrected s c [k]
    let symbols := (if injected then [g.loopsDone % 72] else []) ++ lanes
    let s := if e = 0 && lanes.isEmpty then s
      else modTg s c (tgCorrected symbols)
    let s := if injected then modTg s c fun g => { g with injectSeen := true } else s
    if bankRead s c o 64 = (List.range 64).map fun i => tgByte g (o + i) then s else modTg s c (tgMismatch o)

/-- The pass has moved all its bytes: the next pass, or the end of a loop and of the run (R213, R214). -/
def tgPassEnd (g : TrafficGen) : TrafficGen :=
  let mode := tgMode g.runControl
  if g.state = .writing && mode = 0 then { g with state := .reading, pos := 0 }
  else
    let g := if g.state = .reading && mode = 0 && tgInject g.runControl && !g.injectSeen then
        tgMismatch ((g.injectAt.getD 0) * 64 % channelBytes) g
      else g
    let done := g.loopsDone + 1
    { g with loopsDone := min done 0xFFFFFF, pos := 0, injectAt := none, injectSeen := false,
             state := if mode ≤ 1 then .writing else .reading,
             finished := tgLoops g.runControl ≠ 0 && tgLoops g.runControl ≤ done }

/-- A write turn of the generator: its granules pass the controller's check as they arrive, and one with two lanes in error is
refused whole (R197, R356). With INJECT set, the pass's first granule carries a symbol error (R214). -/
def tgWrite (s : State) (c o n : Nat) (errs : List (Nat × Nat)) : State :=
  let g := (s.channel c).tg
  let offs := (List.range (n / 64)).map fun i => o + 64 * i
  let s := offs.foldl (fun s x =>
    if 2 ≤ (lanesOf errs (x / 64 % 32)).length then logUncorr s c x 7
    else bankWrite s c x ((List.range 64).map fun i => tgByte g (x + i))) s
  let s := placeLine s c (segOf o)
  let k := stackKey c o / 64
  let s := if g.pos = 0 && tgInject g.runControl && (lanesOf errs (o / 64 % 32)).length < 2 then
      modTg { s with stackErr := Tab.put s.stackErr k 3 } c fun g => { g with injectAt := some k }
    else s
  modTg s c fun g => { g with wrote := true }

/-- One turn of the generator: one segment written, read and compared, or looped back over the lanes. -/
def tgTurn (s : State) (c : Nat) (errs : List (Nat × Nat)) : State :=
  let g := (s.channel c).tg
  let w := g.runControl
  let o := tgOffsetAt w g.runOffset g.runLength g.pos
  let n := min (turnBytes o (tgRun w - g.pos % tgRun w)) (g.runLength - g.pos)
  let offs := (List.range (n / 64)).map fun i => o + 64 * i
  let s := s.modChannel c fun K => { K with lastWrite := g.state = .writing }
  let s :=
    if g.state = .writing then tgWrite s c o n errs
    else if tgMode w = 3 then
      -- loop-back: bit errors per lane, no bank touched
      modTg s c fun g => { g with laneErrors := errs.foldl (fun t e => Tab.modify 0 t e.2 fun x => min (x + 1) 0xFFFFFFFF) g.laneErrors }
    else placeLine (offs.foldl (tgCheck errs c) s) c (segOf o)
  let s := if tgMode w = 3 then s else countLanes s c (segOf o) errs (offs.map fun x => x / 64 % 32)
  modTg s c fun g => if g.pos + n < g.runLength then { g with pos := g.pos + n } else tgPassEnd { g with pos := g.pos + n }

/-- SEGMENT_TURN: the channel's controller grants one turn in cycle `cyc` of its parcel's leg (R190, R191, R213). `laneErrors`
are the lane errors met: granule of the segment and lane. A channel that is clearing or training carries no traffic. -/
def execSegmentTurn (c : ChannelId) (cyc : Nat) (laneErrors : List (Nat × Nat)) (s : State) :
    Host.Outcome State Fault Refusal :=
  let K := s.channel c
  if K.clearing || K.training then .next s
  else if tgActive K.tg then
    if K.tg.stopping || K.tg.finished then .next s else .next (tgTurn s c laneErrors)
  else
    match s.channelParcel c with
    | some p => .next (copyTurn (s.settle p cyc) c cyc laneErrors)
    | none => .next s

end Sys2Proof.Machine
end

