-- ==== Sys2Proof/Machine/Parcels.lean ====
section
/-! DEFINITION. Parcels (chapter 12): defining and releasing them (R293), job control (R294, Tables 12.3 and 12.17),
the sealing and starting checks (R295, R298, Table 12.6), and retirement (R312 to R315, R365, R366).
Readings and choices: log entries 38 and 47. -/

namespace Sys2Proof.Machine

/-! ### Sectors (12.7) -/

/-- The parcel to which a sector belongs, from DEFINED until it is FREE again. -/
def sectorOwner (s : State) (k : Nat) : Option Nat :=
  (List.range 16).find? fun p => let c := (s.parcel p).ctl; c.mode ≠ .free && c.mask.getLsbD k

/-- Owned, or named in a mask accepted for the next boundary. -/
def sectorTaken (s : State) (k : Nat) : Bool :=
  (sectorOwner s k).isSome ||
  (List.range 16).any fun p => match (s.parcel p).ctl.pendingMask with | some m => m.getLsbD k | none => false

def sectorChannels (k : Nat) : List Nat := (List.range 24).map (sectorChannel k)

/-- R314. -/
def unserviceable (s : State) (k : Nat) : Bool :=
  Tab.get false s.spineFailed (dieOfSector k) || (dieOfSector k = 1 && s.bridgeFailed) ||
  (sectorChannels k).all s.channelFailed || fld (s.sector k).retiredTiles.toNat 0 16 = 0xFFFF

/-- A channel that a mask may not name: CLEARING, or with its generator waiting or running (R212, R293). -/
def channelBusy (s : State) (c : Nat) : Bool := (s.channel c).clearing || tgBusy (s.channel c).tg

/-- A write of PARCEL_SECTORS (R293); 0 to a DEFINED parcel releases it. -/
def setParcelSectors (s : State) (p v : Nat) : Written :=
  if 2 ^ 16 ≤ v then (.type, s)
  else
    let P := s.parcel p
    let m : BitVec 16 := BitVec.ofNat 16 v
    let ks := maskBits m
    if v = 0 then
      if P.ctl.mode = .defined then (.ok, s.modCtl p fun k => { k with pendingRelease := true }) else refuse s
    else if P.ctl.mode ≠ .free || P.ctl.pendingMask.isSome || ks.head? ≠ some p ||
        ks.any (fun k => sectorTaken s k || unserviceable s k || (sectorChannels k).any (channelBusy s)) ||
        (s.bridgeFailed && ks.any (· < 8) && ks.any (8 ≤ ·)) then refuse s
    else (.ok, s.modCtl p fun k => { k with pendingMask := some m })

def execParcelSectors (who : Principal) (p : ParcelId) (value : Nat) (s : State) : Host.Outcome State Fault Refusal :=
  answer who (0x3060 + p) 0x01 s (operatorOnly who false true s (setParcelSectors s p value))

/-! ### Job control (R294) -/

/-- The codes of Table 12.3, and whether a command is the operator's. -/
def commandListed (code : Nat) : Bool := (1 ≤ code && code ≤ 4) || (0x10 ≤ code && code ≤ 0x13)
def operatorCommand (code : Nat) : Bool := 0x10 ≤ code

def principalFits (who : Principal) (code : Nat) : Bool :=
  match who with
  | .operator => operatorCommand code
  | .tenant _ => !operatorCommand code
  | .factory => false

/-- "Valid in" of Table 12.3; nothing is while a teardown runs. -/
def commandValid (P : Parcel) (code : Nat) : Bool :=
  let idle := P.ctl.mode = .sealed && (P.ctl.job = .none || P.ctl.job = .tornDown)
  P.ctl.tearingDown.isNone &&
  match code with
  | 0x01 => P.ctl.mode = .defined
  | 0x02 => idle
  | 0x03 => P.ctl.job = .running
  | 0x04 => jobLive P
  | 0x10 => P.ctl.job = .running || P.ctl.job = .draining
  | 0x11 => P.ctl.job = .preempted
  | 0x12 => jobLive P
  | 0x13 => P.ctl.mode = .defined || idle
  | _ => false

/-- A write of JOB_CONTROL: STOP and ABORT act at once; any other command is held until tick unit 500. -/
def setJobControl (who : Principal) (s : State) (p v : Nat) : Written :=
  if 2 ^ 8 ≤ v then (.type, s)
  else
    let s1 := s.modCtl p fun k => { k with resultCommand := BitVec.ofNat 8 v, sampledLast := false }
    if v = 0x04 || v = 0x12 then
      if !principalFits who v then (.ok, outcome s1 p 3)
      else if !commandValid (s.parcel p) v then (.ok, outcome s1 p 2)
      else
        let s2 := teardown s p (if v = 0x04 then 0x05 else 0x04) none
        (.ok, outcome (s2.modCtl p fun k => { k with resultCommand := BitVec.ofNat 8 v }) p 1)
    else (.ok, outcome (s1.modCtl p fun k => { k with held := some (BitVec.ofNat 8 v), heldBy := who }) p 0)

/-- Who reaches the control objects of parcel p: the operator, and its own tenant (R434). -/
def reachesParcel (who : Principal) (p : Nat) : Bool :=
  match who with
  | .operator => true
  | .tenant q => q = p
  | .factory => false

def jobCommand (who : Principal) (p code : Nat) (s : State) : Host.Outcome State Fault Refusal :=
  answer who (0x3060 + p) 0x03 s (if reachesParcel who p then setJobControl who s p code else (.absent, s))

def execSeal (who : Principal) (p : ParcelId) (s : State) : Host.Outcome State Fault Refusal := jobCommand who p 0x01 s
def execStart (who : Principal) (p : ParcelId) (s : State) : Host.Outcome State Fault Refusal := jobCommand who p 0x02 s
def execJobEnd (who : Principal) (p : ParcelId) (s : State) : Host.Outcome State Fault Refusal := jobCommand who p 0x03 s
def execAbort (who : Principal) (p : ParcelId) (s : State) : Host.Outcome State Fault Refusal := jobCommand who p 0x04 s
def execPreempt (who : Principal) (p : ParcelId) (s : State) : Host.Outcome State Fault Refusal := jobCommand who p 0x10 s
def execResume (who : Principal) (p : ParcelId) (s : State) : Host.Outcome State Fault Refusal := jobCommand who p 0x11 s
def execStop (who : Principal) (p : ParcelId) (s : State) : Host.Outcome State Fault Refusal := jobCommand who p 0x12 s
def execRelease (who : Principal) (p : ParcelId) (s : State) : Host.Outcome State Fault Refusal := jobCommand who p 0x13 s

/-- COMMAND_SAMPLE at tick unit 500: the held command is refused, or kept for the boundary; a valid PREEMPT sets
PREEMPT_PENDING (R302). The checks come in the order reserved code, principal, state, thermal stop (R426). -/
def execCommandSample (p : ParcelId) (s : State) : Host.Outcome State Fault Refusal :=
  let P := s.parcel p
  match P.ctl.held with
  | none => .next s
  | some c =>
    let code := c.toNat
    let s := s.modCtl p fun k => { k with held := none }
    if !commandListed code then .next (outcome s p 4)
    else if !principalFits P.ctl.heldBy code then .next (outcome s p 3)
    else if !commandValid P code then .next (outcome s p 2)
    else if s.thermal.stopped && (code = 0x01 || code = 0x02 || code = 0x11) then .next (outcome s p 6)
    else if code = 0x10 then
      .next ((s.modPTick p fun x => { x with preemptPending := true }).modCtl p fun k => { k with sampledLast := true })
    else .next (s.modCtl p fun k => { k with sampled := c, sampledLast := true })

/-! ### Checks (Table 12.6) -/

/-- The areas of a parcel as logical runs: prompt, request, save and dump area. -/
def areas (s : State) (p : Nat) : List (Nat × Nat) :=
  let P := s.parcel p
  let n := s.sectorCount p
  [(P.serving.promptArea.toNat, 256 * n * 0x100000), (P.serving.requestArea.toNat, 1024 * n * 0x40000),
   (P.ctl.saveArea.toNat, 32 * n * 0x100000), (P.bisect.base.toNat, 32 * n * dumpStride P.bisect)]

/-- The page region in every channel (R279): stripes of 4 MiB. -/
def pageRegion (s : State) (p : Nat) : List ChanRange :=
  let V := (s.parcel p).serving
  (List.range (24 * s.sectorCount p)).map fun c => (c, V.stripeFirst.toNat * 0x400000, V.stripeCount.toNat * 0x400000)

/-- The first pair of an index and a later one whose ranges meet. -/
def someMeet : List (List ChanRange) → Bool
  | [] => false
  | x :: xs => xs.any (fun y => x.any fun a => y.any (meets a)) || someMeet xs

def chartShards (s : State) (p : Nat) : List ChanRange :=
  match (s.parcel p).chart with
  | none => []
  | some c => c.tensors.flatMap (shardRanges s p)

/-- The masks of the chart for logical sector i. -/
def chartTiles (P : Parcel) (i : Nat) : BitVec 32 := match P.chart with | some c => c.tileMasks.getD i 0 | none => 0
def chartChannels (P : Parcel) (i : Nat) : BitVec 24 := match P.chart with | some c => c.channelMasks.getD i 0 | none => 0

/-- Each check passes (Table 12.6). -/
def checkSectors (s : State) (p : Nat) : Bool :=
  let ks := s.sectorsOf p
  ks.all (fun k => !unserviceable s k) && ks.any fun k => !(s.sector k).stewardRetired

def checkChannels (s : State) (p : Nat) : Bool :=
  (s.sectorsOf p).zipIdx.all fun x => (List.range 24).all fun j =>
    let c := sectorChannel x.1 j
    !channelBusy s c && ((s.channel c).trained || !(chartChannels (s.parcel p) x.2).getLsbD j)

def checkInterval (s : State) (p : Nat) : Bool :=
  match (s.parcel p).chart with
  | none => true
  | some c => c.templates.all fun T => T.minInterval ≤ s.mer.steps

def checkPlacement (P : Parcel) : Bool :=
  match P.chart with
  | none => true
  | some c => match c.dieSplit with | none => true | some d => d = P.ctl.dieSplit

def checkRetirement (s : State) (p : Nat) : Bool :=
  let P := s.parcel p
  (s.sectorsOf p).zipIdx.all fun x =>
    chartTiles P x.2 &&& (s.sector x.1).retiredTiles = 0 &&
    (List.range 24).all fun j => !(chartChannels P x.2).getLsbD j || !s.channelFailed (sectorChannel x.1 j)

def checkAreasKept (s : State) (p : Nat) : Bool :=
  (areas s p).all fun a => (cutRange a.1 a.2).all fun x => !retiredIn s p x

def checkAreas (s : State) (p : Nat) : Bool :=
  let as := areas s p
  let runs := as.map fun a => cutRange a.1 a.2
  let n := 24 * s.sectorCount p * channelBytes
  let shards := chartShards s p
  as.all (fun a => a.1 % 0x200000 = 0 && a.1 + a.2 ≤ n) && checkAreasKept s p &&
  !someMeet (runs ++ [[(0, 0, chartArea)]]) && !runs.any (fun r => r.any fun x => shards.any (meets x)) &&
  !(pageRegion s p).any fun g =>
    shards.any (meets g) || (runs.take 2).any fun r => r.any (meets g)

def checkShardsKept (s : State) (p : Nat) : Bool := (chartShards s p).all fun x => !retiredIn s p x

def checkTensors (s : State) (p : Nat) : Bool :=
  (match (s.parcel p).chart with | none => true | some c => c.tensors.all fun r => !recordRefused s p r) &&
  checkShardsKept s p

/-- No tile with a hard closure fault that the operator has not retired (R101). -/
def checkClosure (s : State) (p : Nat) : Bool :=
  (s.tilesOf p).all fun t => !(s.tile t).closure.hard || (s.sector (tileSector t)).retiredTiles.getLsbD (t % 32)

/-- The first code whose check fails; 0 if none. -/
def firstFail : List (Nat × Bool) → Nat
  | [] => 0
  | (c, ok) :: r => if ok then firstFail r else c

/-- The sealing checks, in order (R298). -/
def sealCheck (s : State) (p : Nat) : Nat :=
  let P := s.parcel p
  firstFail
    [(0x1, checkSectors s p), (0x2, checkChannels s p), (0x3, P.chart.isSome && P.sec.chartVerified),
     (0x4, checkInterval s p), (0x5, checkPlacement P), (0x6, checkRetirement s p), (0x7, checkAreas s p),
     (0x8, checkTensors s p), (0x9, checkClosure s p)]

/-- The checks of START: retirement and closure (R101, R295, R314, R366). -/
def startCheck (s : State) (p : Nat) : Nat :=
  firstFail
    [(0x1, checkSectors s p), (0x6, checkRetirement s p), (0x7, checkAreasKept s p), (0x8, checkShardsKept s p),
     (0x9, checkClosure s p)]

/-! ### Retirement (R312, R365, R366) -/

/-- R312 allows a retirement in sector k now. -/
def retireAllowed (s : State) (k : Nat) : Bool :=
  match sectorOwner s k with
  | none => true
  | some p =>
    let j := (s.parcel p).ctl.job
    (j = .none || j = .tornDown || j = .preempted) && (s.parcel p).ctl.tearingDown.isNone

/-- A job whose sector has become unserviceable is torn down (R314). -/
def dropUnserviceable (s : State) (k cause : Nat) : State :=
  match sectorOwner s k with
  | none => s
  | some p => if unserviceable s k && jobLive (s.parcel p) then teardown s p cause (some k) else s

/-- The record of a retirement (Table 14.5). -/
def retireRecord (s : State) (source inst sub detail : Nat) (k : Nat) : State :=
  s.logEvent 0x10 source inst (sectorOwner s k) sub detail

def setRetireTile (s : State) (k v : Nat) : Written :=
  if 2 ^ 8 ≤ v then (.type, s)
  else if 32 ≤ v || !retireAllowed s k || (s.sector k).retiredTiles.getLsbD v then refuse s
  else
    let s := s.modSector k fun x => { x with retiredTiles := x.retiredTiles ||| ((1 : BitVec 32) <<< v) }
    (.ok, dropUnserviceable (retireRecord s 1 (k * 32 + v) 0 0 k) k 0x01)

def setRetireChannel (s : State) (k v : Nat) : Written :=
  if 2 ^ 8 ≤ v then (.type, s)
  else if 24 ≤ v || !retireAllowed s k || (s.sector k).retiredChannels.getLsbD v then refuse s
  else
    let s := s.modSector k fun x => { x with retiredChannels := x.retiredChannels ||| ((1 : BitVec 24) <<< v) }
    (.ok, dropUnserviceable (retireRecord s 2 (sectorChannel k v) 1 0 k) k 0x02)

def setRetireSteward (s : State) (k v : Nat) : Written :=
  if 1 < v then (.type, s)
  else if v = 0 || !retireAllowed s k || (s.sector k).stewardRetired then refuse s
  else (.ok, retireRecord (s.modSector k fun x => { x with stewardRetired := true }) 5 k 4 0 k)

def execRetireTile (who : Principal) (k : SectorId) (value : Nat) (s : State) : Host.Outcome State Fault Refusal :=
  answer who (0x3040 + k) 0x04 s (operatorOnly who false false s (setRetireTile s k value))

def execRetireChannel (who : Principal) (k : SectorId) (value : Nat) (s : State) : Host.Outcome State Fault Refusal :=
  answer who (0x3040 + k) 0x05 s (operatorOnly who false false s (setRetireChannel s k value))

def execRetireSteward (who : Principal) (k : SectorId) (value : Nat) (s : State) : Host.Outcome State Fault Refusal :=
  answer who (0x3040 + k) 0x06 s (operatorOnly who false false s (setRetireSteward s k value))

/-- A column that an entry of a PREEMPTED job holds has a 64 KiB page of channel c among those that `hit` picks. -/
def heldOverlap (s : State) (c : Nat) (hit : Nat → Bool) : Bool :=
  match s.channelParcel c with
  | none => false
  | some p =>
    (s.parcel p).ctl.job = .preempted &&
    (s.parcel p).serving.gaz.any fun g => g.2.cols.any fun col =>
      (columnPages s p col).any fun x => x.1 = c && hit x.2

/-- The outcome of a retirement write on channel c (Table 14.9): done, or the number of its refusal. -/
def retireOutcome (s : State) (c : Nat) (already out full overlap : Bool) : Nat :=
  if !retireAllowed s (channelSector c) then 1
  else if out then 3
  else if already then 2
  else if full then 4
  else if overlap then 5 else 0

def noteRetire (s : State) (c r : Nat) : State := s.modChannel c fun K => { K with retireResult := BitVec.ofNat 32 r }

/-- RETIRE_PAGE (R365): pages of 2 MiB, each 32 of the 64 KiB pages. -/
def setRetirePage (s : State) (c v : Nat) : Written :=
  if 2 ^ 16 ≤ v then (.type, s)
  else
    let K := s.channel c
    let r := retireOutcome s c (K.retiredPages.contains v) (768 ≤ v) (256 ≤ K.retiredPages.length)
      (heldOverlap s c fun x => x / 32 = v)
    let s := noteRetire s c r
    if r ≠ 0 then (.refused, s)
    else
      (.ok, retireRecord (s.modChannel c fun K => { K with retiredPages := K.retiredPages ++ [v] }) 2 c 3 v
        (channelSector c))

/-- RETIRE_PAIR (R365). -/
def setRetirePair (s : State) (c v : Nat) : Written :=
  if 2 ^ 8 ≤ v then (.type, s)
  else
    let K := s.channel c
    let r := retireOutcome s c (K.retiredPairs.contains v) (64 ≤ v) false (heldOverlap s c fun x => x % 64 = v)
    let s := noteRetire s c r
    if r ≠ 0 then (.refused, s)
    else
      (.ok, retireRecord (s.modChannel c fun K => { K with retiredPairs := K.retiredPairs ++ [v] }) 3 (c * 64 + v) 2 0
        (channelSector c))

def execRetirePage (who : Principal) (c : ChannelId) (value : Nat) (s : State) : Host.Outcome State Fault Refusal :=
  answer who (0x4000 + c) 0x40 s (operatorOnly who false false s (setRetirePage s c value))

def execRetirePair (who : Principal) (c : ChannelId) (value : Nat) (s : State) : Host.Outcome State Fault Refusal :=
  answer who (0x4000 + c) 0x41 s (operatorOnly who false false s (setRetirePair s c value))

/-! ### The end of a training (R208, R209, R314) -/

/-- TRAINING_COMPLETE: the lanes `failing` failed step 4 or 6, `failed` tells that another step's criterion was not met; a
sector that loses its last channel is unserviceable. -/
def execTrainingComplete (c : ChannelId) (failing : List Nat) (failed : Bool) (eyeWidth eyeHeight worst : Nat) (s : State) :
    Host.Outcome State Fault Refusal :=
  if !(s.channel c).training then .next s
  else .next (dropUnserviceable (endTraining s c failing failed eyeWidth eyeHeight worst) (channelSector c) 0x02)

/-! ### Failures of the spine and the bridge (R314) -/

/-- Every job in the sectors that a failure takes out of service is torn down. -/
def dropAll (s : State) (cause : Nat) : State := (List.range 16).foldl (fun s k => dropUnserviceable s k cause) s

def execSpineFailure (d : DieId) (s : State) : Host.Outcome State Fault Refusal :=
  .next (dropAll { s with spineFailed := Tab.set false s.spineFailed d true } 0x01)

def execBridgeFailure (s : State) : Host.Outcome State Fault Refusal :=
  .next (dropAll { s with bridgeFailed := true } 0x01)

end Sys2Proof.Machine
end

