-- ==== Sys2Proof/Machine/Cartouche.lean ====
section
/-! DEFINITION. The Cartouche (chapter 13): bundle delivery (R331 to R336), export (R337), clearance certificates (R340,
R341), device interfaces in ERROR (R329) and tamper (R345 to R347).
Readings and choices: log entries 48, 49, 50 and 51. -/

namespace Sys2Proof.Machine

/-- One draw more has been made. -/
def drawn (s : State) : State := { s with fresh := s.fresh + 1 }

def modSec (s : State) (p : Nat) (f : ParcelSec → ParcelSec) : State := s.modParcel p fun P => { P with sec := f P.sec }

/-- An object that only the tenant of parcel p may write, and nobody may read. -/
def tenantWrite (who : Principal) (p : Nat) (s : State) (w : Written) : Written :=
  match who with
  | .tenant q => if q = p then w else (.absent, s)
  | _ => (.absent, s)

/-! ### Definition (R331) -/

/-- A certificate that carries TAMPER, and the parcel that it is about (Table 13.10). -/
def tamperCert (x : Cert) : Bool := x.body.getLsbD 12
def certParcel (x : Cert) : Nat := fld x.body.toNat 8 4

/-- The Cartouche's part of a parcel's becoming DEFINED: nonce and delivery key; nothing of an earlier definition stays
but the state of its interface and stream, and its TAMPER certificates leave CLEARANCE_LOG (R341). -/
def defineSec (s : State) (p : Nat) : State :=
  let s := { s with cart :=
    { s.cart with clearance := s.cart.clearance.filter fun x => !(tamperCert x && certParcel x = p) } }
  drawn (drawn (s.modParcel p fun P =>
    { P with
        chart := none
        sec :=
          { ParcelSec.init with
              sealNonce := Config.random64 s.fresh
              dk := s.fresh + 2
              dkPublic := Config.publicPoint (s.fresh + 1)
              tdi := P.sec.tdi
              ideSecure := P.sec.ideSecure
              ideKey := P.sec.ideKey } }))

/-! ### Bundle headers (Table 13.5) -/

namespace Hdr

def version (h : BitVec 2048) : Nat := fld h.toNat 0 8
def kind (h : BitVec 2048) : Nat := fld h.toNat 8 8
def slot (h : BitVec 2048) : Nat := fld h.toNat 16 6
def chunks (h : BitVec 2048) : Nat := fld h.toNat 32 32
def nonce (h : BitVec 2048) : BitVec 64 := BitVec.ofNat 64 (fld h.toNat 64 64)
def bundle (h : BitVec 2048) : BitVec 64 := BitVec.ofNat 64 (fld h.toNat 128 64)

/-- No field is reserved or out of range. -/
def ok (h : BitVec 2048) : Bool :=
  version h = 1 && kind h ≤ 3 && (if kind h = 2 then 1 ≤ slot h else slot h = 0) && fld h.toNat 22 10 = 0 &&
  1 ≤ chunks h && fld h.toNat 1288 760 = 0

end Hdr

/-- The job's state lets the Cartouche write an inset without a delivery leg (R334). -/
def jobAtRest (P : Parcel) : Bool := P.ctl.job = .none || P.ctl.job = .tornDown || P.ctl.job = .preempted

/-- "Accepted in" of Table 13.7. -/
def kindAccepted (P : Parcel) (kind : Nat) : Bool :=
  match kind with
  | 0 => P.ctl.mode = .defined
  | 1 => P.ctl.mode = .defined && P.sec.chartVerified
  | 2 =>
    P.ctl.mode = .sealed &&
    (jobAtRest P || match P.chart with | some c => c.deliveryLeg.isSome | none => false)
  | 3 => P.ctl.mode = .defined
  | _ => false

/-- The first region of an inset slot that no live version holds: its place among the chart's regions. -/
def freeRegion (P : Parcel) (slot : Nat) : Option Nat :=
  match P.chart with
  | none => none
  | some c =>
    let live := (Tab.get InsetSlot.init P.serving.insets slot).live
    (List.range c.insetRegions.length).find? fun i =>
      match c.insetRegions[i]? with
      | some r => r.slot = slot && !live.any fun v => v.2.region = i
      | none => false

/-- The checks of step 1 of R333, in order: a result of Table 13.8. -/
def headerResult (P : Parcel) (h : BitVec 2048) : Nat :=
  if !Hdr.ok h then 0x08
  else if Hdr.nonce h ≠ P.sec.sealNonce || P.sec.usedIds.contains (Hdr.bundle h) then 0x03
  else if !kindAccepted P (Hdr.kind h) then 0x05
  else if Hdr.kind h = 2 && (freeRegion P (Hdr.slot h)).isNone then 0x07
  else 0

/-- The bytes per tick of the delivery leg, where one writes this bundle now. -/
def legBytes (P : Parcel) (kind : Nat) : Option Nat :=
  if kind = 2 && (P.ctl.job = .running || P.ctl.job = .draining) then
    match P.chart with | some c => c.deliveryLeg | none => none
  else none

/-- A delivery begins: the header has passed and its key has unwrapped. -/
def beginDelivery (s : State) (p : Nat) (h : BitVec 2048) (key : BitVec 256) : State :=
  let P := s.parcel p
  let kind := Hdr.kind h
  let region := (freeRegion P (Hdr.slot h)).getD 0
  let d : Delivery :=
    { kind := kind, slot := Hdr.slot h, chunks := Hdr.chunks h, bundleId := Hdr.bundle h, key := key, next := 0,
      plain := [], region := region, aborting := false, credit := (legBytes P kind).getD 0, moved := 0 }
  let s := modSec s p fun c =>
    { c with state := 2, delivery := some d, usedIds := c.usedIds ++ [d.bundleId],
             chartVerified := c.chartVerified && kind ≠ 0 }
  if kind = 2 then
    s.modServing p fun V =>
      { V with insets := Tab.modify InsetSlot.init V.insets d.slot fun x =>
          if x.staged.map (·.region) = some region then { x with staged := none } else x }
  else s

/-- DELIVERY_START (R333): the address of a header, and what the host read returned. A chart bundle that fails leaves
CHART_VERIFIED clear (R336). -/
def setDeliveryStart (s : State) (p : Nat) (addr : BitVec 64) (header : Option (BitVec 2048)) : Written :=
  let P := s.parcel p
  if addr.toNat % 4096 ≠ 0 || P.sec.delivery.isSome then refuse s
  else
    let s := modSec s p fun c => { c with bytesDelivered := 0, tensorId := 0, result := 0 }
    match header with
    | none => (.ok, endDelivery s p 0x06 4)
    | some h =>
      let r := headerResult P h
      let failed (r : Nat) : Written :=
        (.ok, endDelivery (modSec s p fun c => { c with chartVerified := c.chartVerified && Hdr.kind h ≠ 0 }) p r 4)
      if r ≠ 0 then failed r
      else
        match (if P.sec.dk = 0 then none else Config.unwrapKey P.sec.dk P.sec.sealNonce p h) with
        | none => failed 0x02
        | some k => (.ok, beginDelivery s p h k)

def execDeliveryStart (who : Principal) (p : ParcelId) (addr : BitVec 64) (header : Option (BitVec 2048)) (s : State) :
    Host.Outcome State Fault Refusal :=
  answer who (0x8010 + p) 0x05 s (tenantWrite who p s (setDeliveryStart s p addr header))

/-! ### Chunks (Table 13.6) -/

namespace Chunk

def tensor (d : BitVec 512) : Nat := fld d.toNat 0 16
def len (d : BitVec 512) : Nat := fld d.toNat 32 32
def dest (d : BitVec 512) : Nat := fld d.toNat 64 40
def tag (d : BitVec 512) : BitVec 128 := BitVec.ofNat 128 (fld d.toNat 192 128)

/-- No field is reserved or out of range. -/
def ok (kind : Nat) (d : BitVec 512) : Bool :=
  fld d.toNat 16 16 = 0 && fld d.toNat 104 24 = 0 && fld d.toNat 320 192 = 0 && len d % 64 = 0 && 64 ≤ len d &&
  len d ≤ 0x100000 && dest d % 64 = 0 && (kind = 1 || kind = 2 || tensor d = 0)

end Chunk

/-- The AAD of chunk i (R332), as the list of its fields. -/
def chunkAad (nonce bundle : BitVec 64) (i tensor dest len : Nat) : List Nat :=
  [nonce.toNat, bundle.toNat, i, tensor, dest, len]

/-- Encrypt or decrypt chunk i: the key stream is added modulo 2. -/
def cryptChunk (key : BitVec 256) (i : Nat) (bytes : List Byte) : List Byte :=
  bytes.zipIdx.map fun x => x.1 ^^^ Config.keyStream key i x.2

/-- The destination check of Table 13.7. -/
def chunkDestOk (s : State) (p : Nat) (d : Delivery) (tensor dest len : Nat) : Bool :=
  match d.kind, (s.parcel p).chart with
  | 0, _ => dest + len ≤ chartArea
  | 1, some c =>
    match c.tensors.find? fun r => TRec.id r = tensor with
    | none => false
    | some r => !recordRefused s p r && covered (shardRanges s p r) dest len
  | 2, some c =>
    match c.insetRegions[d.region]? with
    | none => false
    | some r => r.base ≤ dest && dest + len ≤ r.base + r.len
  | 3, _ => chartArea ≤ dest && dest + len ≤ 24 * s.sectorCount p * channelBytes
  | _, _ => false

/-- The chart is in place: its content, its digest, CHART_VERIFIED (R334). -/
def takeChart (s : State) (p : Nat) (c : Chart) (digest : BitVec 384) : State :=
  s.modParcel p fun P =>
    { P with
        chart := some c
        sec := { P.sec with chartVerified := true, chartDigest := digest }
        serving := { P.serving with chunk := c.chunk, nLayers := c.nLayers, heads := c.heads } }

/-- A bundle is complete. -/
def finishBundle (s : State) (p : Nat) (d : Delivery) (plain : List Byte) (chart : Option Chart) : State :=
  let digest := Config.sha384 plain
  let s := modSec s p fun c => { c with bundles := c.bundles ++ [{ bundleId := d.bundleId, kind := d.kind, digest := digest }] }
  let s :=
    match d.kind, chart with
    | 0, some c => takeChart s p c digest
    | 2, _ =>
      s.modServing p fun V =>
        { V with insets := Tab.modify InsetSlot.init V.insets d.slot fun x =>
            { x with staged := some { region := d.region, digest := digest } } }
    | _, _ => s
  endDelivery s p 0x00 3

/-- How many bytes of a chunk of `len` bytes move now: all that is left of it, or as many whole granules as the delivery leg
may still move in this tick (R334, R335). -/
def chunkStep (P : Parcel) (d : Delivery) (len : Nat) : Nat :=
  if (legBytes P d.kind).isSome then min (d.credit / 64 * 64) (len - d.moved) else len - d.moved

/-- A chunk whose tag and destination have passed is written, or the next part of it (R333, R335, R336); once all of it is,
the delivery goes on to the next. At a DISCONNECTED crossing the access has an error response, and the steward repeats it
(R405). -/
def takeChunk (s : State) (p : Nat) (d : Delivery) (dest : Nat) (bytes : List Byte) (chart : Option Chart) : State :=
  let n := chunkStep (s.parcel p) d bytes.length
  match rangeCut s p (dest + d.moved) n with
  | some k => endTransfer s k
  | none =>
    let s := stewardPut s p (dest + d.moved) ((bytes.drop d.moved).take n)
    if (s.parcel p).sec.delivery.isNone then s
    else
      let s := modSec s p fun c => { c with bytesDelivered := c.bytesDelivered + n }
      if d.moved + n < bytes.length then
        modSec s p fun c => { c with delivery := some { d with moved := d.moved + n, credit := d.credit - n } }
      else
        let d' := { d with next := d.next + 1, plain := d.plain ++ bytes, credit := d.credit - n, moved := 0 }
        if d'.next = d.chunks then finishBundle s p d d'.plain chart
        else if d.aborting then endDelivery s p 0x09 5
        else modSec s p fun c => { c with delivery := some d' }

/-- An inset bundle may not go on while its job is not at rest and the chart declares no delivery leg (R334). -/
def insetBarred (P : Parcel) (d : Delivery) : Bool :=
  d.kind = 2 && !jobAtRest P && match P.chart with | some c => c.deliveryLeg.isNone | none => true

/-- DELIVERY_CHUNK: the descriptor and the ciphertext that the host reads returned; for the last chunk of a chart, the
chart that its bytes spell. -/
def execDeliveryChunk (p : ParcelId) (desc : Option (BitVec 512)) (cipher : Option (List Byte)) (chart : Option Chart)
    (s : State) : Host.Outcome State Fault Refusal :=
  let P := s.parcel p
  match P.sec.delivery with
  | none => .next s
  | some d =>
    if !hostOpen s p then .next s
    else if insetBarred P d then .next (endDelivery s p 0x05 4)
    else
      match desc with
      | none => .next (endDelivery s p 0x06 4)
      | some c =>
        if !Chunk.ok d.kind c then .next (endDelivery s p 0x08 4)
        else
          match cipher with
          | none => .next (endDelivery s p 0x06 4)
          | some bytes =>
            if bytes.length ≠ Chunk.len c then .next (endDelivery s p 0x06 4)
            else if d.kind = 0 && d.next + 1 = d.chunks && chart.isNone then .next s
            else if Config.gcmTag d.key d.next
                (chunkAad P.sec.sealNonce d.bundleId d.next (Chunk.tensor c) (Chunk.dest c) (Chunk.len c)) bytes ≠ Chunk.tag c then
              .next (endDelivery s p 0x01 4)
            else if !chunkDestOk s p d (Chunk.tensor c) (Chunk.dest c) (Chunk.len c) then
              if d.kind = 1 then
                .next (endDelivery (modSec s p fun x => { x with tensorId := Chunk.tensor c }) p 0x04 4)
              else .next (endDelivery s p 0x08 4)
            else .next (takeChunk s p d (Chunk.dest c) (cryptChunk d.key d.next bytes) chart)

/-- DELIVERY_ABORT (R336): the delivery ends after the chunk in progress. -/
def setDeliveryAbort (s : State) (p v : Nat) : Written :=
  if 1 < v then (.type, s)
  else if v = 0 then (.ok, s)
  else (.ok, modSec s p fun c => { c with delivery := c.delivery.map fun d => { d with aborting := true } })

def execDeliveryAbort (who : Principal) (p : ParcelId) (value : Nat) (s : State) : Host.Outcome State Fault Refusal :=
  answer who (0x8010 + p) 0x06 s (tenantWrite who p s (setDeliveryAbort s p value))

/-! ### Export (R337) -/

/-- The chunks of a region: each at most 1 MiB. -/
def regionChunks (len : Nat) : Nat := (len + 0xFFFFF) / 0x100000

def exportOk (s : State) (p : Nat) (r : ExportRequest) : Bool :=
  r.regions.length ≤ 64 && r.parcel < 16 &&
  r.regions.all fun x => x.1 % 64 = 0 && x.2 % 64 = 0 && 0 < x.2 && x.1 + x.2 ≤ 24 * s.sectorCount p * channelBytes

/-- The header of an export bundle. -/
def exportHeader (r : ExportRequest) (eph : BitVec 776) (wrapped : BitVec 320) : BitVec 2048 :=
  BitVec.ofNat 2048 (1 + 3 * 2 ^ 8 + (r.regions.map fun x => regionChunks x.2).foldl (· + ·) 0 % 2 ^ 32 * 2 ^ 32 +
    r.nonce.toNat * 2 ^ 64 + r.bundleId.toNat * 2 ^ 128 + eph.toNat * 2 ^ 192 + wrapped.toNat * 2 ^ 968)

/-- EXPORT_AUTH: refused unless the job is PREEMPTED. -/
def setExportAuth (s : State) (p : Nat) (r : ExportRequest) : Written :=
  let P := s.parcel p
  if P.ctl.job ≠ .preempted || P.sec.exporting.isSome || !exportOk s p r || !s.cart.keysAlive then refuse s
  else
    let key := Config.random256 s.fresh
    let eph := s.fresh + 1
    let header := exportHeader r (Config.publicPoint eph)
      (Config.wrapKey r.dkPublic r.nonce r.serial r.parcel r.bundleId eph key)
    let s := drawn (drawn s)
    let s := modSec s p fun c =>
      { c with exporting := if r.regions.isEmpty then none else some { request := r, key := key, chunk := 0, region := 0, pos := 0 } }
    (.ok, s.send (.exportHeader p r.address header (P.sec.tdi = .run)))

def execExportAuth (who : Principal) (p : ParcelId) (request : ExportRequest) (s : State) : Host.Outcome State Fault Refusal :=
  answer who (0x8010 + p) 0x08 s (tenantWrite who p s (setExportAuth s p request))

/-- EXPORT_CHUNK: the next chunk is encrypted and written to host memory, and both keys are destroyed with the last one. A
read that the network refuses, or an uncorrectable granule, which is logged, ends the export. -/
def execExportChunk (p : ParcelId) (s : State) : Host.Outcome State Fault Refusal :=
  match (s.parcel p).sec.exporting with
  | none => .next s
  | some x =>
    if !hostOpen s p then .next s
    else
      match x.request.regions[x.region]? with
      | none => .next (modSec s p fun c => { c with exporting := none })
      | some (base, len) =>
        let n := min 0x100000 (len - x.pos)
        match rangeCut s p (base + x.pos) n, stewardRead s p 5 (base + x.pos) n false with
        | some k, _ => .next (endTransfer s k)
        | none, (s, .error _) => .next (modSec s p fun c => { c with exporting := none })
        | none, (s, .ok plain) =>
          let cipher := cryptChunk x.key x.chunk plain
          let tag := Config.gcmTag x.key x.chunk (chunkAad x.request.nonce x.request.bundleId x.chunk 0 (base + x.pos) n) cipher
          let s := s.send (.exportChunk p x.chunk (base + x.pos) n cipher tag ((s.parcel p).sec.tdi = .run))
          let done : Bool := len ≤ x.pos + n
          let x' := { x with chunk := x.chunk + 1, region := if done then x.region + 1 else x.region,
                             pos := if done then 0 else x.pos + n }
          .next (modSec s p fun c =>
            { c with exporting := if x.request.regions.length ≤ x'.region then none else some x' })

/-! ### Device interfaces (R329) -/

/-- A locked or running interface goes to ERROR, and its job is stopped as by STOP. -/
def interfaceError (s : State) (p : Nat) : State :=
  let t := (s.parcel p).sec.tdi
  if t = .locked || t = .run then stopJob (modSec s p fun c => { c with tdi := .error }) p else s

/-- IDE_STREAM_INSECURE: the stream of a function, or the link stream, leaves the secure state. -/
def execIdeStreamInsecure (fn : Option ParcelId) (s : State) : Host.Outcome State Fault Refusal :=
  match fn with
  | none => .next { s with cart := { s.cart with linkIde := false, linkKey := 0 } }
  | some p => .next (interfaceError (modSec s p fun c => { c with ideSecure := false, ideKey := 0 }) p)

/-! ### Clearance certificates (R340, R341, Table 13.10) -/

/-- The body of the certificate of parcel p, with the tick at which it becomes FREE and the epoch of the alias key. -/
def certBody (s : State) (p : Nat) (tamper : Bool) (cleared : Nat) (epoch : BitVec 32) : BitVec 1024 :=
  let P := s.parcel p
  let chans := P.ctl.mask.toNat
  let n := (maskBits P.ctl.mask).length
  let pairs := ((maskBits P.ctl.mask).flatMap sectorChannels).foldl (fun a c => a + (s.channel c).retiredPairs.length) 0
  BitVec.ofNat 1024 (1 + p % 16 * 2 ^ 8 + (if tamper then 2 ^ 12 else 0) + chans * 2 ^ 16 +
    P.sec.sealSerial.toNat * 2 ^ 32 + P.sec.sealNonce.toNat * 2 ^ 64 + P.sec.releaseTick % 2 ^ 48 * 2 ^ 128 +
    cleared % 2 ^ 48 * 2 ^ 176 + 24 * n * 2 ^ 224 + pairs % 2 ^ 16 * 2 ^ 240 +
    fld P.ctl.teardownRecord.toNat 0 48 * 2 ^ 256 + Config.moduleSerial.toNat * 2 ^ 320 + epoch.toNat * 2 ^ 384)

/-- The newest 16 certificates; of more, the oldest without TAMPER goes first (R341). -/
def keepCerts (l : List Cert) : List Cert :=
  if l.length ≤ 16 then l
  else
    match l.reverse.find? fun x => !tamperCert x with
    | some x => (l.reverse.erase x).reverse
    | none => l.take 16

/-- Issue a certificate: signed by the alias key, or unsigned where it carries TAMPER. -/
def issueCert (s : State) (p : Nat) (body : BitVec 1024) (tamper : Bool) : State :=
  let sig : BitVec 768 := if tamper then 0
    else Config.aliasSign s.cart.aliasEpoch (Config.sha384 (bytesOfNat body.toNat 128)) s.fresh
  let cert : Cert := { body := body, signature := sig }
  let s := if tamper then s else drawn s
  let s := { s with cart :=
    { s.cart with
        clearance := keepCerts (cert :: s.cart.clearance)
        certsIssued := min (s.cart.certsIssued + 1) 0xFFFFFFFF } }
  modSec s p fun c => { c with cert := some cert }

/-! ### Tamper (R345 to R347) -/

/-- The bit of a source (Table 13.13). -/
def tamperBit : TamperSource → Nat
  | .meshOpen => 0 | .meshShort => 1 | .voltage => 2 | .clock => 3 | .temperature => 4 | .light => 5

/-- Idle sleep: V48 absent, V3P3_SB present. -/
def idleSleep (s : State) : Bool := !s.supply.v48 && s.supply.v3p3

/-- Every key is overwritten, and with it what a key operation had begun (R319, R346). -/
def zeroise (s : State) : State :=
  let s := { s with cart :=
    { s.cart with keysAlive := false, sessions := [], linkIde := false, linkKey := 0, chunks := [], held := [] } }
  (List.range 16).foldl (fun s p =>
    modSec s p fun c =>
      { c with dk := 0, ideSecure := false, ideKey := 0, exporting := none
               delivery := c.delivery.map fun d => { d with key := 0 } }) s

/-- The response in service (Table 13.14) for one parcel. -/
def tamperParcel (s : State) (p : Nat) : State :=
  let s := cutDelivery s p 0x0A 4
  let s := stopJob (modSec s p fun c => { c with tdi := .error }) p
  if (s.parcel p).ctl.mode = .free then s
  else (s.modCtl p fun k => { k with pendingRelease := true }).modParcel p fun P =>
    { P with sec := { P.sec with tamperRelease := true } }

/-- The bits of the states that a tamper event meets (Table 13.13): before release, idle sleep, a key operation, service
outside one; every one that applies (R347). -/
def tamperWhere (s : State) (keyOp : Bool) : List Nat :=
  (if idleSleep s then [7] else if !s.mer.started then [6] else if !keyOp then [9] else []) ++ (if keyOp then [8] else [])

/-- The module holds in quarantine (R322): the optical engines are dark. -/
def quarantine (s : State) (result : Nat) : State :=
  { s with cart := { s.cart with result := result }, ports := Tab.update Port.init (fun _ P => { P with mode := .dark }) s.ports }

/-- TAMPER_EVENT: the sources that fire, and whether a key operation runs. -/
def execTamperEvent (sources : List TamperSource) (keyOp : Bool) (s : State) : Host.Outcome State Fault Refusal :=
  if sources.isEmpty || !s.supply.v3p3 then .next s
  else
    let sleep := idleSleep s
    let service := isReleased s && !sleep
    let bits := (sources.map tamperBit ++ tamperWhere s keyOp).foldl (fun (a : BitVec 32) i => a ||| ((1 : BitVec 32) <<< i)) 0
    let s := { s with cart :=
      { s.cart with
          tamper := s.cart.tamper ||| bits
          tamperTick := if s.cart.tamperSeen then s.cart.tamperTick else if s.mer.started && !sleep then s.now else 0
          tamperSeen := true } }
    if sleep then .next (zeroise s)
    else if service then .next (quarantine (zeroise ((List.range 16).foldl tamperParcel s)) 4)
    else if s.cart.result = 0 then .next (quarantine (zeroise s) 4)
    else .next (zeroise s)

end Sys2Proof.Machine
end

