-- ==== Sys2Proof/Machine/Clocks.lean ====
section
/-! DEFINITION. Clock references and domains (16_clocks_startup.md R390 to R407): failures of references, coasting,
ordinary and forced switches, crossings, spread spectrum and clock gates.
Readings and choices: log entry 53. -/

namespace Sys2Proof.Machine

/-! ### Domains (Table 16.2) -/

def domainExists (n : Nat) : Bool := n ≤ 4 || (0x10 ≤ n && n ≤ 0x2B) || (0x30 ≤ n && n ≤ 0x3F)
def isNet (n : Nat) : Bool := n = 2 || n = 3
def isSect (n : Nat) : Bool := 0x10 ≤ n && n ≤ 0x1F
def isStk (n : Nat) : Bool := 0x20 ≤ n && n ≤ 0x2B
def isOpt (n : Nat) : Bool := 0x30 ≤ n && n ≤ 0x3F
def hasPll (n : Nat) : Bool := isNet n || isSect n || isStk n || isOpt n
def hasMux (n : Nat) : Bool := n = 1 || hasPll n

/-- The die that a NET, SECT or STK domain lies on. -/
def domainDie (n : Nat) : Nat := if isNet n then n - 2 else if isSect n then (n - 0x10) / 8 else (n - 0x20) / 6

/-- A record with SOURCE 8. -/
def clockRecord (s : State) (code inst sub detail : Nat) : State := s.logEvent code 8 inst none sub detail

/-- Parcels whose resources lie in a domain, by the rule of R394. -/
def domainParcels (s : State) (n : Nat) : List Nat :=
  (List.range 16).filter fun p =>
    let c := (s.parcel p).ctl
    c.mode ≠ .free && (maskBits c.mask).any fun k =>
      if isSect n then k = n - 0x10 else if isStk n || isNet n then k / 8 = domainDie n else false

/-- A parcel counts as coasting in the tick in progress (R394). -/
def parcelCoasts (s : State) (p : Nat) : Bool :=
  s.clocks.domains.any fun x => (x.2.coastTick || x.2.coasting) && (domainParcels s x.1).contains p

/-! ### Failure of a reference (R391, R400, R401) -/

/-- Every stack is in hot mode while the timebase counts the oscillator (R401). -/
def holdHot (s : State) : State :=
  if timebaseFree s then
    { s with stackModes := (List.range 12).foldl (fun t k => Tab.set StackMode.init t k { hot := true, coolTicks := 0 }) s.stackModes }
  else s

/-- Celulo state, staging lines and clear queues of a stack (Table 16.4, STK reset). -/
def resetStack (s : State) (k : Nat) : State :=
  let s := { s with lines := s.lines.filter fun x => x.1 % 12 ≠ k }
  (List.range 32).foldl (fun s i =>
    (clearUnits s (k * 32 + i)).modChannel (k * 32 + i) fun K => { K with clearQueue := [] }) s

/-- Tile state of a sector, as in a teardown (Table 16.4, SECT reset). -/
def resetSector (s : State) (k : Nat) : State := (List.range 32).foldl (fun s i => s.modTile (k * 32 + i) clearTile) s

/-- What a domain reset zeroes; TICK and bank contents are kept. -/
def zeroDomain (s : State) (n : Nat) : State :=
  if isSect n then resetSector s (n - 0x10) else if isStk n then resetStack s (n - 0x20) else s

/-- Transfers of the jobs in a domain that its reset ends: runs, posts and launches under way. -/
def transfersOf (s : State) (p : Nat) : Nat :=
  let ts := s.tilesOf p
  ts.foldl (fun a t => a + ((s.tile t).engines.map fun e => (e.2.chans.map fun c => c.2.runs.length).foldl (· + ·) 0).foldl (· + ·) 0) 0 +
  (s.posts.filter fun q => ts.contains q.srcTile).length + (s.launches.filter fun l => ts.contains l.launch.tile).length

/-- The forced path begins (R399): domain reset, crossings DISCONNECTED, the new reference. `sub` 0 operator, 1 monitor,
2 watchdog; the watchdog stops the jobs in the domain. -/
def forcePath (s : State) (n target sub : Nat) : State :=
  let ps := if sub = 2 then (domainParcels s n).filter fun p => jobLive (s.parcel p) else []
  let ended := ps.foldl (fun a p => a + transfersOf s p) 0
  let s := ps.foldl stopJob s
  let s := zeroDomain s n
  let s := modDomain s n fun d =>
    { d with state := if sub = 2 then 5 else 4, ref := target, target := target, locked := false, coasting := false,
             disconnected := true, resets := min (d.resets + 1) 0xFFFFFFFF, switchResult := 0, ended := d.ended + ended }
  let s := { s with clocks := { s.clocks with forcedSwitches := min (s.clocks.forcedSwitches + 1) 0xFFFFFFFF } }
  clockRecord s 0x183 n sub target

/-- REF_DEAD: the declaration, its record, and the automatic forced path of TIMEBASE and OPT domains. -/
def execRefDead (ref : Fin 2) (s : State) : Host.Outcome State Fault Refusal :=
  if refMode s ref = .dead then .next s
  else
    let s := { s with clocks :=
      if ref.val = 0 then { s.clocks with refA := .dead, deadTickA := s.now }
      else { s.clocks with refB := .dead, deadTickB := s.now } }
    let s := clockRecord s 0x180 0xFFFF ref 0
    let other := 1 - ref.val
    if refMode s other ≠ .alive then .next (holdHot s)
    else
      .next ((s.clocks.domains.filter fun x =>
          (x.1 = 1 || isOpt x.1) && x.2.ref = ref.val && x.2.state ≠ 0 && x.2.state ≠ 4 && x.2.state ≠ 5).foldl
        (fun s x => forcePath s x.1 other 1) s)

/-- REF_CLEAR (R391): `goodUs` is how long the reference has run within its limits. -/
def setRefClear (s : State) (v goodUs : Nat) : Written :=
  if 2 ^ 8 ≤ v then (.type, s)
  else if v ≠ 1 && v ≠ 2 then refuse s
  else if refMode s (v - 1) ≠ .dead then (.ok, s)
  else if goodUs < 10000 then refuse s
  else
    let tick := if v = 1 then s.clocks.deadTickA else s.clocks.deadTickB
    let s := { s with clocks := if v = 1 then { s.clocks with refA := .alive } else { s.clocks with refB := .alive } }
    (.ok, clockRecord s 0x181 0xFFFF (v - 1) tick)

def execRefClear (who : Principal) (value : Nat) (goodUs : Nat) (s : State) : Host.Outcome State Fault Refusal :=
  answer who 0x2000 0x02 s (operatorOnly who false false s (setRefClear s value goodUs))

/-- PLL_COAST (R393). -/
def execPllCoast (d : DomainId) (s : State) : Host.Outcome State Fault Refusal :=
  if !domainExists d then .fault .noSuchInstance
  else
    let D := domain s d
    if !hasPll d || D.coasting || D.state = 0 || D.state = 4 || D.state = 5 then .next s
    else
      .next (clockRecord (modDomain s d fun D =>
        { D with state := if D.state = 2 then 2 else 3, coasting := true, coasted := true, coastTick := true, locked := false })
        0x182 d D.ref 0)

/-! ### Switches (R397 to R400) -/

/-- The state of a domain that runs again: gated where its own node is stopped. -/
def runningState (D : Domain) : Nat := if D.coasting then 3 else if D.ownGate then 6 else 1

def refuseSwitch (s : State) (n r : Nat) : Written := (.refused, modDomain s n fun D => { D with switchResult := r })

/-- REF_SEL (R397). A domain that is off, switching or in reset takes no switch. -/
def setRefSel (s : State) (n v : Nat) : Written :=
  let D := domain s n
  if 2 ^ 8 ≤ v then (.type, s)
  else if 1 < v then refuse s
  else if !hasMux n then refuseSwitch s n 3
  else if refMode s v ≠ .alive then refuseSwitch s n 1
  else if refMode s D.ref = .dead || D.coasting then refuseSwitch s n 2
  else if D.state = 0 || D.state = 2 || D.state = 4 || D.state = 5 then refuse s
  else if D.ref = v then (.ok, modDomain s n fun D => { D with switchResult := 0, target := v })
  else (.ok, modDomain s n fun D => { D with state := 2, target := v, switchResult := 0 })

/-- An object of a domain that the part has, for the operator. -/
def domainObject (who : Principal) (n sub : Nat) (s : State) (w : Written) : Host.Outcome State Fault Refusal :=
  answer who (0x2100 + n) sub s (if domainExists n then operatorOnly who false false s w else (.absent, s))

def execRefSel (who : Principal) (d : DomainId) (value : Nat) (s : State) : Host.Outcome State Fault Refusal :=
  domainObject who d 0x02 s (setRefSel s d value)

/-- SWITCH_COMPLETE: the multiplexer has seen both low phases, which a dead reference never shows. -/
def execSwitchComplete (d : DomainId) (s : State) : Host.Outcome State Fault Refusal :=
  if !domainExists d then .fault .noSuchInstance
  else
    let D := domain s d
    if D.state ≠ 2 || refMode s D.ref = .dead || refMode s D.target = .dead then .next s
    else .next (modDomain s d fun D => { D with ref := D.target, state := runningState D })

/-- SWITCH_HUNG (R398): the watchdog takes the forced path. -/
def execSwitchHung (d : DomainId) (s : State) : Host.Outcome State Fault Refusal :=
  if !domainExists d then .fault .noSuchInstance
  else if (domain s d).state ≠ 2 then .next s
  else .next (forcePath s d (domain s d).target 2)

/-- FORCE_SWITCH (R400), for NET, SECT and STK domains without a live job. -/
def setForceSwitch (s : State) (n v : Nat) : Written :=
  if 2 ^ 8 ≤ v then (.type, s)
  else if 1 < v then refuse s
  else if !(isNet n || isSect n || isStk n) then refuseSwitch s n 3
  else if (domainParcels s n).any fun p => let j := (s.parcel p).ctl.job; j ≠ .none && j ≠ .tornDown then refuseSwitch s n 3
  else (.ok, forcePath s n v 0)

def execForceSwitch (who : Principal) (d : DomainId) (value : Nat) (s : State) : Host.Outcome State Fault Refusal :=
  domainObject who d 0x03 s (setForceSwitch s d value)

/-- FORCED_SWITCH_DONE: the PLL has relocked, and the domain reset is released. -/
def execForcedSwitchDone (d : DomainId) (s : State) : Host.Outcome State Fault Refusal :=
  if !domainExists d then .fault .noSuchInstance
  else
    let D := domain s d
    if D.state ≠ 4 && D.state ≠ 5 then .next s
    else .next (modDomain s d fun D => { D with state := runningState D, locked := hasPll d })

/-- CROSSING_REARM (R406, R407): both sides are out of reset and have exchanged ARM. -/
def execCrossingRearm (d : DomainId) (s : State) : Host.Outcome State Fault Refusal :=
  if !domainExists d then .fault .noSuchInstance
  else
    let D := domain s d
    if !D.disconnected || D.state = 4 || D.state = 5 then .next s
    else .next (clockRecord (modDomain s d fun D => { D with disconnected := false, ended := 0 }) 0x184 d 0 D.ended)

/-! ### Spread spectrum (R395) -/

/-- SSC_CONFIG (Table 16.11): the reserved bits [15:8] are ignored. -/
def setSsc (s : State) (v : Nat) : Written :=
  if 2 ^ 16 ≤ v then (.type, s)
  else if 10 < fld v 0 4 || 6 < fld v 4 4 || (List.range 16).any (fun p => (s.parcel p).ctl.mode = .sealed) then
    refuse s
  else (.ok, { s with clocks := { s.clocks with pendingSsc := some (BitVec.ofNat 16 (v % 2 ^ 8)) } })

def execSscConfig (who : Principal) (value : Nat) (s : State) : Host.Outcome State Fault Refusal :=
  answer who 0x2000 0x03 s (operatorOnly who false false s (setSsc s value))

/-! ### Gates (R402, R403) -/

/-- The node exists in the domain. -/
def gateExists (n : Nat) : GateNode → Bool
  | .tile k => isSect n && k < 32
  | .steward => isSect n
  | .own => hasPll n

/-- The node is stopped. -/
def gateStopped (D : Domain) : GateNode → Bool
  | .tile k => D.tileGates.getLsbD k
  | .steward => D.stewardGate
  | .own => D.ownGate

def setGate (D : Domain) (stop : Bool) : GateNode → Domain
  | .tile k =>
    let m : BitVec 32 := (1 : BitVec 32) <<< k
    { D with tileGates := if stop then D.tileGates ||| m else D.tileGates &&& ~~~m }
  | .steward => { D with stewardGate := stop }
  | .own =>
    { D with ownGate := stop, state := if stop && D.state = 1 then 6 else if !stop && D.state = 6 then 1 else D.state }

/-- GATE_RESULT of a stop: "in use" and "a child is open" by Table 16.3. -/
def gateStopResult (s : State) (n : Nat) (node : GateNode) : Nat :=
  let D := domain s n
  if !gateExists n node then 5
  else if isNet n || isStk n then 3
  else if gateStopped D node then 4
  else
    match node with
    | .own =>
      if isSect n then (if D.tileGates = 0xFFFFFFFF && D.stewardGate then 0 else 1)
      else
        let P := Tab.get Port.init s.ports (n - 0x30)
        if P.owner ≠ 0xFE || P.mode ≠ .dark then 2 else 0
    | _ => if (sectorOwner s (n - 0x10)).isSome then 2 else 0

def gateStartResult (s : State) (n : Nat) (node : GateNode) : Nat :=
  if !gateExists n node then 5 else if gateStopped (domain s n) node then 0 else 4

/-- A gate request: the result is recorded, and a refused one changes nothing else. -/
def setGateRequest (s : State) (n : Nat) (node : GateNode) (stop : Bool) : Written :=
  let r := if stop then gateStopResult s n node else gateStartResult s n node
  let s := modDomain s n fun D => { D with gateResult := r }
  if r = 0 then (.ok, modDomain s n fun D => setGate D stop node)
  else if r = 4 then (.ok, s) else (.refused, s)

def execGateStop (who : Principal) (d : DomainId) (node : GateNode) (s : State) : Host.Outcome State Fault Refusal :=
  domainObject who d 0x04 s (setGateRequest s d node true)

def execGateStart (who : Principal) (d : DomainId) (node : GateNode) (s : State) : Host.Outcome State Fault Refusal :=
  domainObject who d 0x04 s (setGateRequest s d node false)

/-- Every gate of a sector opens (R403). -/
def openGates (s : State) (k : Nat) : State :=
  modDomain s (0x10 + k) fun D => { D with tileGates := 0, stewardGate := false, ownGate := false, state := if D.state = 6 then 1 else D.state }

end Sys2Proof.Machine
end

