-- ==== Sys2Proof/Machine/RhumbLink.lean ====
section
/-! DEFINITION. The link layer of the Rhumb ports (15_rhumb_links.md R370 to R375): flits, acknowledgements, credits and
replay, port states and training, and the binding of ports (R371).
Readings and choices: log entries 54, 55, 57 and 58. -/

namespace Sys2Proof.Machine

def port (s : State) (q : Nat) : Port := Tab.get Port.init s.ports q
def modPort (s : State) (q : Nat) (f : Port → Port) : State :=
  { s with ports := Tab.set Port.init s.ports q (f (port s q)) }
def lampOf (q : Nat) : Nat := q / 4
def lamp (s : State) (m : Nat) : Lamp := Tab.get Lamp.init s.lamps m
def modLamp (s : State) (m : Nat) (f : Lamp → Lamp) : State :=
  { s with lamps := Tab.set Lamp.init s.lamps m (f (lamp s m)) }

/-- The parcel that a port is bound to. -/
def portParcel (P : Port) : Option Nat := if P.owner < 16 then some P.owner else none

/-- A record with SOURCE 7. -/
def linkRecord (s : State) (code q sub detail : Nat) : State :=
  s.logEvent code 7 q (portParcel (port s q)) sub detail

/-! ### CRC-32 (IEEE 802.3 polynomial) -/

/-- One bit step of the reflected register. -/
def crcBit (c : BitVec 32) : BitVec 32 := if c.getLsbD 0 then (c >>> 1) ^^^ 0xEDB88320 else c >>> 1

/-- One byte. -/
def crcByte (c : BitVec 32) (b : Byte) : BitVec 32 :=
  crcBit (crcBit (crcBit (crcBit (crcBit (crcBit (crcBit (crcBit (c ^^^ b.setWidth 32))))))))

/-- CRC-32 of a run of bytes, register all ones at the start and complemented at the end. -/
def crc32 (bytes : List Byte) : BitVec 32 := ~~~(bytes.foldl crcByte 0xFFFFFFFF)

/-! ### Flits (Table 15.1) -/

/-- The 256 B body of a flit: missing bytes are 0. -/
def bodyBytes (body : List Byte) : List Byte := (body ++ List.replicate 256 0).take 256

/-- The CRC that a header and body must carry. -/
def flitCrc (header : BitVec 128) (body : List Byte) : BitVec 32 := crc32 (bytesOfNat (header.toNat % 2 ^ 96) 12 ++ bodyBytes body)

/-- The header that a port sends with a flit. -/
def flitHeader (P : Port) (kind seq tag gmask : Nat) (body : List Byte) : BitVec 128 :=
  let low := kind + seq % 4096 * 2 ^ 8 + (P.rxSeq + 4095) % 4096 * 2 ^ 20 + min P.freed 1023 * 2 ^ 32 +
    P.rxLos.toNat * 2 ^ 42 + (if P.replayReq then 2 ^ 50 else 0) + tag % 2 ^ 24 * 2 ^ 64 +
    gmask % 16 * 2 ^ 88
  BitVec.ofNat 128 (low + (flitCrc (BitVec.ofNat 128 low) body).toNat * 2 ^ 96)

/-- Send one flit on a port: its header returns the credits freed so far. -/
def sendFlit (s : State) (q kind seq tag gmask : Nat) (body : List Byte) : State :=
  let P := port s q
  (modPort s q fun P => { P with freed := P.freed - 1023, parked := false }).send
    (.flit q (flitHeader P kind seq tag gmask body) (bodyBytes body))

/-- Send what waits while credits and the window allow; at 1,024 unacknowledged flits an idle flit goes instead (R373,
R374). -/
def pump (s : State) (q : Nat) : Nat → State
  | 0 => s
  | n + 1 =>
    let P := port s q
    match P.txWait with
    | [] => s
    | f :: rest =>
      if P.mode ≠ .active then s
      else if 1024 ≤ P.unacked.length then sendFlit s q 0 0 0 0 []
      else if P.credits = 0 then s
      else
        let f := { f with seq := P.txSeq }
        let s := modPort s q fun P =>
          { P with txWait := rest, unacked := P.unacked ++ [f], txSeq := (P.txSeq + 1) % 4096, credits := P.credits - 1 }
        pump (sendFlit s q f.kind f.seq f.tag f.gmask f.body) q n

/-- Queue flits on a port and send what can go. -/
def queueFlits (s : State) (q : Nat) (fs : List TxFlit) : State :=
  let s := modPort s q fun P => { P with txWait := P.txWait ++ fs }
  pump s q (port s q).txWait.length

/-- A control flit that carries one record; the other seven places are 0. -/
def controlFlit (record : BitVec 256) : TxFlit :=
  { kind := 2, seq := 0, tag := 0, gmask := 0, body := bytesOfNat record.toNat 32 }

/-- The data flits of an operation: up to four granules each. -/
def dataFlits (tag : Nat) (bytes : List Byte) : List TxFlit :=
  (chunks 256 bytes.length bytes).map fun b =>
    { kind := 1, seq := 0, tag := tag, gmask := 2 ^ (b.length / 64) - 1, body := b }

/-! ### Leaving ACTIVE (R375, R380) -/

/-- An operation of parcel p completes with a status (R380): 0 OK, 1 REFUSED, 2 UNCORRECTABLE, 3 LINK_LOST, 4 BAD_HEADER;
`q` is the port that carried it. -/
def completeOp (s : State) (p : Nat) (op : RemoteOp) (q tag status : Nat) : State :=
  let w := op.entry.toNat
  let s := if bitAt w 5 then
      s.modParcel p fun P =>
        { P with remote :=
            { P.remote with
                counters := Tab.modify RemoteCounter.zero P.remote.counters (fld w 302 6) fun c => { c with arrived := c.arrived + 1 } } }
    else s
  if status = 0 then s
  else
    let newly := !(s.parcel p).remote.fault
    let s := s.modParcel p fun P => { P with remote := { P.remote with fault := true, errors := P.remote.errors + 1 } }
    let s := s.logEvent 0x106 7 q (some p) status tag
    if newly then s.raise (1 + p) 9 else s

/-- Every operation outstanding on a port completes with LINK_LOST. -/
def loseOps (s : State) (q : Nat) : State :=
  (List.range 16).foldl (fun s p =>
    let outs := (s.parcel p).remote.out
    let s := s.modParcel p fun P => { P with remote := { P.remote with out := P.remote.out.filter fun x => x.port ≠ q } }
    (outs.filter fun x => x.port = q).foldl (fun s x => completeOp s p x.op q x.tag 3) s) s

def opsOn (s : State) (q : Nat) : Nat :=
  (List.range 16).foldl (fun a p => a + ((s.parcel p).remote.out.filter fun x => x.port = q).length) 0

/-- A port takes a new state; one that leaves ACTIVE loses its operations and its link-layer state, and writes a LINK_DOWN
record with `sub` (Table 15.8); its PLDM sensor reports the change (R453). -/
def setPortMode (s : State) (q : Nat) (m : PortMode) (sub : Nat) : State :=
  let P := port s q
  let s := if P.mode = m then s else sensorEvent s (64 + q) m.code
  if P.mode = m then s
  else if P.mode = .active then
    let n := opsOn s q
    let s := modPort s q fun P =>
      { P with mode := m, linkDowns := min (P.linkDowns + 1) 0xFFFFFFFF, txSeq := 0, unacked := [], txWait := [],
               credits := 1024, rxSeq := 0, replayReq := false, freed := 0, rxOps := [], parked := false }
    loseOps (linkRecord s 0x101 q sub n) q
  else modPort s q fun P => { P with mode := m, lit := if m = .waitLight then 0 else P.lit }

/-! ### Receiving (R373) -/

/-- Drop the acknowledged flits: those up to the one numbered `ack`. -/
def acked (ack : Nat) (fs : List TxFlit) : List TxFlit :=
  if fs.any fun f => f.seq = ack then (fs.dropWhile fun f => f.seq ≠ ack).drop 1 else fs

/-- Resend every flit that is not acknowledged; more than 64 replays in a tick send the port to TRAINING. -/
def replay (s : State) (q : Nat) : State :=
  let s := modPort s q fun P => { P with replays := P.replays + 1, tickReplays := P.tickReplays + 1 }
  if 64 < (port s q).tickReplays then setPortMode s q .training 0
  else (port s q).unacked.foldl (fun s f => sendFlit s q f.kind f.seq f.tag f.gmask f.body) s

/-- What a good header brings: acknowledgement, credits, the peer's loss of signal, a replay. -/
def takeHeader (s : State) (q : Nat) (h : BitVec 128) : State :=
  let w := h.toNat
  let s := modPort s q fun P =>
    { P with unacked := acked (fld w 20 12) P.unacked, credits := P.credits + fld w 32 10, peerLos := BitVec.ofNat 8 (fld w 42 8) }
  if (port s q).mode ≠ .active then s
  else
    let s := if bitAt w 50 then replay s q else s
    pump s q (port s q).txWait.length

/-- FEC counts and the CRC check: the state, and whether the flit stands. A bad flit asks for a replay. -/
def checkFlit (s : State) (q : Nat) (h : BitVec 128) (body : List Byte) (fecBad : Bool) (fecCorrected : Nat) : State × Bool :=
  let s := modPort s q fun P =>
    { P with fecCorrected := P.fecCorrected + fecCorrected, fecUncorrectable := P.fecUncorrectable + (if fecBad then 1 else 0) }
  if fecBad || (flitCrc h body).toNat ≠ fld h.toNat 96 32 then
    (modPort s q fun P => { P with replayReq := P.mode = .active }, false)
  else (s, true)

/-- A data or control flit in sequence is handed up; any other is dropped until the expected one arrives. -/
def takeSequenced (s : State) (q : Nat) (h : BitVec 128) (handUp : State → State) : State :=
  if (port s q).mode ≠ .active then s
  else if fld h.toNat 8 12 ≠ (port s q).rxSeq then modPort s q fun P => { P with replayReq := true }
  else handUp (modPort s q fun P => { P with rxSeq := (P.rxSeq + 1) % 4096, replayReq := false, freed := P.freed + 1 })

/-- An idle flit, which returns an acknowledgement and credits. -/
def sendIdle (s : State) (q : Nat) : State := if (port s q).mode = .active then sendFlit s q 0 0 0 0 [] else s

/-- Every flit received: a DARK port ignores its peer (R321); any other checks it, and a good header brings what it
brings before `more` happens. -/
def receive (s : State) (q : Nat) (h : BitVec 128) (body : List Byte) (fecBad : Bool) (fecCorrected : Nat)
    (more : State → State) : Host.Outcome State Fault Refusal :=
  if (port s q).mode = .dark then .next s
  else
    let (s, ok) := checkFlit s q h body fecBad fecCorrected
    .next (if ok then more (takeHeader s q h) else s)

def execIdleFlit (q : PortId) (header : BitVec 128) (body : List Byte) (fecBad : Bool) (fecCorrected : Nat) (s : State) :
    Host.Outcome State Fault Refusal :=
  receive s q header body fecBad fecCorrected fun s => s

/-- The granules of a body that GMASK marks, in address order. -/
def markedGranules (gmask : Nat) (body : List Byte) : List Byte :=
  (List.range 4).flatMap fun i => if bitAt gmask i then ((bodyBytes body).drop (64 * i)).take 64 else []

/-- Bytes of data that a received record still owes: an RPUT its LEN, a good RESPONSE to an RGET the LEN of the request. -/
def dataOwed (s : State) (q : Nat) (x : RxOp) : Nat :=
  let w := x.record.toNat
  let want :=
    if fld w 0 4 = 0 then fld w 80 32
    else if fld w 0 4 = 8 && fld w 12 4 = 0 then
      ((List.range 16).findSome? fun p =>
        (((s.parcel p).remote.out.find? fun y => y.port = q && y.tag = fld w 16 24).map fun y =>
          if fld y.op.entry.toNat 0 4 = 1 then fld y.op.entry.toNat 80 32 else 0)).getD 0
    else 0
  want - x.data.length

/-- Append data to the oldest record with its tag that owes some. -/
def giveData (s : State) (q tag : Nat) (data : List Byte) : List RxOp → List RxOp
  | [] => []
  | x :: xs =>
    if fld x.record.toNat 16 24 = tag && 0 < dataOwed s q x then { x with data := x.data ++ data } :: xs
    else x :: giveData s q tag data xs

def execDataFlit (q : PortId) (header : BitVec 128) (body : List Byte) (fecBad : Bool) (fecCorrected : Nat) (s : State) :
    Host.Outcome State Fault Refusal :=
  receive s q header body fecBad fecCorrected fun s =>
    sendIdle (takeSequenced s q header fun s =>
      modPort s q fun P =>
        { P with rxOps := giveData s q (fld header.toNat 64 24) (markedGranules (fld header.toNat 88 4) body) P.rxOps }) q

/-- The eight records of a control flit; a place that is all 0 holds none. -/
def recordsOf (body : List Byte) : List (BitVec 256) :=
  ((List.range 8).map fun i => BitVec.ofNat 256 (natOfBytes (((bodyBytes body).drop (32 * i)).take 32))).filter (· ≠ 0)

/-- A RESPONSE record (Table 15.2). -/
def responseRecord (tag status : Nat) (operand : Nat) : BitVec 256 :=
  BitVec.ofNat 256 (8 + status % 16 * 2 ^ 12 + tag % 2 ^ 24 * 2 ^ 16 + operand % 2 ^ 64 * 2 ^ 112)

/-- Answer a request: its RESPONSE, with data after it. -/
def sendResponse (s : State) (q tag status operand : Nat) (data : List Byte) : State :=
  queueFlits s q (controlFlit (responseRecord tag status operand) :: dataFlits tag data)

/-- A record handed up: one whose code is none of Table 15.2 is answered with BAD_HEADER at once. -/
def handRecord (q : Nat) (s : State) (r : BitVec 256) : State :=
  let op := fld r.toNat 0 4
  if op ≤ 3 || op = 8 then modPort s q fun P => { P with rxOps := P.rxOps ++ [{ record := r, data := [] }] }
  else sendResponse s q (fld r.toNat 16 24) 4 0 []

def execControlFlit (q : PortId) (header : BitVec 128) (body : List Byte) (fecBad : Bool) (fecCorrected : Nat) (s : State) :
    Host.Outcome State Fault Refusal :=
  receive s q header body fecBad fecCorrected fun s =>
    sendIdle (takeSequenced s q header fun s => (recordsOf body).foldl (handRecord q) s) q

/-- LINK_MANAGEMENT_FLIT: in IDENTIFY it carries the peer's serial and port. The own ones went out when the port entered
IDENTIFY (`identify`), so the port becomes ACTIVE. -/
def execLinkManagementFlit (q : PortId) (header : BitVec 128) (body : List Byte) (fecBad : Bool) (fecCorrected : Nat)
    (identify : Option (BitVec 64 × Nat)) (s : State) : Host.Outcome State Fault Refusal :=
  receive s q header body fecBad fecCorrected fun s =>
    match identify with
    | none => s
    | some (serial, n) =>
      if (port s q).mode ≠ .identify then s
      else
        let s := setPortMode (modPort s q fun P => { P with peerSerial := serial, peerPort := n }) q .active 0
        linkRecord s 0x100 q (if (port s q).wide then 8 else 4) serial.toNat

/-! ### Training (R375, R412) -/

/-- The port enters IDENTIFY with its width, and sends its own link-management flit (KIND 3): the module's serial and the
port's number (R375). -/
def identify (s : State) (q : Nat) (wide half : Bool) : State :=
  sendFlit (setPortMode (modPort s q fun P => { P with wide := wide, half := half }) q .identify 0) q 3 0 0 0
    (Config.identifyBody Config.moduleSerial q)

def lampLit (s : State) (q : Nat) : Bool := (lamp s (lampOf q)).mode = .lit

/-- PORT_TRAINING_DONE: the lanes that pass at each end. -/
def execPortTrainingDone (q : PortId) (localOk peerOk : BitVec 8) (s : State) : Host.Outcome State Fault Refusal :=
  if (port s q).mode ≠ .training then .next s
  else
    let ok := localOk &&& peerOk
    let low := ok &&& 0x0F = 0x0F
    if ok = 0xFF then .next (identify s q true false)
    else if low || ok &&& 0xF0 = 0xF0 then
      .next (linkRecord (identify s q false !low) 0x102 q (~~~ok).toNat 0)
    else .next (setPortMode s q .down 0)

/-- LANE_LOSS_TIMEOUT: a lane of the port's width without clock recovery or FEC alignment for 10 us. -/
def execLaneLossTimeout (q : PortId) (lane : Fin 8) (s : State) : Host.Outcome State Fault Refusal :=
  let P := port s q
  let used : Bool := P.wide || (if P.half then 4 ≤ lane.val else lane.val < 4)
  if used && P.mode = .active then .next (setPortMode s q .training 1) else .next s

def execDownRetry (q : PortId) (s : State) : Host.Outcome State Fault Refusal :=
  if (port s q).mode = .down && lampLit s q then .next (setPortMode s q .training 0) else .next s

/-- TRAINING_PATTERN_DETECT (R412). -/
def execTrainingPatternDetect (q : PortId) (s : State) : Host.Outcome State Fault Refusal :=
  if (port s q).mode = .down && lampLit s q then .next (setPortMode s q .training 0) else .next s

def execLowPowerIdle (q : PortId) (s : State) : Host.Outcome State Fault Refusal :=
  let P := port s q
  if P.mode = .active && P.txWait.isEmpty then .next (modPort s q fun P => { P with parked := true }) else .next s

/-! ### Binding (R371) -/

def parcelDefined (s : State) (p : Nat) : Bool := (s.parcel p).ctl.mode = .defined

/-- PORT_PARCEL: a parcel that is DEFINED takes an unbound port, the operator any port, and a port is unbound while its
parcel, if it has one, is DEFINED. -/
def setPortParcel (s : State) (q v : Nat) : Written :=
  let P := port s q
  let put (s : State) : Written := (.ok, modPort s q fun P => { P with owner := v })
  if 2 ^ 8 ≤ v then (.type, s)
  else if v < 16 then (if parcelDefined s v && P.owner = 0xFE then put s else refuse s)
  else if v = 0xFF then put s
  else if v = 0xFE then
    if P.owner < 16 && !parcelDefined s P.owner then refuse s
    else put (if P.mode = .training && P.owner ≠ 0xFE then linkRecord s 0x101 q 4 0 else s)
  else refuse s

def execPortParcel (who : Principal) (q : PortId) (value : Nat) (s : State) : Host.Outcome State Fault Refusal :=
  answer who (0x6010 + q) 0x02 s (operatorOnly who false false s (setPortParcel s q value))

end Sys2Proof.Machine
end

