-- ==== Sys2Proof/Machine/RhumbOps.lean ====
section
/-! DEFINITION. Remote operations (15_rhumb_links.md R376 to R382): sending, serving at the target, and completion; and
lamp supervision (R384, R385, R387, R463).
Readings and choices: log entries 56 and 58. -/

namespace Sys2Proof.Machine

/-! ### Job groups (R376, Table 15.2) -/

def opCode (w : Nat) : Nat := fld w 0 4
def opRelease (w : Nat) : Bool := bitAt w 4
def opTag (w : Nat) : Nat := fld w 16 24
def opRemote (w : Nat) : Nat := fld w 40 40
def opLen (w : Nat) : Nat := fld w 80 32
def opOperand (w : Nat) : Nat := fld w 112 64
def opCompare (w : Nat) : Nat := fld w 176 64
def opLocal (w : Nat) : Nat := fld w 256 40
def opTarget (w : Nat) : Nat := fld w 296 6
/-- Operand width in bytes; 0 for the reserved code. -/
def opSize (w : Nat) : Nat := if fld w 10 2 = 3 then 0 else 2 * 2 ^ fld w 10 2

def memberSerial (R : Remote) (k : Nat) : Nat := fld R.table.toNat (128 * k) 64
def memberPorts (R : Remote) (k : Nat) : Nat := fld R.table.toNat (128 * k + 72) 16

/-- A length of an RPUT or an RGET. -/
def lenOk (n : Nat) : Bool := n % 64 = 0 && 64 ≤ n && n ≤ 0x1000000

/-- The record part of an operation follows Table 15.2. -/
def recordOk (w : Nat) : Bool :=
  match opCode w with
  | 0 | 1 => lenOk (opLen w) && opRemote w % 64 = 0
  | 2 => opSize w ≠ 0 && opRemote w % 64 = 0
  | 3 => fld w 112 16 ≠ 0
  | _ => false

/-- Bytes at `LOCAL` that an operation reads or writes. -/
def localBytes (w : Nat) : Nat :=
  match opCode w with
  | 0 | 1 => opLen w
  | 2 => 64
  | _ => 0

/-- Does a range lie in the parcel, on channels that serve? -/
def inParcel (s : State) (p a n : Nat) : Bool :=
  (cutRange a n).all fun x => (s.stackPlace p (x.1 * channelBytes + x.2.1)).isSome

/-- A list entry that may be sent: Table 15.2's rules, its target a member, its own range in the parcel. -/
def entryOk (s : State) (p w : Nat) : Bool :=
  recordOk w && opTarget w < (s.parcel p).remote.size && opLocal w % 64 = 0 && inParcel s p (opLocal w) (localBytes w)

/-- Granules of a range whose sector and the port lie on different dies cross the bridge (R15, R371). -/
def countPortBridge (s : State) (p q a n : Nat) : State :=
  s.count (some p) 0x13 (((cutRange a n).filterMap fun x =>
    match s.globalChannel p x.1 with
    | some c => if dieOfSector (channelSector c) = q / 8 then none else some (granules x.2.2)
    | none => none).foldl (· + ·) 0)

/-! ### Sending (R379) -/

/-- An operation that may be sent now: a release waits for the earlier operations to its position. -/
def sendable (R : Remote) (x : RemoteOp) : Bool :=
  !opRelease x.entry.toNat ||
  !((R.queue.any fun y => y.seq < x.seq && opTarget y.entry.toNat = opTarget x.entry.toNat) ||
    R.out.any fun y => y.op.seq < x.seq && opTarget y.op.entry.toNat = opTarget x.entry.toNat)

/-- The ACTIVE ports of the parcel that lead to a member. -/
def portsTo (s : State) (p k : Nat) : List Nat :=
  let R := (s.parcel p).remote
  (List.range 16).filter fun q =>
    k ≠ R.position && bitAt (memberPorts R k) q && (port s q).mode = .active && (port s q).owner = p

/-- Round-robin: the first port after the last one used, else the lowest. -/
def nextPort (last : Option Nat) (qs : List Nat) : Option Nat :=
  match last with
  | none => qs.head?
  | some l => match qs.find? fun q => l < q with | some q => some q | none => qs.head?

/-- The control record of an entry: its first 32 B with the tag, COMP_EN being the list's only. -/
def wireRecord (w tag : Nat) : BitVec 256 :=
  BitVec.ofNat 256 (w % 2 ^ 256 - fld w 5 1 * 2 ^ 5 - fld w 16 24 * 2 ^ 16 + tag * 2 ^ 16)

/-- Granules that an operation counts as sent, and as received at its target (R382). -/
def countedGranules (w : Nat) : Nat := if opCode w = 0 then granules (opLen w) else 1

def modRemote (s : State) (p : Nat) (f : Remote → Remote) : State :=
  s.modParcel p fun P => { P with remote := f P.remote }

/-- Send an operation on a port. -/
def sendOp (s : State) (p q : Nat) (x : RemoteOp) (data : List Byte) : State :=
  let w := x.entry.toNat
  let tag := (port s q).nextTag
  let s := modPort s q fun P => { P with nextTag := (P.nextTag + 1) % 2 ^ 24 }
  let s := modRemote s p fun R =>
    { R with out := R.out ++ [{ op := x, port := q, tag := tag }], lastPort := Tab.put R.lastPort (opTarget w) q }
  let s := s.count (some p) 0x15 (countedGranules w)
  let s := if opCode w = 0 then countPortBridge s p q (opLocal w) (opLen w) else s
  queueFlits s q (controlFlit (wireRecord w tag) :: dataFlits tag data)

/-- REMOTE_SEND: the first operation of the parcel's queue that may be sent. -/
def execRemoteSend (p : ParcelId) (s : State) : Host.Outcome State Fault Refusal :=
  let R := (s.parcel p).remote
  match R.queue.find? (sendable R) with
  | none => .next s
  | some x =>
    let w := x.entry.toNat
    let ports := portsTo s p (opTarget w)
    let s := modRemote s p fun R => { R with queue := R.queue.filter fun y => y.seq ≠ x.seq }
    let anyPort := ports.headD 0xFFFF
    if !entryOk s p w then .next (completeOp s p x anyPort 0 4)
    else
      match nextPort (Tab.find R.lastPort (opTarget w)) ports with
      | none => .next (completeOp s p x 0xFFFF 0 3)
      | some q =>
        if opCode w ≠ 0 then .next (sendOp s p q x [])
        else
          match stewardRead s p 6 (opLocal w) (opLen w) false with
          | (s, .error .copyUncorrectable) => .next (completeOp s p x q 0 2)
          | (s, .error _) => .next (completeOp s p x q 0 1)
          | (s, .ok data) => .next (sendOp s p q x data)

/-! ### Serving at the target (R377, R380) -/

/-- The job state accepts remote requests. -/
def jobAccepts (P : Parcel) : Bool :=
  P.ctl.job = .starting || P.ctl.job = .running || P.ctl.job = .draining || P.ctl.job = .saving || P.ctl.job = .preempted

/-- The peer of the port is a member of the parcel's group, reached by this port. -/
def peerMember (R : Remote) (serial : BitVec 64) (q : Nat) : Bool :=
  (List.range R.size).any fun k => k ≠ R.position && memberSerial R k = serial.toNat && bitAt (memberPorts R k) q

/-- Why a request of a parcel is refused, but for a DISCONNECTED crossing: the SUB of its REMOTE_REFUSED record. -/
def refusal (s : State) (p q a n : Nat) : Option Nat :=
  let P := s.parcel p
  if !jobAccepts P then some 1
  else if !peerMember P.remote (port s q).peerSerial q then some 0
  else if n ≠ 0 && !inParcel s p a n then some 2
  else if n ≠ 0 && (cutRange a n).any (retiredIn s p) then some 3
  else none

/-- Answer a refused request: its record and the RESPONSE with a status. -/
def refuseOp (s : State) (p : Option Nat) (q w sub status : Nat) : State :=
  sendResponse (s.logEvent 0x105 7 q p sub (opRemote w)) q (opTag w) status 0 []

/-- The oldest received record of a kind whose data is complete, and the port without it. -/
def takeRx (s : State) (q code : Nat) : Option (RxOp × State) :=
  match takeFirst (fun x : RxOp => opCode x.record.toNat = code && dataOwed s q x = 0) (port s q).rxOps with
  | none => none
  | some (x, rest) => some (x, modPort s q fun P => { P with rxOps := rest })

/-- A remote write that covers part of a granule is refused, and logged where its port is bound to a parcel (R196). -/
def notePartial (s : State) (q w : Nat) : State :=
  match portParcel (port s q) with
  | some p => if opCode w = 0 && (opLen w % 64 ≠ 0 || opRemote w % 64 ≠ 0) then refusedWrite s p 6 (opRemote w) else s
  | none => s

/-- Serve the oldest request of a kind: refusals and DISCONNECTED crossings first, then the operation's own effect. -/
def serve (s : State) (code : Nat) (bytes : Nat → Nat) (q : Nat) (effect : Nat → RxOp → State → State) : State :=
  match takeRx s q code with
  | none => s
  | some (x, s) =>
    let w := x.record.toNat
    if !recordOk w then sendResponse (notePartial s q w) q (opTag w) 4 0 []
    else
      match portParcel (port s q) with
      | none => refuseOp s none q w 1 1
      | some p =>
        match refusal s p q (opRemote w) (bytes w) with
        | some sub => refuseOp s (some p) q w sub 1
        | none =>
          match if bytes w = 0 then none else rangeCut s p (opRemote w) (bytes w) with
          | some d => refuseOp (endTransfer s d) (some p) q w 1 1
          | none => effect p x s

/-- RPUT: the data is written at the point of coherence. -/
def execRput (q : PortId) (s : State) : Host.Outcome State Fault Refusal :=
  .next (serve s 0 opLen q fun p x s =>
    let w := x.record.toNat
    match stewardWrite s p 6 (opRemote w) x.data with
    | (s, some _) => refuseOp s (some p) q w 3 1
    | (s, none) =>
      let s := s.count (some p) 0x16 (granules (opLen w))
      sendResponse (countPortBridge s p q (opRemote w) (opLen w)) q (opTag w) 0 0 [])

/-- RGET: a volatile read; the data follows the response. -/
def execRget (q : PortId) (s : State) : Host.Outcome State Fault Refusal :=
  .next (serve s 1 opLen q fun p x s =>
    let w := x.record.toNat
    let s := s.count (some p) 0x16 1
    match stewardRead s p 6 (opRemote w) (opLen w) true with
    | (s, .error _) => refuseOp s (some p) q w 5 2
    | (s, .ok data) =>
      let s := s.count (some p) 0x15 (granules (opLen w))
      sendResponse (countPortBridge s p q (opRemote w) (opLen w)) q (opTag w) 0 0 data)

/-- RATOMIC: the controller's operation (R256); a refusal or an uncorrectable granule is answered. -/
def execRatomic (q : PortId) (s : State) : Host.Outcome State Fault Refusal :=
  .next (serve s 2 opSize q fun p x s =>
    let w := x.record.toNat
    let s := s.count (some p) 0x16 1
    match s.stackPlace p (opRemote w) with
    | none => refuseOp s (some p) q w 2 1
    | some (c, o) =>
      let bad := granuleErr s (stackKey c o / 64) = 2
      match atomicAt s c o 6 (fld w 6 4) (opSize w) (opOperand w) (opCompare w) with
      | (none, s) => if bad && atomicSizeOk (fld w 6 4) (opSize w) then refuseOp s (some p) q w 5 2 else refuseOp s (some p) q w 4 1
      | (some old, s) => sendResponse (countPortBridge s p q (opRemote w) 64) q (opTag w) 0 old [])

/-- RSIGNAL: the increment is added to a remote counter. -/
def execRsignal (q : PortId) (s : State) : Host.Outcome State Fault Refusal :=
  .next (serve s 3 (fun _ => 0) q fun p x s =>
    let w := x.record.toNat
    let s := modRemote s p fun R =>
      { R with counters := Tab.modify RemoteCounter.zero R.counters (fld w 40 6) fun c => { c with arrived := c.arrived + fld w 112 16 } }
    sendResponse (s.count (some p) 0x16 1) q (opTag w) 0 0 [])

/-! ### Completion (R380) -/

/-- RESPONSE: the oldest received response completes its operation, once the data it returns is written. -/
def execResponse (q : PortId) (s : State) : Host.Outcome State Fault Refusal :=
  match takeRx s q 8 with
  | none => .next s
  | some (x, s) =>
    let r := x.record.toNat
    match (List.range 16).find? fun p => (s.parcel p).remote.out.any fun y => y.port = q.val && y.tag = opTag r with
    | none => .next s
    | some p =>
      match (s.parcel p).remote.out.find? fun y => y.port = q.val && y.tag = opTag r with
      | none => .next s
      | some y =>
        let s := modRemote s p fun R => { R with out := R.out.filter fun z => !(z.port = q.val && z.tag = opTag r) }
        let w := y.op.entry.toNat
        let status := fld r 12 4
        let back : List Byte :=
          if status ≠ 0 then []
          else if opCode w = 1 then x.data
          else if opCode w = 2 then bytesOfNat (opOperand r % 2 ^ (8 * opSize w)) 64
          else []
        let (s, refused) := if back.isEmpty then (s, none) else stewardWrite s p 6 (opLocal w) back
        let status := if refused.isSome then 1 else status
        let s := if back.isEmpty || refused.isSome then s else countPortBridge s p q (opLocal w) back.length
        let s := if opCode w = 1 && status = 0 then s.count (some p) 0x16 (granules back.length) else s
        .next (completeOp s p y.op q (opTag r) status)

/-! ### Monitors and bursts (R384, R385) -/

/-- FORCED_BURST: on the port's own tick of the 64 that follow 64 without a measurement, or as a confirmation. -/
def execForcedBurst (q : PortId) (s : State) : Host.Outcome State Fault Refusal :=
  let P := port s q
  let due := P.burstDue && s.now % 64 = q.val
  let runs : Bool := P.mode = .active || P.mode = .down || P.mode = .training
  if runs && (lamp s (lampOf q)).mode ≠ .service && (due || P.confirm) then
    .next ((modPort s q fun P =>
      { P with burstDue := P.burstDue && !due, confirm := false, parked := false }).send (.burst q))
  else .next s

/-- Table 15.4. -/
def verdictOf (lit : Bool) (lane : Nat) (peer : Option (BitVec 8)) : Nat :=
  match peer with
  | none => 4
  | some m => if lit then (if m.getLsbD lane then 1 else 0) else if m.getLsbD lane then 2 else 3

/-- Lanes whose last valid measurement reads dark. -/
def darkLanes (dark : Nat) (P : Port) : Nat :=
  (List.range 8).foldl (fun a i => if Tab.get 0 P.optPower i < dark then a + 2 ^ i else a) 0

/-- A port that gives FEED_DARK orders a confirmation burst on the other ports of its lamp, and leaves ACTIVE. -/
def feedDark (s : State) (q : Nat) : State :=
  let s := (List.range 4).foldl (fun s i =>
    let r := lampOf q * 4 + i
    if r = q then s else modPort s r fun P => { P with confirmNext := true }) s
  if (port s q).mode = .active then setPortMode s q .training 1 else s

/-- PORT_VERDICT: a valid measurement of a lane, the port's own receive lanes that have loss of signal, and the peer's
report, which does not count where no lane has signal. -/
def execPortVerdict (q : PortId) (lane : Fin 8) (uW : Nat) (los peer : BitVec 8) (s : State) :
    Host.Outcome State Fault Refusal :=
  let dark := (lamp s (lampOf q)).darkUw.toNat
  let lit : Bool := dark ≤ uW
  let P := port s q
  let s := modPort s q fun P =>
    { P with optPower := Tab.set 0 P.optPower lane uW, measured := true, rxLos := los,
             lit := if lit then P.lit ||| ((1 : BitVec 8) <<< lane.val) else P.lit }
  if P.mode = .dark then .next s
  else if P.mode = .waitLight then .next (if (port s q).lit = 0xFF then setPortMode s q .training 0 else s)
  else
    let v := verdictOf lit lane (if los = 0xFF then none else some peer)
    let s := modPort s q fun P => { P with verdict := v, tickVerdicts := P.tickVerdicts ++ [v] }
    let s := if v = 0 then modLamp s (lampOf q) fun L => { L with lastLit := s.now } else s
    let s :=
      if v = 0 || P.verdictLogged then s
      else modPort (linkRecord s 0x103 q v (darkLanes dark (port s q))) q fun P => { P with verdictLogged := true }
    .next (if v = 2 then feedDark s q else s)

/-! ### Lamps (R387, R463) -/

/-- LAMP_CONTROL: a written value acts at the next boundary. -/
def setLampControl (s : State) (m v : Nat) : Written :=
  if 2 ^ 8 ≤ v then (.type, s)
  else if 1 < v then refuse s
  else (.ok, modLamp s m fun L => { L with pendingControl := some v })

def execLampControl (who : Principal) (m : LampId) (value : Nat) (s : State) : Host.Outcome State Fault Refusal :=
  answer who (0x6020 + m) 0x02 s (operatorOnly who false false s (setLampControl s m value))

/-- LAMP_PRESENCE: the level of LAMP_PRESENT_N, sampled at the next boundary. -/
def execLampPresence (m : LampId) (present : Bool) (s : State) : Host.Outcome State Fault Refusal :=
  .next (modLamp s m fun L => { L with present := present })

end Sys2Proof.Machine
end

