-- ==== Sys2Proof/Machine/Spdm.lean ====
section
/-! DEFINITION. The SPDM responder of the Cartouche (13_cartouche_security.md R323 to R330): measurements, certificates,
sessions, TDISP and IDE key management. Responses wait for their fixed latency (R326, Table 13.4).
Readings and choices: log entries 48 and 52. -/

namespace Sys2Proof.Config

/-- The bytes of a response message (SPDM's wire form, which the spec does not give): a count of draws and the answer. -/
opaque spdmBytes : Nat → Sys2Proof.Machine.Spdm → List (BitVec 8)

end Sys2Proof.Config

namespace Sys2Proof.Machine

/-! ### Transports (Table 18.4) -/

/-- The transports that carry SPDM: MCTP on the physical function and on I3C, the DOE mailbox, the mailboxes. -/
def spdmTransport (tr : Nat) : Bool := tr = 1 || tr = 2 || tr = 3 || (32 ≤ tr && tr < 48)

/-- A mailbox's parcel. -/
def mailboxOf (tr : Nat) : Option Nat := if 32 ≤ tr && tr < 48 then some (tr - 32) else none

/-- Does the responder take requests on this transport: released, outside quarantine, and the function there? -/
def spdmOpen (s : State) (tr : Nat) : Bool :=
  isReleased s && spdmTransport tr && match mailboxOf tr with | some p => barOpen s p | none => true

/-- Hold a response until its latency expires. -/
def respond (s : State) (tr latencyMs : Nat) (r : Spdm) : State :=
  { s with cart := { s.cart with held := s.cart.held ++ [{ transport := tr, latencyMs := latencyMs, response := r }] } }

/-- Answer a request, if the transport is open. -/
def spdmAnswer (s : State) (tr latencyMs : Nat) (r : Spdm) : Host.Outcome State Fault Refusal :=
  if spdmOpen s tr then .next (respond s tr latencyMs r) else .next (transportAway s tr)

/-! ### Measurement blocks (Table 13.3) -/

/-- The image that boot loaded for a component. -/
def bootedImage (s : State) (component : Nat) : FwImage :=
  Tab.get { content := 0, signed := true, secVersion := 0 } s.cart.booted component

/-- Everything retired, as block 9 lists it: sectors and channels with nothing retired are left out. -/
def retirementList (s : State) : List Nat :=
  (s.sectors.flatMap fun x =>
    if x.2.retiredTiles = 0 && x.2.retiredChannels = 0 && !x.2.stewardRetired then []
    else [x.1, x.2.retiredTiles.toNat, x.2.retiredChannels.toNat, if x.2.stewardRetired then 1 else 0]) ++
  s.channels.flatMap fun x =>
    if x.2.retiredPairs.isEmpty && x.2.retiredPages.isEmpty then []
    else x.1 :: x.2.retiredPairs.length :: (x.2.retiredPairs ++ x.2.retiredPages)

/-- The content of block 0x10, as it is measured at DEFINED and at sealing. -/
def configList (P : Parcel) : List Nat :=
  [P.ctl.mask.toNat, P.ctl.dieSplit, P.sec.sealNonce.toNat, P.sec.sealSerial.toNat, P.serving.qd, P.serving.qp,
   P.serving.chunk, P.serving.stripeFirst.toNat, P.serving.stripeCount.toNat, P.serving.promptArea.toNat,
   P.serving.requestArea.toNat, P.bisect.base.toNat, P.ctl.saveArea.toNat, if P.serving.clearOnFree then 1 else 0]

/-- The content of block 0x13. -/
def insetList (V : Serving) : List Nat :=
  V.insets.flatMap fun x =>
    (x.2.live.flatMap fun v => [x.1, v.1, v.2.digest.toNat]) ++
    (match x.2.staged with | some i => [x.1, 0, i.digest.toNat] | none => [])

/-- A block of digests. -/
def digestBlock (i : Nat) (content : List Nat) : MeasBlock :=
  { index := i, raw := false, value := bytesOfNat (Config.measure i content).toNat 48 }

/-- A block of raw values. -/
def rawBlock (i : Nat) (content : List Nat) : MeasBlock := { index := i, raw := true, value := Config.measureRaw i content }

/-- Blocks 1 to 9. -/
def moduleBlock (s : State) (i : Nat) : MeasBlock :=
  match i with
  | 1 => digestBlock 1 [Config.fuses]
  | 2 => digestBlock 2 [(bootedImage s 1).content]
  | 3 => rawBlock 3 ([1, 2, 3, 4].map (fun c => (bootedImage s c).secVersion) ++ [s.cart.securityBoot])
  | 4 => digestBlock 4 [(bootedImage s 2).content]
  | 5 => digestBlock 5 [(bootedImage s 3).content]
  | 6 => digestBlock 6 [(bootedImage s 4).content]
  | 7 => rawBlock 7 [1, Config.fuses, s.cart.tamperBoot.toNat, s.cart.aliasEpoch.toNat]
  | 8 => digestBlock 8 [s.mer.steps, Config.fuses]
  | _ => digestBlock 9 (retirementList s)

/-- Blocks 0x10 to 0x14 of a parcel. -/
def parcelBlock (P : Parcel) (i : Nat) : MeasBlock :=
  match i with
  | 0x10 => digestBlock 0x10 P.sec.config
  | 0x11 => digestBlock 0x11 [P.sec.chartDigest.toNat]
  | 0x12 => digestBlock 0x12 [P.sec.dkPublic.toNat]
  | 0x13 => digestBlock 0x13 (insetList P.serving)
  | _ => digestBlock 0x14 (P.sec.bundles.flatMap fun b => [b.bundleId.toNat, b.kind, b.digest.toNat])

/-- The digest of blocks 1 to 7 that the alias certificate carries (R324). -/
def aliasDigest (s : State) : BitVec 384 :=
  Config.sha384 ((List.range 7).flatMap fun i => (moduleBlock s (i + 1)).value)

/-- The parcel whose blocks a requester may read (R325): a mailbox its own; the DOE mailbox that of the function which a
TDISP exchange names. -/
def blockParcel (s : State) (tr : Nat) (fn : Option ParcelId) : Option Nat :=
  let p? : Option Nat :=
    match mailboxOf tr with
    | some p => match fn with | some q => if q.val = p then some p else none | none => some p
    | none => if tr = 3 then fn.map (·.val) else none
  p?.filter fun p => (s.parcel p).ctl.mode ≠ .free

/-- The blocks that answer a request for one block or for all. -/
def blocksFor (s : State) (tr : Nat) (fn : Option ParcelId) (block : Option Nat) : List MeasBlock :=
  let all := (List.range 9).map (fun i => moduleBlock s (i + 1)) ++
    (match blockParcel s tr fn with
     | some p => (List.range 5).map fun i => parcelBlock (s.parcel p) (0x10 + i)
     | none => [])
  match block with
  | none => all
  | some i => all.filter fun b => b.index = i

/-- Content of the blocks as a digest is taken over it for a signature. -/
def blockBytes (bs : List MeasBlock) : List Byte := bs.flatMap fun b => BitVec.ofNat 8 b.index :: b.value

/-! ### Requests -/

def execGetVersion (tr : Nat) (s : State) : Host.Outcome State Fault Refusal :=
  spdmAnswer s tr 1 (.version [(1, 3), (1, 2)])

def execGetCapabilities (tr : Nat) (s : State) : Host.Outcome State Fault Refusal :=
  spdmAnswer s tr 1 (.capabilities ["CERT", "CHAL", "MEAS", "KEY_EX", "ENCRYPT", "MAC", "CHUNK", "HBEAT"] 13)

def execNegotiateAlgorithms (tr : Nat) (s : State) : Host.Outcome State Fault Refusal :=
  spdmAnswer s tr 1 (.algorithms ["TPM_ALG_ECDSA_ECC_NIST_P384", "SHA-384", "secp384r1", "AES-256-GCM"])

/-- The chain in a slot: the factory's in slot 0, with the alias certificate in slot 1 (R324). -/
def chainOf (s : State) (slot : Nat) : Option (List Byte) :=
  if slot = 0 then some (Config.certChain 0 0 0)
  else if slot = 1 then some (Config.certChain 1 s.cart.aliasEpoch (aliasDigest s)) else none

def execGetDigests (tr : Nat) (s : State) : Host.Outcome State Fault Refusal :=
  spdmAnswer s tr 1 (.digests ([0, 1].filterMap fun i => (chainOf s i).map fun c => (i, Config.sha384 c)))

def execGetCertificate (tr : Nat) (slot offset length : Nat) (s : State) : Host.Outcome State Fault Refusal :=
  match chainOf s slot with
  | none => spdmAnswer s tr 1 .errorInvalid
  | some c =>
    if c.length < offset then spdmAnswer s tr 1 .errorInvalid
    else
      let portion := (c.drop offset).take length
      spdmAnswer s tr 1 (.certificate slot portion (c.length - offset - portion.length))

/-- CHALLENGE: signed by the alias key over the chain, the measurements and the nonce. -/
def execChallenge (tr : Nat) (slot : Nat) (nonce : BitVec 256) (s : State) : Host.Outcome State Fault Refusal :=
  match chainOf s slot with
  | none => spdmAnswer s tr 1 .errorInvalid
  | some c =>
    let own := Config.random256 s.fresh
    let digest := Config.sha384 (c ++ blockBytes (blocksFor s tr none none) ++ bytesOfNat nonce.toNat 32 ++ bytesOfNat own.toNat 32)
    if spdmOpen s tr then
      .next (drawn (drawn (respond s tr 4 (.challengeAuth slot own (Config.aliasSign s.cart.aliasEpoch digest (s.fresh + 1))))))
    else .next (transportAway s tr)

/-- GET_MEASUREMENTS of one block, or of all. -/
def execGetMeasurements (tr : Nat) (block : Option Nat) (signed : Bool) (fn : Option ParcelId) (s : State) :
    Host.Outcome State Fault Refusal :=
  let bs := blocksFor s tr fn block
  if bs.isEmpty then spdmAnswer s tr 1 .errorInvalid
  else if !signed then spdmAnswer s tr 1 (.measurements bs none)
  else if spdmOpen s tr then
    .next (drawn (respond s tr 4 (.measurements bs
      (some (Config.aliasSign s.cart.aliasEpoch (Config.sha384 (blockBytes bs)) s.fresh)))))
  else .next (transportAway s tr)

/-! ### Sessions (R327) -/

/-- A transport's share is used up: one session on each mailbox, 8 on all other transports together. -/
def sessionsFull (s : State) (tr : Nat) : Bool :=
  match mailboxOf tr with
  | some _ => s.cart.sessions.any fun x => x.transport = tr
  | none => 8 ≤ (s.cart.sessions.filter fun x => (mailboxOf x.transport).isNone).length

def execKeyExchange (tr : Nat) (point : BitVec 776) (s : State) : Host.Outcome State Fault Refusal :=
  if sessionsFull s tr then spdmAnswer s tr 1 .errorSessionLimit
  else if !spdmOpen s tr then .next (transportAway s tr)
  else
    let n := s.cart.nextSession
    let own := Config.publicPoint s.fresh
    let sig := Config.aliasSign s.cart.aliasEpoch (Config.sha384 (bytesOfNat point.toNat 97 ++ bytesOfNat own.toNat 97)) (s.fresh + 1)
    let s := { s with cart :=
      { s.cart with
          sessions := s.cart.sessions ++ [{ id := n, transport := tr, established := false, key := Config.random256 (s.fresh + 2) }]
          nextSession := n + 1 } }
    .next (drawn (drawn (drawn (respond s tr 8 (.keyExchangeRsp n own sig)))))

/-- The session of a number on a transport. -/
def findSession (s : State) (tr n : Nat) : Option Session := s.cart.sessions.find? fun x => x.id = n && x.transport = tr

def modSession (s : State) (n : Nat) (f : Session → Session) : State :=
  { s with cart := { s.cart with sessions := s.cart.sessions.map fun x => if x.id = n then f x else x } }

/-- A request within a session; an unknown session is invalid, and so is one whose handshake FINISH has not completed
where `needs`. -/
def inSession (tr n latencyMs : Nat) (needs : Bool) (s : State) (f : State → State) (r : Spdm) :
    Host.Outcome State Fault Refusal :=
  match findSession s tr n with
  | none => spdmAnswer s tr 1 .errorInvalid
  | some x =>
    if needs && !x.established then spdmAnswer s tr 1 .errorInvalid
    else if spdmOpen s tr then .next (respond (f s) tr latencyMs r) else .next (transportAway s tr)

def execFinish (tr : Nat) (session : Nat) (s : State) : Host.Outcome State Fault Refusal :=
  inSession tr session 2 false s (fun s => modSession s session fun x => { x with established := true }) (.finishRsp session)

def execKeyUpdate (tr : Nat) (session : Nat) (s : State) : Host.Outcome State Fault Refusal :=
  inSession tr session 1 true s
    (fun s => drawn (modSession s session fun x => { x with key := Config.random256 s.fresh })) (.keyUpdateAck session)

def execHeartbeat (tr : Nat) (session : Nat) (s : State) : Host.Outcome State Fault Refusal :=
  inSession tr session 1 true s (fun s => s) (.heartbeatAck session)

def execEndSession (tr : Nat) (session : Nat) (s : State) : Host.Outcome State Fault Refusal :=
  inSession tr session 1 true s
    (fun s => { s with cart := { s.cart with sessions := s.cart.sessions.filter fun x => x.id ≠ session } })
    (.endSessionAck session)

/-! ### Large messages -/

/-- CHUNK_SEND: part of a large message is collected; the message itself is its own row's. -/
def execChunkSend (tr : Nat) (seq : Nat) (last : Bool) (data : List Byte) (s : State) : Host.Outcome State Fault Refusal :=
  if !spdmOpen s tr then .next (transportAway s tr)
  else
    let have' := Tab.get [] s.cart.chunks tr
    let s := { s with cart := { s.cart with chunks := Tab.set [] s.cart.chunks tr (if last then [] else have' ++ data) } }
    .next (respond s tr 1 (.chunkSendAck seq))

def execChunkGet (tr : Nat) (seq : Nat) (s : State) : Host.Outcome State Fault Refusal :=
  if spdmOpen s tr then .next (drawn (respond s tr 1 (.chunkResponse seq (Config.largePortion tr seq s.fresh)))) else .next (transportAway s tr)

def execSpdmUnsupported (tr : Nat) (code : Nat) (s : State) : Host.Outcome State Fault Refusal :=
  spdmAnswer s tr 1 (.errorUnsupported code)

/-! ### TDISP (R328, R329) and IDE (R330) -/

/-- A mailbox reaches only its own function. -/
def tdispReach (tr p : Nat) : Bool := match mailboxOf tr with | some q => q = p | none => true

/-- A TDISP request: accepted where `ok`, else answered with a TDISP error. -/
def tdisp (s : State) (tr p : Nat) (ok : Bool) (f : State → State) (r : Spdm) : Host.Outcome State Fault Refusal :=
  if !tdispReach tr p || !ok then spdmAnswer s tr 1 (.tdispError p)
  else if spdmOpen s tr then .next (respond (f s) tr 1 r) else .next (transportAway s tr)

/-- LOCK_INTERFACE_REQUEST: only when parcel p is SEALED and its function's stream is secure. -/
def execLockInterfaceRequest (tr : Nat) (p : ParcelId) (s : State) : Host.Outcome State Fault Refusal :=
  let P := s.parcel p
  tdisp s tr p (P.ctl.mode = .sealed && P.sec.ideSecure && P.sec.tdi = .unlocked)
    (fun s => drawn (modSec s p fun c => { c with tdi := .locked })) (.tdisp p 1 (some (Config.random256 s.fresh)))

def execStartInterfaceRequest (tr : Nat) (p : ParcelId) (s : State) : Host.Outcome State Fault Refusal :=
  tdisp s tr p ((s.parcel p).sec.tdi = .locked) (fun s => modSec s p fun c => { c with tdi := .run }) (.tdisp p 2 none)

def execStopInterfaceRequest (tr : Nat) (p : ParcelId) (s : State) : Host.Outcome State Fault Refusal :=
  tdisp s tr p true (fun s => modSec s p fun c => { c with tdi := .unlocked }) (.tdisp p 0 none)

/-- GET_DEVICE_INTERFACE_REPORT: every range of the function's BAR (Table 18.11), while the interface is locked or
running. -/
def execGetDeviceInterfaceReport (tr : Nat) (p : ParcelId) (s : State) : Host.Outcome State Fault Refusal :=
  let t := (s.parcel p).sec.tdi
  tdisp s tr p (t = .locked || t = .run) (fun s => s)
    (.interfaceReport p [(0x0, 0x1000), (0x1000, 0x400), (0x2000, 0x3000), (0x5000, 0x3000), (0x8000, 0x8000),
      (0x80000, 0x80000), (0x100000, 0x100000), (0x200000, 0x200000)])

/-- IDE_KM over a secured session: keys of a function's stream, or of the link stream, are programmed; with `go` the
stream enters the secure state. Answered 2 ms after its arrival. -/
def execIdeKm (tr : Nat) (session : Nat) (fn : Option ParcelId) (key : BitVec 256) (go : Bool) (s : State) :
    Host.Outcome State Fault Refusal :=
  let reach : Bool := match fn with | some p => tdispReach tr p | none => (mailboxOf tr).isNone
  if !reach then spdmAnswer s tr 1 .errorInvalid
  else
    inSession tr session 2 true s
      (fun s =>
        match fn with
        | some p => modSec s p fun c => { c with ideKey := key, ideSecure := c.ideSecure || go }
        | none => { s with cart := { s.cart with linkKey := key, linkIde := s.cart.linkIde || go } })
      (.ideKmAck (match fn with | some p => p + 1 | none => 0))

/-! ### Release of a response (R326) -/

/-- The response of a mailbox is in its response buffer: MB_READY is set and vector 8 fires (R443). -/
def mailboxAnswer (s : State) (p : Nat) (bytes : List Byte) : State :=
  ({ s with vfs := Tab.modify VFun.init s.vfs p fun f =>
      { f with mailbox :=
          { f.mailbox with
              busy := false
              ready := true
              len := min bytes.length 4096
              response := Mem.writeBytes [] 0 (bytes.take 4096) } } }).raise (1 + p) 8

/-- The response at place `k` may be due: none that arrived before it and waits as long at most is still held (R326). -/
def responseDue (held : List SpdmHeld) (k : Nat) : Option SpdmHeld :=
  held[k]?.filter fun h => (held.take k).all fun x => h.latencyMs < x.latencyMs

/-- SPDM_RESPONSE_RELEASE: the latency of the response at place `k` of those held ends, and it goes out. -/
def execSpdmResponseRelease (k : Nat) (s : State) : Host.Outcome State Fault Refusal :=
  match responseDue s.cart.held k with
  | none => .next s
  | some h =>
    let s := ({ s with cart := { s.cart with held := s.cart.held.eraseIdx k } }).send (.spdm h.transport h.response)
    match mailboxOf h.transport with
    | none => .next s
    | some p => .next (drawn (mailboxAnswer s p (Config.spdmBytes s.fresh h.response)))

end Sys2Proof.Machine
end

