-- ==== Sys2Proof/Machine/Resets.lean ====
section
/-! DEFINITION. Resets, boot and supplies (13_cartouche_security.md R320 to R322, 16_clocks_startup.md R408 to R411,
19_package.md R459 to R464), and the host's function resets and configuration requests (R408, R446, R447).
Readings and choices: log entries 32, 59, 60 and 61. -/

namespace Sys2Proof.Machine

/-! ### What a reset leaves (Table 16.5) -/

/-- A channel after a reset: its retirements survive; training that the reset cut short reports RESULT 4. -/
def resetChannel (cut : Bool) (K : Channel) : Channel :=
  { Channel.init with
      retiredPages := K.retiredPages
      retiredPairs := K.retiredPairs
      trainResult := if cut && K.training then 0x04000000 else 0 }

def resetChannels (s : State) (cut : Bool) : Tab Channel :=
  (List.range 384).foldl (fun t c => Tab.set Channel.init t c (resetChannel cut (s.channel c))) []

/-- Parcels whose tamper-forced clearing a module reset interrupts: the body of the certificate due at the release,
without its epoch (R341). -/
def certsDue (s : State) : List (Nat × BitVec 1024) :=
  s.cart.tamperDue ++ ((List.range 16).filter fun p =>
    (s.parcel p).sec.tamperRelease && (s.parcel p).ctl.mode ≠ .free).map fun p => (p, certBody s p true 0 0)

/-- The state after a reset, held off: fuses, retirements, the tamper record and the flash survive; a module reset also
leaves the standby domain, with CARTOUCHE_RESET, ALIAS_EPOCH and the certificates that carry TAMPER (R341). -/
def wipe (s : State) (standby cut : Bool) : State :=
  { State.reset with
      pending := s.pending, sent := s.sent, fresh := s.fresh, supply := s.supply, sectors := s.sectors
      channels := resetChannels s cut
      lamps := s.lamps.filterMap fun x => if x.2.present then none else some (x.1, { Lamp.init with present := false })
      log := { ErrorLog.init with summary := if standby then s.log.summary &&& 0x80000 else 0 }
      parcels :=
        if standby then
          s.parcels.filterMap fun x =>
            match x.2.sec.cert with
            | some c => if tamperCert c then some (x.1, { Parcel.init with sec := { ParcelSec.init with cert := some c } }) else none
            | none => none
        else []
      cart :=
        { Cartouche.init with
            securityVersion := s.cart.securityVersion
            tamper := s.cart.tamper
            tamperTick := s.cart.tamperTick
            tamperSeen := s.cart.tamperSeen
            active := s.cart.active
            inactive := s.cart.inactive
            bootedActivated := s.cart.bootedActivated
            aliasEpoch := if standby then s.cart.aliasEpoch else 0
            clearance := if standby then s.cart.clearance.filter tamperCert else []
            tamperDue := if standby then certsDue s else [] } }

/-- A module reset with a cause of R409. -/
def resetModule (s : State) (cause : Nat) : State :=
  let t := wipe s true (s.supply.converters && !s.supply.inReset)
  let t := { t with clocks := { t.clocks with resetCause := cause } }
  (List.range 384).foldl (fun t c =>
    let K := t.channel c
    if K.trainResult = 0x04000000 then t.logEvent 0xF 2 c none 4 K.trainResult.toNat else t) t

/-! ### Secure boot (R320, R322) -/

/-- The image of a component in the active bank; an unlisted one is the factory's. -/
def activeImage (s : State) (component : Nat) : FwImage :=
  Tab.get { content := 0, signed := true, secVersion := 0 } s.cart.active component

/-- The boot stage that verifies a component, and its measurement block (Tables 13.2 and 18.14). -/
def bootStage (component : Nat) : Nat := if component = 1 then 1 else if component = 2 then 3 else 4
def imageBlock (component : Nat) : Nat := if component = 1 then 2 else component + 2

/-- The first component that fails: its number, and the RESULT of Table 13.15. -/
def bootFailure (s : State) : List Nat → Option (Nat × Nat)
  | [] => none
  | c :: cs =>
    let x := activeImage s c
    if !x.signed then some (c, 2) else if x.secVersion < s.cart.securityVersion then some (c, 3) else bootFailure s cs

/-- Stage 5 trains every channel (R208). -/
def trainAll (s : State) : State :=
  { s with channels := (List.range 384).foldl (fun t c => Tab.set Channel.init t c { s.channel c with training := true }) [] }

/-- SECURE_BOOT: where both supplies are in range and nothing holds the module in reset, the images are verified in order and
the alias key is derived; the first that fails halts boot in quarantine, else stage 5 begins. -/
def boot (s : State) : State :=
  let u := s.supply
  if !(u.v48 && u.v3p3 && u.converters) || u.inReset || s.cart.result ≠ 0 || s.cart.stage ≠ 0 then s
  else
    let fail := bootFailure s [1, 2, 3, 4]
    let keyed : Bool := match fail with | some (1, _) => false | _ => true
    let s := if keyed then
        { s with cart := { s.cart with aliasEpoch := if s.cart.aliasEpoch = 0xFFFFFFFF then s.cart.aliasEpoch else s.cart.aliasEpoch + 1 } }
      else s
    match fail with
    | some (c, r) => quarantine { s with cart := { s.cart with stage := bootStage c, failImage := imageBlock c } } r
    | none => trainAll { s with cart := { s.cart with stage := 5 } }

/-- The 48 V converters turn off: stack and SRAM contents are lost (R460). -/
def powerLoss (s : State) : State :=
  let t := wipe s true false
  { t with supply := { t.supply with converters := false } }

/-! ### Supplies (R459 to R461) -/

/-- POWER_ON_RESET: the standby rail enters its range; MODULE_RESET_N low holds the rest of the module in reset, and joins
the flash where FLASH_EXT_N is low too (R459, R464, Table 19.7). -/
def execPowerOnReset (s : State) : Host.Outcome State Fault Refusal :=
  if s.supply.v3p3 then .next s
  else
    let t := wipe s false false
    .next (boot { t with supply :=
      { t.supply with
          v3p3 := true, converters := t.supply.v48, inReset := t.supply.resetLow
          flashJoined := t.supply.resetLow && t.supply.flashLow } })

/-- V48_IN_RANGE: the converters are enabled where the standby rail is in range and no thermal trip holds them, and a
module reset follows. -/
def execV48InRange (s : State) : Host.Outcome State Fault Refusal :=
  if s.supply.v48 then .next s
  else
    let s := { s with supply := { s.supply with v48 := true } }
    if !s.supply.v3p3 || s.supply.thermTrip then .next s
    else
      let t := resetModule s 1
      .next (boot { t with supply := { t.supply with converters := true } })

/-- V48_LOSS: V48 leaves its range. -/
def execV48Loss (s : State) : Host.Outcome State Fault Refusal :=
  if !s.supply.v48 then .next s
  else .next (powerLoss { s with supply := { s.supply with v48 := false } })

/-- V48_DIP: a dip to no lower than 30 V for at most 2 ms has no effect; any other is a loss. -/
def execV48Dip (millivolts micros : Nat) (s : State) : Host.Outcome State Fault Refusal :=
  if 30000 ≤ millivolts && micros ≤ 2000 then .next s else execV48Loss s

/-- V3P3_SB_LOSS: every key is lost, the converters turn off, and THERM_TRIP_N is released. -/
def execV3p3SbLoss (s : State) : Host.Outcome State Fault Refusal :=
  if !s.supply.v3p3 then .next s
  else
    let t := wipe s false false
    .next { t with supply :=
      { t.supply with
          v3p3 := false, converters := false, inReset := false, flashJoined := false, thermTrip := false
          tripRecord := none, cartoucheRecord := false } }

/-- THERM_TRIP_RELEASE: V48 has been absent for 100 ms. -/
def execThermTripRelease (absentMs : Nat) (s : State) : Host.Outcome State Fault Refusal :=
  if s.supply.v48 || absentMs < 100 then .next s
  else .next { s with supply := { s.supply with thermTrip := false } }

/-! ### Module reset (R408, R409, R464) -/

/-- MODULE_RESET_N falls and stays low for `lowUs`: at 1 ms and more the module is reset, and held; without standby power
only the level is seen, once that power comes. -/
def execModuleResetN (lowUs : Nat) (s : State) : Host.Outcome State Fault Refusal :=
  if lowUs < 1000 then .next s
  else if !s.supply.v3p3 then .next { s with supply := { s.supply with resetLow := true } }
  else
    let t := resetModule s 2
    .next { t with supply :=
      { t.supply with resetLow := true, inReset := true, flashJoined := t.supply.flashLow } }

/-- MODULE_RESET_N rises: the module leaves reset, unless the flash is still joined to the connector. -/
def execModuleResetNRise (s : State) : Host.Outcome State Fault Refusal :=
  if !s.supply.resetLow then .next s
  else
    .next (boot { s with supply :=
      { s.supply with
          resetLow := false, inReset := s.supply.flashJoined && s.supply.flashLow
          flashJoined := s.supply.flashJoined && s.supply.flashLow } })

/-- FLASH_EXT_N changes; `images` are what the connector has written to the flash while it was joined. -/
def execFlashExtN (low : Bool) (images : List (Nat × FwImage)) (s : State) : Host.Outcome State Fault Refusal :=
  if low then
    .next { s with supply :=
      { s.supply with flashLow := true, flashJoined := s.supply.flashJoined || (s.supply.resetLow && s.supply.v3p3) } }
  else
    let s := if s.supply.flashJoined then
        { s with cart := { s.cart with active := images.foldl (fun t x => Tab.put t x.1 x.2) s.cart.active } }
      else s
    .next (boot { s with supply := { s.supply with flashLow := false, flashJoined := false, inReset := s.supply.resetLow } })

/-- A write of MODULE_RESET. -/
def setModuleReset (s : State) (v : Nat) : Written :=
  if 2 ^ 8 ≤ v then (.type, s) else if v ≠ 0xA5 then refuse s else (.ok, boot (resetModule s 3))

def execModuleReset (who : Principal) (value : Nat) (s : State) : Host.Outcome State Fault Refusal :=
  answer who 0x2000 0x05 s (operatorOnly who false false s (setModuleReset s value))

/-- Activated images take effect: the banks are exchanged and the module is reset (R454). -/
def activate (s : State) : State :=
  boot (resetModule { s with cart := { s.cart with active := s.cart.inactive, inactive := s.cart.active, bootedActivated := true } } 5)

/-! ### Boot and release (R320 to R322, R410, R411) -/

/-- Every domain of Table 16.2, started on a reference. -/
def startDomains (ref : Nat) (alive : Bool) : Tab Domain :=
  ((List.range 64).filter domainExists).foldl (fun t n =>
    Tab.set Domain.init t n { Domain.init with state := 1, ref := if hasMux n then ref else 0, locked := hasPll n && alive }) []

/-- A lamp that release or a boundary lights, and its ports' bring-up (Table 15.3, R387, R462). -/
def lightLamp (s : State) (m : Nat) : State :=
  let s := modLamp s m fun L => { L with mode := .lit, enabled := true, feedFibre := 0 }
  (List.range 4).foldl (fun s i => setPortMode s (4 * m + i) .waitLight 0) s

/-- Release (R411): the generator starts at TICK 0; held records and certificates are written. -/
def release (s : State) (ms : Nat) : State :=
  let judged (m : RefMode) : RefMode := if m = .unjudged then .alive else m
  let a := judged s.clocks.refA
  let b := judged s.clocks.refB
  let ref := if a = .alive then 0 else 1
  let s := { s with
    clocks := { s.clocks with
      refA := a, refB := b, releaseMs := min ms 0xFFFF, domains := startDomains ref (a = .alive || b = .alive) }
    mer := { s.mer with started := true }
    cart := { s.cart with
      stage := 7, result := 1, keysAlive := true, tamperBoot := s.cart.tamper, securityBoot := s.cart.securityVersion
      booted := s.cart.active } }
  let s := (List.range 4).foldl (fun s m => if (lamp s m).present && (lamp s m).control = 1 then lightLamp s m else s) s
  let s := match s.supply.tripRecord with
    | some (i, raw) => s.logEvent 0x204 9 i none 0 (BitVec.ofInt 64 raw).toNat
    | none => s
  let s := if s.supply.cartoucheRecord then s.logEvent 0x11 10 0 none 0 0 else s
  let s := s.cart.tamperDue.foldl (fun s x =>
    issueCert s x.1 (x.2 + BitVec.ofNat 1024 (s.cart.aliasEpoch.toNat * 2 ^ 384)) true) s
  { s with
      supply := { s.supply with tripRecord := none, cartoucheRecord := false }
      cart := { s.cart with tamperDue := [] } }

/-- BOOT_RELEASE: boot has come through stage 5, `ms` after t = 0, with no channel still in training, and the module is
released. -/
def execBootRelease (ms : Nat) (s : State) : Host.Outcome State Fault Refusal :=
  let u := s.supply
  let training : Bool := s.channels.any fun x => x.2.training
  if !(u.v48 && u.v3p3 && u.converters) || u.inReset || s.cart.result ≠ 0 || s.cart.stage ≠ 5 || training then .next s
  else .next (release s ms)

/-! ### Functions (R408, R446, R447) -/

def vfun (s : State) (p : Nat) : VFun := Tab.get VFun.init s.vfs p
def modVf (s : State) (p : Nat) (f : VFun → VFun) : State := { s with vfs := Tab.set VFun.init s.vfs p (f (vfun s p)) }

/-- The ring registers of a parcel at their reset values; completions held for the rings stay. -/
def resetRings (s : State) (p : Nat) : State :=
  let f (t : Tab Ring) : Tab Ring := Tab.update Ring.init (fun _ R => { Ring.init with held := R.held }) t
  s.modServing p fun V => { V with subRings := f V.subRings, compRings := f V.compRings }

/-- A function's reset: its ring blocks and BAR state; its interface leaves for ERROR, and its job stops (R329, R408). -/
def resetFunction (s : State) (p : Nat) : State :=
  let s := stopJob (interfaceError s p) p
  modVf (resetRings s p) p fun f => { f with d0 := true, mailbox := .init, refused := .init }

/-- HOST_INTERFACE_RESET: PERST#, hot reset, link down, or FLR of the physical function. -/
def execHostInterfaceReset (kind : Fin 4) (s : State) : Host.Outcome State Fault Refusal :=
  if !s.supply.converters then .next s
  else
    let s := clockRecord s 0x185 4 kind 0
    let s := (List.range 16).foldl (fun s p =>
      modVf (resetFunction (modSec s p fun c => { c with ideSecure := false, ideKey := 0 }) p) p fun f => { f with present := false }) s
    let s := modDomain s 4 fun d => { d with disconnected := true, resets := min (d.resets + 1) 0xFFFFFFFF }
    .next { s with cart := { s.cart with linkIde := false, linkKey := 0 }, legend := { s.legend with refused := .init } }

/-- VF_FLR: Function Level Reset of virtual function p. -/
def execVfFlr (p : ParcelId) (s : State) : Host.Outcome State Fault Refusal :=
  if !(vfun s p).present then .next s else .next (resetFunction (clockRecord s 0x185 4 4 p) p)

/-- VF_POWER_STATE: whether NumVFs includes the function, and whether it is in D0. -/
def execVfPowerState (p : ParcelId) (present d0 : Bool) (s : State) : Host.Outcome State Fault Refusal :=
  .next (modVf s p fun f => { f with present := present, d0 := d0 })

/-- A doubleword of configuration space of function 0 (the physical one) or 1 + p; an absent function reads all ones, and
what R446 does not give is the part's own. -/
def configValue (s : State) (fn register : Nat) : Nat :=
  let own := (Config.configSpace s.fresh fn register).toNat
  if fn ≠ 0 && !(fn ≤ 16 && (vfun s (fn - 1)).present) then 0xFFFFFFFF
  else if register = 0 then (if fn = 0 then 0x5A04 else 0x5A05) * 65536 + Config.pciVendorId.toNat
  else if register = 2 then 0x12000000 + own % 256
  else own

/-- CONFIG_REQUEST: Configuration Request Retry Status until release and in quarantine (R321, R322, R411). -/
def execConfigRequest (fn register : Nat) (s : State) : Host.Outcome State Fault Refusal :=
  if !s.supply.converters || s.supply.inReset then .next s
  else if !isReleased s then .next (s.send (.config fn register none))
  else .next ((drawn s).send (.config fn register (some (configValue s fn register))))

end Sys2Proof.Machine
end

