-- ==== Sys2Proof/Machine/Thermal.lean ====
section
/-! DEFINITION. Sensors, the throttle ladder and power (17_thermal_power.md R415 to R427). Temperatures are counts of
0.125 degrees.
Readings and choices: log entries 62 and 63. -/

namespace Sys2Proof.Machine

def sensor (s : State) (i : Nat) : Sensor := Tab.get Sensor.init s.sensors i
def modSensor (s : State) (i : Nat) (f : Sensor → Sensor) : State :=
  { s with sensors := Tab.set Sensor.init s.sensors i (f (sensor s i)) }

/-! ### Tables 17.1 and 17.3 -/

def isComputeSensor (i : Nat) : Bool := i < 16
def governing (i : Nat) : Bool := i < 40

/-- The entry of rung 1 to 4, the stop (5) and the trip (6) of a governing sensor's class. -/
def rungEntry (i rung : Nat) : Int :=
  (if isComputeSensor i then [760, 776, 792, 808, 824, 840] else [704, 716, 728, 740, 752, 760]).getD (rung - 1) 0

/-- The neighbours of a governing sensor (Table 17.1): the other diode, and both of the next quadrangle or stack. -/
def neighbours (i : Nat) : List Nat :=
  let j := i - i % 2
  let o := if j / 2 % 2 = 0 then j + 2 else j - 2
  [j + (1 - i % 2), o, o + 1]

/-! ### Conversions (R416 to R419) -/

def rawOpen : Int := -0x80000000
def rawShort : Int := 0x7FFFFFFF

def rawOf : Conversion → Int
  | .value v => v
  | .opened => rawOpen
  | .shorted => rawShort

/-- The reading of the previous conversion, where it has one. -/
def previousReading (S : Sensor) : Option Int :=
  if S.converted && S.raw ≠ rawOpen && S.raw ≠ rawShort then some S.raw else none

/-- Kind of fault of a conversion: 0 none, 1 open, 2 short, 3 out of range or jump. -/
def faultKind (S : Sensor) : Conversion → Nat
  | .opened => 1
  | .shorted => 2
  | .value v =>
    let jump : Bool := match previousReading S with | some r => 200 < (v - r).natAbs | none => false
    if v < -160 || 1200 < v || jump then 3 else 0

/-- A rise of 2.0 degrees or more since the previous conversion. -/
def hasRisen (S : Sensor) (v : Int) : Bool := match previousReading S with | some r => 16 ≤ v - r | none => false

/-- The temperature that the rules of R417 count from: the rung 1 entry, or EXT_ALARM where it is not 0. -/
def modeEntry (i : Nat) (S : Sensor) : Option Int :=
  if governing i then some (rungEntry i 1) else if S.extAlarm = 0 then none else some S.extAlarm.toNat

/-- Fast and slow mode after a conversion without a fault. -/
def sampleMode (i : Nat) (S : Sensor) (v : Int) : Sensor :=
  let risen := hasRisen S v
  let hot : Bool := match modeEntry i S with | some e => e - 48 ≤ v | none => false
  let calm : Bool := match modeEntry i S with | some e => v ≤ e - 64 | none => !risen
  if S.mode = 0 then (if hot || risen then { S with mode := 1, cold := 0 } else S)
  else if S.mode = 1 then
    let n := if calm then S.cold + 1 else 0
    if 16 ≤ n then { S with mode := 0, cold := 0 } else { S with cold := n }
  else S

/-- A faulty conversion; the third in a row declares the sensor broken. -/
def faultyConversion (s : State) (i kind : Nat) (raw : Int) : State :=
  let S := sensor s i
  let breaks : Bool := S.mode ≠ 2 && 3 ≤ S.faults + 1
  let s := modSensor s i fun S =>
    { S with
        raw := raw, lastFaulty := true, converted := true, fault := kind, faults := min (S.faults + 1) 3, clean := 0, cold := 0
        mode := if breaks then 2 else S.mode
        clearing := if breaks then false else S.clearing
        treated := S.treated || (breaks && governing i)
        treatedSince := if breaks then s.now else S.treatedSince }
  if breaks then sensorEvent (s.logEvent 0x200 9 i none kind (BitVec.ofInt 64 raw).toNat) (i + 1) raw else s

/-- The external alarm after a conversion without a fault: a record at each upward crossing. -/
def alarmStep (s : State) (i : Nat) (v : Int) : State :=
  if governing i then s
  else
    let S := sensor s i
    let on : Bool := S.extAlarm ≠ 0 && (S.extAlarm.toNat : Int) ≤ v
    let s := if on && !S.alarm then s.logEvent 0x205 9 i none 0 (BitVec.ofInt 64 v).toNat else s
    modSensor s i fun S => { S with alarm := on }

/-- The thermal trip (R426): THERM_TRIP_N low, the converters off, the stacks' contents lost. -/
def thermalTrip (s : State) (i : Nat) (v : Int) : State :=
  powerLoss { s with supply := { s.supply with thermTrip := true, tripRecord := some (i, v) } }

/-- SENSOR_CONVERSION: a converter ends a conversion of a sensor. -/
def execSensorConversion (i : SensorId) (result : Conversion) (s : State) : Host.Outcome State Fault Refusal :=
  let S := sensor s i
  let kind := faultKind S result
  if kind ≠ 0 then .next (faultyConversion s i kind (rawOf result))
  else
    let v := rawOf result
    let s := modSensor s i fun S =>
      { sampleMode i S v with
          raw := v, lastFaulty := false, converted := true, good := v, peak := some (max (S.peak.getD v) v), faults := 0, clean := min (S.clean + 1) 64 }
    let s := alarmStep s i v
    if governing i && rungEntry i 6 ≤ v && !s.supply.thermTrip then .next (thermalTrip s i v) else .next s

/-! ### Broken sensors (R420, R421) -/

/-- The reading that NEIGHBOUR supplies: none while every neighbour is broken. -/
def neighbourReading (s : State) (i : Nat) : Option Int :=
  match ((neighbours i).filter fun n => (sensor s n).mode ≠ 2).map fun n => (sensor s n).good with
  | [] => none
  | x :: xs => some (xs.foldl max x + 32)

/-- The effective reading (Table 17.2), and whether a neighbour supplied it. -/
def effectiveReading (s : State) (i : Nat) : Int × Bool :=
  let S := sensor s i
  if !governing i then ((if S.mode = 2 then S.raw else S.good), false)
  else if !S.treated then (S.good, false)
  else if S.treatment = 1 then
    match neighbourReading s i with
    | some v => (v, true)
    | none => (rungEntry i 3, false)
  else (rungEntry i 3, false)

/-- SENSOR_CLEAR (R421). -/
def setSensorClear (s : State) (i v : Nat) : Written :=
  if 1 < v then (.type, s)
  else if v = 0 then (.ok, s)
  else
    let S := sensor s i
    if S.mode ≠ 2 || S.clean < 64 then refuse s
    else (.ok, sensorEvent (modSensor s i fun S => { S with mode := 0, cold := 0, clearing := true }) (i + 1) S.raw)

def execSensorClear (who : Principal) (i : SensorId) (value : Nat) (s : State) : Host.Outcome State Fault Refusal :=
  answer who (0x2440 + i) 0x04 s (operatorOnly who false false s (setSensorClear s i value))

/-- TREATMENT: the choice acts at the next boundary; an external sensor has none. -/
def setTreatment (s : State) (i v : Nat) : Written :=
  if !governing i then (.absent, s)
  else if 2 ^ 8 ≤ v then (.type, s)
  else if 1 < v then refuse s
  else (.ok, modSensor s i fun S => { S with pendingTreatment := some v })

def execTreatment (who : Principal) (i : SensorId) (value : Nat) (s : State) : Host.Outcome State Fault Refusal :=
  answer who (0x2440 + i) 0x03 s (operatorOnly who false false s (setTreatment s i value))

/-- Thresholds of the PLDM sensor of a temperature sensor (Table 18.13). -/
def thresholds (i : Nat) (S : Sensor) : List Int :=
  if governing i then [rungEntry i 1, rungEntry i 5, rungEntry i 6] else if S.extAlarm = 0 then [] else [S.extAlarm.toNat]

/-- Treatments chosen and ended since the last boundary act; effective readings are taken (R418, R420, R421), and the PLDM
sensor reports a threshold crossed (R453). -/
def sensorBoundary (s : State) (i : Nat) : State :=
  let S := sensor s i
  let s := if S.clearing then
      s.logEvent 0x201 9 i none 0 (if S.treated then s.now - S.treatedSince else 0)
    else s
  let s := modSensor s i fun S =>
    { S with treatment := S.pendingTreatment.getD S.treatment, pendingTreatment := none
             treated := S.treated && !S.clearing, clearing := false }
  let (v, sub) := effectiveReading s i
  let s := (thresholds i S).foldl (fun s h =>
    if decide (h ≤ S.effective) != decide (h ≤ v) then sensorEvent s (i + 1) v else s) s
  modSensor s i fun S => { S with effective := v, substituted := sub }

/-! ### The ladder (R423 to R426) -/

def governingSensors : List Nat := List.range 40

/-- The highest rung whose entry some governing effective reading reaches. -/
def demandedRung (s : State) : Nat :=
  [1, 2, 3, 4].foldl (fun a r =>
    if governingSensors.any fun i => rungEntry i r ≤ (sensor s i).effective then max a r else a) 0

/-- Every governing effective reading is at least 3.0 degrees below the entry of the rung. -/
def allCooler (s : State) (r : Nat) : Bool := governingSensors.all fun i => (sensor s i).effective ≤ rungEntry i r - 24

/-- The sensor that lies highest relative to its entry of rung r, the lowest number of equals. -/
def governorOf (s : State) (r : Nat) : Nat :=
  (governingSensors.foldl (fun (a : Nat × Int) i =>
    let d := (sensor s i).effective - rungEntry i r
    if a.2 < d then (i, d) else a) (0, (sensor s 0).effective - rungEntry 0 r)).1

/-- The demanded stretch level of a rung (R424). -/
def thermalDemand (rung : Nat) : Nat := if rung ≤ 2 then 0 else rung - 2

/-- The rung in force (R422, R423): rungs 1 and 2 act at the boundary at which they are demanded or released, rungs 3 and 4 with
the stretch level that they ask for. -/
def rungInForce (demanded prev level power : Nat) : Nat :=
  if max (thermalDemand demanded) power < level && 3 ≤ prev then max demanded (min prev (2 + level))
  else if 3 ≤ demanded then max 2 (min demanded (2 + level))
  else demanded

/-- The rung in force follows the demand and the level; a change makes a record. -/
def rungStep (s : State) : State :=
  let T := s.thermal
  let rung := rungInForce T.demanded T.rung s.mer.level T.powerDemand
  let gov := if rung = 0 && T.demanded = 0 then 0xFF else governorOf s (if T.demanded = 0 then rung else T.demanded)
  let s := { s with thermal := { T with rung := rung, governor := gov } }
  if rung = T.rung then s
  else
    let s := { s with thermal := { s.thermal with rungChanges := min (T.rungChanges + 1) 0xFFFFFFFF } }
    s.logEvent 0x202 0 (if gov = 0xFF then 0xFFFF else gov) none rung
      (if gov = 0xFF then 0 else (BitVec.ofInt 64 (sensor s gov).effective).toNat)

/-- The demanded rung at a boundary (R423): one in force stays demanded until every governing reading has been 3.0 degrees
below its entry at 64 boundaries in a row. -/
def ladderStep (s : State) : State :=
  let T := s.thermal
  let below := [1, 2, 3, 4].foldl (fun t r => Tab.set 0 t r (if allCooler s r then min (Tab.get 0 T.below r + 1) 64 else 0)) ([] : Tab Nat)
  let held := [1, 2, 3, 4].foldl (fun a r => if r ≤ T.rung && Tab.get 0 below r < 64 then max a r else a) 0
  rungStep { s with thermal := { T with below := below, demanded := max (demandedRung s) held } }

/-- The reading that protection judges a governing sensor by: the raw reading of its last fault-free conversion, and of a
broken one only while its latest conversion is fault-free (R420, R426). -/
def protectionReading (s : State) (i : Nat) : Option Int :=
  let S := sensor s i
  if !S.converted || (S.mode = 2 && S.lastFaulty) then none else some S.good

/-- The thermal stop and its end (R426). -/
def stopStep (s : State) : State :=
  if s.thermal.stopped then
    let cool := governingSensors.all fun i => match protectionReading s i with | some v => decide (v < rungEntry i 3) | none => true
    let n := if cool then s.thermal.belowStop + 1 else 0
    { s with thermal := { s.thermal with belowStop := n, stopped := n < 64 } }
  else
    match governingSensors.find? fun i => match protectionReading s i with | some v => decide (rungEntry i 5 ≤ v) | none => false with
    | none => s
    | some i =>
      let s := { s with thermal :=
        { s.thermal with stopped := true, belowStop := 0, stops := min (s.thermal.stops + 1) 0xFFFFFFFF } }
      let s := s.logEvent 0x203 9 i none 0 (BitVec.ofInt 64 (sensor s i).good).toNat
      (List.range 16).foldl stopJob (s.raise 0 3)

/-- The demand and its companions in THERMAL_STATUS, as they stand (Table 17.10). -/
def demandStep (s : State) : State :=
  let T := s.thermal
  let d := max (thermalDemand T.demanded) T.powerDemand
  { s with thermal :=
    { T with demand := d, pending := d ≠ s.mer.level, powerOver := thermalDemand T.demanded < T.powerDemand
             anyBroken := s.sensors.any fun x => x.2.mode = 2
             anyFast := s.sensors.any fun x => x.2.mode ≠ 0 } }

/-- Highest effective reading of a class; at least one sensor is given. -/
def hottest (s : State) (from' n : Nat) : Int :=
  ((List.range (n - 1)).map fun i => (sensor s (from' + 1 + i)).effective).foldl max (sensor s from').effective

/-- Everything thermal at a boundary, but the power demand. -/
def thermalBoundary (s : State) : State :=
  let s := (List.range 52).foldl sensorBoundary s
  let s := stopStep (ladderStep s)
  demandStep { s with thermal := { s.thermal with hottestCompute := hottest s 0 16, hottestStack := hottest s 16 24 } }

/-- POWER_DEMAND_UPDATE: `energyUJ` is drawn on the 48 V input over the 64 ticks that end here (R424, R425). -/
def execPowerDemandUpdate (energyUJ : Nat) (s : State) : Host.Outcome State Fault Refusal :=
  if !s.mer.dueDemand then .next s
  else
    let T := s.thermal
    let w := if T.wall64 = 0 then 0 else min (energyUJ * 1000 / T.wall64) 0xFFFF
    let d :=
      if T.powerLimit.toNat < w then min (T.powerDemand + 1) 2
      else if 4 * w < 3 * T.powerLimit.toNat then T.powerDemand - 1 else T.powerDemand
    let s := { s with
      mer := { s.mer with dueDemand := false }
      thermal := { T with inputPower := w, powerDemand := d, wall64 := 0 } }
    let s := if d = T.powerDemand then s else s.logEvent 0x206 0 0xFFFF none d w
    let above (x : Nat) : Bool := T.powerLimit.toNat < x
    let s := if above w != above T.inputPower then sensorEvent s 60 w else s
    .next (demandStep s)

/-! ### Objects that the operator writes (Tables 17.8 and 17.9) -/

def setPowerLimit (s : State) (v : Nat) : Written :=
  if 2 ^ 16 ≤ v then (.type, s)
  else if v < 1000 || 2200 < v then refuse s
  else (.ok, { s with thermal := { s.thermal with powerLimit := BitVec.ofNat 16 v } })

def setExtAlarm (s : State) (i v : Nat) : Written :=
  if governing i then (.absent, s)
  else if 2 ^ 16 ≤ v then (.type, s)
  else (.ok, modSensor s i fun S => { S with extAlarm := BitVec.ofNat 16 v, alarm := S.alarm && v ≠ 0 })

def setSensorBeta (s : State) (i v : Nat) : Written :=
  if i < 48 then (.absent, s)
  else if 2 ^ 16 ≤ v then (.type, s)
  else (.ok, modSensor s i fun S => { S with beta := BitVec.ofNat 16 v })

/-! ### Refresh mode of the stacks (R204, R401) -/

/-- The mode of stack k at a boundary, by the highest readings of the ending tick: hot above 85.0 degrees or with a broken diode, cool after 64 at 83.0 or less. -/
def refreshMode (s : State) (k : Nat) : State :=
  let a := sensor s (16 + 2 * k)
  let b := sensor s (17 + 2 * k)
  let held : Bool := timebaseFree s || a.treated || b.treated || a.mode = 2 || b.mode = 2
  let top := max (a.peak.getD a.good) (b.peak.getD b.good)
  let m := Tab.get StackMode.init s.stackModes k
  let m' : StackMode :=
    if held then { hot := true, coolTicks := 0 }
    else if 680 < top then { hot := true, coolTicks := 0 }
    else
      let n := if top ≤ 664 then m.coolTicks + 1 else 0
      if m.hot && 64 ≤ n then { hot := false, coolTicks := 0 } else { m with coolTicks := if m.hot then n else 0 }
  { s with stackModes := Tab.set StackMode.init s.stackModes k m' }

/-- Every stack's mode; the readings of the tick that begins start anew. -/
def refreshModes (s : State) : State :=
  let s := (List.range 12).foldl refreshMode s
  { s with sensors := Tab.update Sensor.init (fun _ S => { S with peak := none }) s.sensors }

/-- THERMAL_STATUS as it stands (Table 17.10). -/
def thermalStatus (T : Thermal) : BitVec 32 :=
  let bit (b : Bool) (i : Nat) : Nat := if b then 2 ^ i else 0
  BitVec.ofNat 32 (T.rung + bit T.pending 3 + T.demand * 16 + bit T.powerOver 6 + bit T.stopped 7 + T.governor * 256 +
    bit T.anyBroken 16 + bit T.anyFast 17)

end Sys2Proof.Machine
end

