-- ==== Sys2Proof/Machine/Objects.lean ====
section
/-! DEFINITION. The object dictionary (18_legend_interfaces.md R431 to R434, R444, R445): which objects there are, who may
do what to them, where they are held, and the value of each, from the object tables of every chapter.
Readings and choices: log entry 65. -/

namespace Sys2Proof.Machine

/-! ### Object families (Table 18.8) -/

/-- The family of an index and its global instance. -/
inductive Fam where
  | identity | geometry | comm | clock
  | domain (n : Nat)
  | thermal
  | sensor (i : Nat)
  | meridian
  | pmeridian (p : Nat)
  | sector (k : Nat)
  | pctl (p : Nat)
  | serving (p : Nat)
  | channel (c : Nat)
  | tile (t : Nat)
  | port (q : Nat)
  | lamp (m : Nat)
  | group (p : Nat)
  | log
  | steward (k : Nat)
  | cart
  | psec (p : Nat)
  | acct (p : Nat)
  | bisect (p : Nat)
deriving DecidableEq, Repr

/-- The family that a module-wide index names. -/
def familyOf (i : Nat) : Option Fam :=
  if i = 0x1000 then some .identity
  else if i = 0x1010 then some .geometry
  else if i = 0x1020 then some .comm
  else if i = 0x2000 then some .clock
  else if 0x2100 ≤ i && i < 0x2140 then (if domainExists (i - 0x2100) then some (.domain (i - 0x2100)) else none)
  else if i = 0x2400 then some .thermal
  else if 0x2440 ≤ i && i < 0x2474 then some (.sensor (i - 0x2440))
  else if i = 0x3000 then some .meridian
  else if 0x3020 ≤ i && i < 0x3030 then some (.pmeridian (i - 0x3020))
  else if 0x3040 ≤ i && i < 0x3050 then some (.sector (i - 0x3040))
  else if 0x3060 ≤ i && i < 0x3070 then some (.pctl (i - 0x3060))
  else if 0x3410 ≤ i && i < 0x3420 then some (.serving (i - 0x3410))
  else if 0x4000 ≤ i && i < 0x4180 then some (.channel (i - 0x4000))
  else if 0x5000 ≤ i && i < 0x5200 then some (.tile (i - 0x5000))
  else if 0x6010 ≤ i && i < 0x6020 then some (.port (i - 0x6010))
  else if 0x6020 ≤ i && i < 0x6024 then some (.lamp (i - 0x6020))
  else if 0x6030 ≤ i && i < 0x6040 then some (.group (i - 0x6030))
  else if i = 0x7000 then some .log
  else if 0x7020 ≤ i && i < 0x7030 then some (.steward (i - 0x7020))
  else if i = 0x8000 then some .cart
  else if 0x8010 ≤ i && i < 0x8020 then some (.psec (i - 0x8010))
  else if 0x9000 ≤ i && i < 0x9010 then some (.acct (i - 0x9000))
  else if 0xA000 ≤ i && i < 0xA010 then some (.bisect (i - 0xA000))
  else none

/-- The object that a tenant's index names (R445): its parcel's at the family's base, sectors, channels and tiles by
logical number, ports and module objects at their own. -/
def tenantFamily (s : State) (p : Nat) (f : Fam) : Option Fam :=
  match f with
  | .pmeridian k => if k = 0 then some (.pmeridian p) else none
  | .pctl k => if k = 0 then some (.pctl p) else none
  | .serving k => if k = 0 then some (.serving p) else none
  | .group k => if k = 0 then some (.group p) else none
  | .psec k => if k = 0 then some (.psec p) else none
  | .acct k => if k = 0 then some (.acct p) else none
  | .bisect k => if k = 0 then some (.bisect p) else none
  | .sector k => (s.sectorsOf p)[k]?.map .sector
  | .channel k => (s.globalChannel p k).map .channel
  | .tile k => (s.globalTile p k).map .tile
  | .port q => if (port s q).owner = p then some (.port q) else none
  | f => some f

/-- The object family that a principal's index names. -/
def resolve (s : State) (who : Principal) (index : Nat) : Option Fam :=
  match who, familyOf index with
  | .tenant p, some f => tenantFamily s p f
  | _, r => r

/-! ### Rows of the object tables -/

/-- Types of Table 18.1. -/
inductive OTy where
  | u8 | u16 | u32 | u64 | i32 | bool | str | blob
deriving DecidableEq, Repr

/-- Bytes of a value of a fixed type; 0 for STR and BLOB. -/
def OTy.size : OTy → Nat
  | .u8 => 1 | .u16 => 2 | .u32 => 4 | .u64 => 8 | .i32 => 4 | .bool => 1 | .str => 0 | .blob => 0

/-- What a principal may do (R434). -/
inductive Acc where
  | none | r | w | rw
deriving DecidableEq, Repr

def Acc.reads : Acc → Bool
  | .r => true | .rw => true | _ => false
def Acc.writes : Acc → Bool
  | .w => true | .rw => true | _ => false

/-- A row of an object table: type, slow, the rights of the operator, the tenant concerned and the factory, and
rw-until-sealed. -/
structure Row where
  ty : OTy
  slow : Bool := false
  op : Acc := .none
  ten : Acc := .none
  fac : Acc := .none
  sealed : Bool := false
deriving DecidableEq, Repr

/-- ro (all); ro (operator); ro (operator, tenant); rw (operator). -/
def roAll (ty : OTy) : Option Row := some { ty := ty, op := .r, ten := .r, fac := .r }
def roOp (ty : OTy) : Option Row := some { ty := ty, op := .r }
def roOt (ty : OTy) : Option Row := some { ty := ty, op := .r, ten := .r }
def rwOp (ty : OTy) : Option Row := some { ty := ty, op := .rw }
/-- ro (operator, factory); rw (operator, factory). -/
def roOf (ty : OTy) : Option Row := some { ty := ty, op := .r, fac := .r }
def rwOf (ty : OTy) : Option Row := some { ty := ty, op := .rw, fac := .rw }
/-- wo (operator), slow; rw (operator), slow. -/
def woOp (ty : OTy) : Option Row := some { ty := ty, slow := true, op := .w }
def rwOpSlow (ty : OTy) : Option Row := some { ty := ty, slow := true, op := .rw }
/-- rw-until-sealed (tenant), ro (operator). -/
def rwSealed (ty : OTy) : Option Row := some { ty := ty, op := .r, ten := .rw, sealed := true }
def asSlow (r : Option Row) : Option Row := r.map fun x => { x with slow := true }

/-- Subindices 0x60 to 0x63 (Table 14.3a). -/
def bucketRow (sub : Nat) : Option Row :=
  match sub with
  | 0x60 => roOp .u8 | 0x61 => rwOp .u8 | 0x62 => roOp .u64 | 0x63 => roOp .u32 | _ => none

/-- The row of an object: none where no table defines the subindex (R432). -/
def rowOfObject (f : Fam) (sub : Nat) : Option Row :=
  match f with
  | .identity => match sub with
    | 0 => roAll .u8 | 1 => asSlow (roAll .str) | 2 => asSlow (roAll .str) | 3 => roAll .u64 | 4 => roAll .u16
    | 5 => roAll .u16 | 6 => asSlow (roOp .blob) | 7 => roAll .u16 | 8 => roOp .u16 | _ => none
  | .geometry => match sub with
    | 1 => roOp .u8 | 5 => roOp .u8 | 9 => roOp .u8 | 6 => roAll .u16 | 0xA => roAll .u64 | 0xB => roAll .u16
    | n => if n ≤ 0xB then roAll .u8 else none
  | .comm => match sub with
    | 0 => roOp .u8 | 1 => roOp .u8 | 2 => roOp .u8 | 3 => roOp .u8 | 4 => woOp .blob | _ => none
  | .clock => match sub with
    | 0 => roAll .u8 | 1 => roOp .u8 | 2 => woOp .u8 | 3 => rwOp .u16 | 4 => roOp .u8 | 5 => woOp .u8 | 6 => roAll .u16
    | 7 => roOp .u32 | _ => none
  | .domain _ => match sub with
    | 0 => roOp .u8 | 1 => rwOp .u32 | 2 => rwOpSlow .u8 | 3 => woOp .u8 | 4 => woOp .u16 | 5 => roOp .u8 | 6 => roOp .u32
    | _ => none
  | .thermal => match sub with
    | 0 => roAll .u8 | 1 => roOp .u32 | 2 => roOp .i32 | 3 => roOp .i32 | 4 => rwOp .u16 | 5 => roOp .u16 | 6 => roOp .u32
    | 7 => roOp .u32 | 8 => roAll .u32 | 9 => asSlow (roAll .blob) | _ => none
  | .sensor i => match sub with
    | 0 => roOp .u8 | 1 => roOp .i32 | 2 => roOp .u16 | 3 => if i < 40 then rwOpSlow .u8 else none | 4 => woOp .bool
    | 5 => roOp .i32 | 6 => if 40 ≤ i then rwOp .u16 else none | 7 => if 48 ≤ i then rwOp .u16 else none | _ => none
  | .meridian => match sub with
    | 0 => roAll .u8 | 1 => some { ty := .u8, slow := true, op := .rw, ten := .r } | 2 => roAll .u64 | 3 => roAll .u8
    | 4 => roAll .u16 | 5 => roAll .u32 | 6 => roAll .u32 | 7 => roAll .u16 | 8 => roAll .u8 | _ => none
  | .pmeridian _ => match sub with
    | 0 => roAll .u8 | 1 => some { ty := .u32, op := .r, ten := .rw, fac := .r } | 2 => roAll .u32 | 3 => roAll .u64
    | 4 => roAll .u32 | 5 => roAll .u32 | _ => none
  | .sector _ => match sub with
    | 0 => roAll .u8 | 1 => roOt .u32 | 2 => roOt .u32 | 3 => roOt .u32 | 4 => woOp .u8 | 5 => woOp .u8 | 6 => woOp .bool
    | 7 => asSlow (roOt .blob) | 8 => roOt .u32 | _ => none
  | .pctl _ => match sub with
    | 0 => roAll .u8 | 1 => some { ty := .u16, slow := true, op := .rw, ten := .r } | 2 => roOt .u16
    | 3 => some { ty := .u8, op := .w, ten := .w } | 4 => roOt .u64 | 5 => roOt .u8 | 6 => roOt .u32 | 7 => rwSealed .u64
    | 8 => roOt .u8 | 9 => roOt .u64 | _ => none
  | .serving _ => match sub with
    | 0 => roAll .u8 | 1 => roAll .u8 | 2 => roAll .u8 | 3 => roAll .u16 | 4 => roAll .u16 | 5 => roAll .u16
    | 6 => rwSealed .u16 | 7 => rwSealed .u16 | 8 => rwSealed .u64 | 9 => rwSealed .u64 | 0xA => rwSealed .bool
    | 0xB => roAll .u32 | 0xC => roAll .u32 | 0xD => roAll .u16 | 0xE => roAll .u16 | 0xF => roAll .u16
    | 0x10 => roAll .u64 | 0x11 => roAll .u64 | 0x12 => roAll .u64 | 0x13 => roAll .u64
    | 0x14 => some { ty := .blob, slow := true, ten := .r } | _ => none
  | .channel _ => match sub with
    | 0 => roAll .u8 | 1 => roOp .u32 | 2 => roOp .u16 | 3 => roOf .u32
    | 4 => some { ty := .bool, slow := true, op := .w, fac := .w } | 5 => rwOp .u16 | 6 => asSlow (roOp .blob)
    | 7 => roOp .u16 | 8 => roOp .u64 | 9 => roOp .u16 | 0xA => roOp .u32
    | 0x10 => rwOf .u32 | 0x11 => rwOf .u64 | 0x12 => rwOf .u64 | 0x13 => rwOf .u32 | 0x14 => roOf .u32
    | 0x15 => roOf .u64 | 0x16 => roOf .u64 | 0x17 => asSlow (roOf .blob) | 0x18 => roOf .u64 | 0x19 => roOf .u32
    | 0x20 => roOt .u32 | 0x21 => roOt .u64 | 0x22 => some { ty := .u32, op := .rw, ten := .rw } | 0x23 => roOt .u32
    | 0x40 => woOp .u16 | 0x41 => woOp .u8 | 0x42 => roOp .u8 | 0x43 => asSlow (roOt .blob) | 0x44 => roOp .u32
    | n => bucketRow n
  | .tile t => match sub with
    | 0 => roAll .u8
    | 0x20 => some { ty := .u32, op := .rw, ten := .r } | 0x21 => roOt .u32 | 0x22 => roOt .u64 | 0x23 => roOt .u64
    | 0x24 => some { ty := .u16, op := .rw, ten := .rw, sealed := true } | 0x25 => roOt .u32 | 0x26 => roOp .u32
    | 0x30 => some { ty := .u32, op := .rw, ten := .rw }
    | n =>
      if 0x40 ≤ n && n < 0x40 + engineCount t then roOt .u32
      else if 0x48 ≤ n && n < 0x48 + engineCount t then roOt .u32
      else if 0x50 ≤ n && n < 0x50 + engineCount t then roOt .u64
      else bucketRow n
  | .port _ => match sub with
    | 0 => roAll .u8 | 1 => roOt .u8 | 2 => rwOpSlow .u8 | 3 => roOp .u64 | 4 => roOp .u64 | 5 => roOp .u64 | 6 => roOp .u64
    | 7 => roOp .u32 | 8 => asSlow (roOp .blob) | 9 => roOp .u8 | _ => none
  | .lamp _ => match sub with
    | 0 => roOp .u8 | 1 => roOp .u8 | 2 => rwOpSlow .u8 | 3 => roOp .u32 | 4 => rwOp .u16 | _ => none
  | .group _ => match sub with
    | 0 => roAll .u8 | 1 => rwSealed .u8 | 2 => rwSealed .u8 | 3 => asSlow (rwSealed .blob)
    | 4 => some { ty := .u32, op := .r, ten := .rw } | 5 => asSlow (roOt .blob) | 6 => roOt .u64 | _ => none
  | .log => match sub with
    | 0 => roOp .u8 | 1 => rwOp .u32 | 2 => rwOp .u32 | 3 => roOp .u64 | 4 => rwOp .u64 | 5 => roOp .u64 | 6 => rwOp .u64
    | 7 => asSlow (roOp .blob) | 8 => rwOp .u8 | _ => none
  | .steward _ => if sub = 0 then roOp .u8 else bucketRow sub
  | .cart => match sub with
    | 0 => roAll .u8 | 1 => roAll .u32 | 2 => some { ty := .u32, op := .r, fac := .rw } | 3 => roOp .u64 | 4 => roAll .u16
    | 5 => roAll .u32 | 6 => roOp .u32 | 7 => asSlow (roOp .blob) | _ => none
  | .psec _ => match sub with
    | 0 => roAll .u8 | 1 => roOt .u32 | 2 => asSlow (roOt .blob) | 3 => roOt .u64 | 4 => roOt .u32
    | 5 => some { ty := .u64, slow := true, ten := .w } | 6 => some { ty := .bool, slow := true, ten := .w }
    | 7 => roOt .u64 | 8 => some { ty := .blob, slow := true, ten := .w } | 9 => roOt .u8 | _ => none
  | .acct _ => match sub with
    | 0 => roAll .u8 | 0x18 => roOt .u16 | 0x19 => asSlow (roOt .blob) | 0x1A => roOt .u32 | 0x1B => roOp .u32
    | n => if n ≤ 0x17 then roOt .u64 else none
  | .bisect _ => match sub with
    | 0 => roAll .u8 | 1 => some { ty := .u64, op := .r, ten := .rw } | 2 => some { ty := .u8, op := .r, ten := .rw }
    | 3 => roOt .u64 | 4 => some { ty := .u32, ten := .r } | 5 => roOt .u32 | _ => none

/-- A principal's rights to an object. -/
def Row.rights (r : Row) : Principal → Acc
  | .operator => r.op
  | .tenant _ => r.ten
  | .factory => r.fac

/-- Readable by every principal. -/
def Row.openToAll (r : Row) : Bool := r.op.reads && r.ten.reads && r.fac.reads

/-- The module-wide index of a family's object. -/
def indexOf (f : Fam) : Nat :=
  match f with
  | .identity => 0x1000 | .geometry => 0x1010 | .comm => 0x1020 | .clock => 0x2000 | .domain n => 0x2100 + n
  | .thermal => 0x2400 | .sensor i => 0x2440 + i | .meridian => 0x3000 | .pmeridian p => 0x3020 + p
  | .sector k => 0x3040 + k | .pctl p => 0x3060 + p | .serving p => 0x3410 + p | .channel c => 0x4000 + c
  | .tile t => 0x5000 + t | .port q => 0x6010 + q | .lamp m => 0x6020 + m | .group p => 0x6030 + p | .log => 0x7000
  | .steward k => 0x7020 + k | .cart => 0x8000 | .psec p => 0x8010 + p | .acct p => 0x9000 + p | .bisect p => 0xA000 + p

/-! ### Values -/

def b2n (b : Bool) (i : Nat) : Nat := if b then 2 ^ i else 0

/-- CHANNEL_STATUS (Table 8.9). -/
def channelStatus (s : State) (c : Nat) : Nat :=
  let K := s.channel c
  b2n K.trained 0 + b2n (s.channelParcel c).isSome 1 + b2n K.clearing 2 +
  b2n (Tab.get StackMode.init s.stackModes (channelStack c)).hot 3 + b2n (tgActive K.tg) 4 + b2n K.laneDegraded 5 +
  (b2n (fld K.laneMap.toNat 0 7 ≠ 0x7F) 0 + b2n (fld K.laneMap.toNat 7 7 ≠ 0x7F) 0) * 64

def bucketOfObject (s : State) (f : Fam) : Bucket :=
  let key := match f with
    | .tile t => 65536 + t
    | .channel c => 2 * 65536 + c
    | .steward k => 5 * 65536 + k
    | _ => 0
  Tab.get Bucket.init s.log.bucketSnap key

def bucketNat (s : State) (f : Fam) (sub : Nat) : Nat :=
  let b := bucketOfObject s f
  match sub with
  | 0x60 => b.level
  | 0x61 => b2n b.overflowed 0 + b2n b.inEpisode 1
  | 0x62 => b.corrected
  | _ => b.overflowCount

def channelNat (s : State) (c sub : Nat) : Nat :=
  let K := s.channel c
  match sub with
  | 0 => 0x63
  | 1 => channelStatus s c
  | 2 => K.laneMap.toNat
  | 3 => K.trainResult.toNat
  | 5 => K.swapThreshold.toNat
  | 7 => 256 - K.clearQueue.length
  | 8 => K.pagesCleared
  | 9 => K.scrubRow
  | 0xA => K.channelClears
  | 0x10 => K.tg.control.toNat
  | 0x11 => K.tg.offset.toNat
  | 0x12 => K.tg.length.toNat
  | 0x13 => K.tg.seed.toNat
  | 0x14 => K.tg.state.code + b2n K.tg.passFailed 3 + min K.tg.loopsDone 0xFFFFFF * 256
  | 0x15 => K.tg.mismatches
  | 0x16 => K.tg.firstFail
  | 0x18 => K.tg.corrected
  | 0x19 => K.tg.ticks
  | 0x20 => K.celuloStatusSnap.toNat
  | 0x21 => K.celuloFault.toNat
  | 0x22 => K.celuloFormatStatus.toNat
  | 0x23 => K.celuloExceptions
  | 0x42 => K.retireResult.toNat
  | 0x44 => K.scrubPasses
  | n => bucketNat s (.channel c) n

/-- A value of a tile's objects. CLOSURE_ERROR, CLOSURE_LAST and CLOSURE_ROWS are read as they stand, ERROR_THIS_TICK and
ERRORS_IN_WINDOW at the published snapshot (R28): R103 does not say which of the objects are snapshots (DESIGN CHOICE, log
entry 65). -/
def tileNat (s : State) (t sub : Nat) : Nat :=
  let T := s.tile t
  let C := T.closure
  match sub with
  | 0 => 0x63
  | 0x20 => b2n C.error 0 + b2n C.hard 1 + b2n C.silent 2 + b2n C.stuck 3 + b2n (C.silent || C.stuck) 4 +
      b2n C.errorThisTick 5 + C.errorsInWindow * 64
  | 0x21 => C.errorTicks
  | 0x22 => C.last.toNat
  | 0x23 => C.rows.toNat
  | 0x24 => C.tol.toNat
  | 0x25 => C.skipped
  | 0x26 => C.plantedSkipped
  | 0x30 => T.formatStatus.toNat
  | n =>
    if n < 0x48 then (s.engine t (n - 0x40)).statusSnap.toNat
    else if n < 0x50 then (s.engine t (n - 0x48)).retireSnap.toNat
    else if n < 0x60 then (s.engine t (n - 0x50)).faultRecord.toNat
    else bucketNat s (.tile t) n

/-- SECTOR_STATE (Table 12.14); a tenant reads its own sectors, with its own number as 0. -/
def sectorNat (s : State) (who : Principal) (k sub : Nat) : Nat :=
  let S := s.sector k
  let failed := (List.range 24).filter fun i => s.channelFailed (sectorChannel k i)
  let tiles := ((List.range 32).filter fun i => S.retiredTiles.getLsbD i).length
  let spine := Tab.get false s.spineFailed (dieOfSector k)
  let pairs := (sectorChannels k).any fun c => !(s.channel c).retiredPairs.isEmpty || !(s.channel c).retiredPages.isEmpty
  match sub with
  | 0 => 8
  | 1 =>
    (match sectorOwner s k with
      | some p => (match who with | .tenant _ => 0 | _ => p) + 16
      | none => 0) +
    b2n (tiles ≠ 0 || !failed.isEmpty || pairs || S.stewardRetired) 5 + b2n S.stewardRetired 6 + b2n spine 7 +
    b2n (unserviceable s k) 8 + tiles * 512 + failed.length * 32768
  | 2 => S.retiredTiles.toNat
  | 3 => failed.foldl (fun a i => a + 2 ^ i) 0
  | _ => (sectorChannels k).foldl (fun a c => a + (s.channel c).retiredPages.length) 0

def geometryNat (s : State) (who : Principal) (sub : Nat) : Nat :=
  let n := match who with | .tenant p => s.sectorCount p | _ => 16
  [0xB, 2, n, 16, 16, 12, 24 * n, 24, 64, 16, channelBytes, 1024].getD sub 0

def clockNat (s : State) (sub : Nat) : Nat :=
  let C := s.clocks
  [7, C.refA.code + 4 * C.refB.code, 0, (C.pendingSsc.getD C.ssc).toNat, C.resetCause, 0, C.releaseMs, C.forcedSwitches].getD sub 0

/-- DOMAIN_STATUS (Table 16.12) and the other objects of a domain. -/
def domainNat (s : State) (n sub : Nat) : Nat :=
  let D := domain s n
  let spread := (isNet n || isSect n || isStk n) && fld s.clocks.ssc.toNat 0 4 ≠ 0
  match sub with
  | 0 => 6
  | 1 => D.state + b2n (D.ref = 1) 3 + b2n D.locked 4 + b2n D.coasting 5 + b2n D.coasted 6 + b2n D.disconnected 7 +
      b2n spread 8 + D.switchResult * 512
  | 2 => D.ref
  | 5 => D.gateResult
  | _ => D.resets

def toI32 (v : Int) : Nat := (BitVec.ofInt 32 v).toNat

def thermalNat (s : State) (sub : Nat) : Nat :=
  let T := s.thermal
  match sub with
  | 0 => 9
  | 1 => T.statusSnap.toNat
  | 2 => toI32 T.hottestCompute
  | 3 => toI32 T.hottestStack
  | 4 => T.powerLimit.toNat
  | 5 => T.inputPower
  | 6 => T.rungChanges
  | 7 => T.stops
  | _ => 0x10000

def sensorNat (s : State) (i sub : Nat) : Nat :=
  let S := sensor s i
  match sub with
  | 0 => if i < 40 then 5 else if i < 48 then 6 else 7
  | 1 => toI32 S.effective
  | 2 => S.mode + S.fault * 4 + b2n S.treated 4 + b2n S.substituted 5 + b2n S.alarm 6
  | 3 => S.pendingTreatment.getD S.treatment
  | 5 => toI32 S.raw
  | 6 => S.extAlarm.toNat
  | _ => S.beta.toNat

/-- Stretch factor in 1/256: 1, 1.25, 2 (Table 2.6). -/
def stretchQ8 (level : Nat) : Nat := if level = 0 then 256 else if level = 1 then 320 else 512

def meridianNat (s : State) (sub : Nat) : Nat :=
  let M := s.mer
  [8, M.steps, M.tick, M.level, stretchQ8 M.level, M.steps * 125000 * stretchQ8 M.level / 256, s.legBudget, 52, 64].getD sub 0

def pmeridianNat (P : Parcel) (sub : Nat) : Nat :=
  let t := P.tick
  [5, b2n t.overrun 0 + b2n t.late 1 + b2n (admissionHeld P) 2 + t.overrunCause * 8 + b2n t.preemptPending 5 + b2n t.preempted 6 +
      b2n t.stretchChanged 7, t.overrunCount, t.overrunTick, t.overrunLeg, t.lateCycles].getD sub 0

/-- PARCEL_STATE (Table 12.16). -/
def parcelState (c : ParcelCtl) : BitVec 16 := BitVec.ofNat 16 (c.mode.code + c.job.code * 16 + (c.held.getD 0).toNat * 256)

def pctlNat (s : State) (who : Principal) (p sub : Nat) : Nat :=
  let c := (s.parcel p).ctl
  let mask := match who with | .tenant _ => 2 ^ s.sectorCount p - 1 | _ => c.mask.toNat
  [9, mask, c.stateSnap.toNat, 0, c.resultCommand.toNat + c.resultOutcome * 256 + c.resultTick % 2 ^ 48 * 65536,
   c.sealResult.toNat, c.jobsStarted, c.saveArea.toNat, c.dieSplit, c.teardownRecord.toNat].getD sub 0

def servingNat (V : Serving) (sub : Nat) : Nat :=
  [0x14, V.qd, V.qp, V.chunk, V.nLayers, V.heads, V.stripeFirst.toNat, V.stripeCount.toNat, V.promptArea.toNat,
   V.requestArea.toNat, b2n V.clearOnFree 0, V.columnsTotalSnap, V.columnsFreeSnap, V.maxLoadSnap, (activeList V).length,
   V.pending.length, V.nextToken, V.refusedTotal, V.tokensDelivered, V.lateDeliveries].getD sub 0

def portNat (P : Port) (sub : Nat) : Nat :=
  [9, P.mode.code + b2n P.wide 3 + b2n P.half 4 + b2n (P.rxLos = 0xFF) 5, P.owner, P.peerSerial.toNat, P.fecCorrected,
   P.fecUncorrectable, P.replays, P.linkDowns, 0, P.verdict].getD sub 0

def lampNat (L : Lamp) (sub : Nat) : Nat :=
  [4, L.mode.code + L.feedFibre.toNat * 4, L.pendingControl.getD L.control, L.failures, L.darkUw.toNat].getD sub 0

def groupNat (R : Remote) (sub : Nat) : Nat :=
  [7, R.size, R.position, 0, b2n R.fault 0 + b2n R.deferred 1 + (R.queue.length + R.out.length) * 65536, 0, R.errors].getD sub 0

def logNat (L : ErrorLog) (sub : Nat) : Nat :=
  [8, L.summary.toNat, L.intEnable.toNat, L.nextSeq, L.ackSeq, L.lost, L.readSeq, 0, L.pendingDepth.getD L.depth].getD sub 0

def cartNat (C : Cartouche) (sub : Nat) : Nat :=
  [7, C.stage + C.result * 16 + C.failImage * 256 + 65536, C.tamper.toNat + b2n (2 ≤ C.result) 10, C.tamperTick,
   C.securityVersion, C.aliasEpoch.toNat, C.certsIssued].getD sub 0

def psecNat (c : ParcelSec) (sub : Nat) : Nat :=
  [9, c.state + b2n c.chartVerified 3 + c.result * 16 + c.tensorId * 4096, 0, c.sealNonce.toNat, c.sealSerial.toNat, 0, 0,
   c.bytesDelivered, 0, c.tdi.code].getD sub 0

def acctNat (A : Acct) (sub : Nat) : Nat :=
  match sub with
  | 0 => 0x1B
  | 1 => A.tick
  | 0x18 => A.powerW
  | 0x1A => A.coeffSet
  | 0x1B => 0
  | n => Tab.get 0 A.acc n % 2 ^ 64

def bisectNat (B : Bisect) (sub : Nat) : Nat :=
  [5, B.base.toNat, B.scope.toNat, B.tick, B.template, B.count].getD sub 0

def identityNat (sub : Nat) : Nat :=
  [8, 0, 0, Config.moduleSerial.toNat, 0x0100, 0x0100, 0, Config.pciVendorId.toNat, Config.mipiMfrId.toNat].getD sub 0

/-- The value of an object of a fixed type. -/
def objectNat (s : State) (who : Principal) (f : Fam) (sub : Nat) : Nat :=
  match f with
  | .identity => identityNat sub
  | .geometry => geometryNat s who sub
  | .comm => [4, s.legend.i3cAddress, s.legend.eidI3c, s.legend.eidPcie].getD sub 0
  | .clock => clockNat s sub
  | .domain n => domainNat s n sub
  | .thermal => thermalNat s sub
  | .sensor i => sensorNat s i sub
  | .meridian => meridianNat s sub
  | .pmeridian p => pmeridianNat (s.parcel p) sub
  | .sector k => sectorNat s who k sub
  | .pctl p => pctlNat s who p sub
  | .serving p => servingNat (s.parcel p).serving sub
  | .channel c => channelNat s c sub
  | .tile t => tileNat s t sub
  | .port q => portNat (port s q) sub
  | .lamp m => lampNat (lamp s m) sub
  | .group p => groupNat (s.parcel p).remote sub
  | .log => logNat s.log sub
  | .steward k => if sub = 0 then 0x63 else bucketNat s (.steward k) sub
  | .cart => cartNat s.cart sub
  | .psec p => psecNat (s.parcel p).sec sub
  | .acct p => acctNat (s.parcel p).acct sub
  | .bisect p => bisectNat (s.parcel p).bisect sub

/-! ### STR and BLOB values -/

def words (size : Nat) (l : List Nat) : List Byte := l.flatMap fun v => bytesOfNat v size

/-- `n` bytes of a list, missing ones 0. -/
def padTo (n : Nat) (l : List Byte) : List Byte := (l ++ List.replicate n 0).take n

/-- An error record (Table 14.4). -/
def recordBytes (r : LogRec) (seq : Nat) : List Byte :=
  bytesOfNat (r.code % 2 ^ 16 + r.source % 16 * 2 ^ 16 + r.parcel % 256 * 2 ^ 24 + r.inst % 2 ^ 16 * 2 ^ 32 +
    r.sub % 2 ^ 16 * 2 ^ 48 + r.tick % 2 ^ 48 * 2 ^ 64 + r.template % 2 ^ 24 * 2 ^ 112 + r.detail % 2 ^ 64 * 2 ^ 136 +
    seq % 2 ^ 56 * 2 ^ 200) 32

/-- LOG_WINDOW: 16 records from LOG_READ_SEQ; one that is overwritten or not yet written is empty (R361). -/
def logWindow (L : ErrorLog) : List Byte :=
  (List.range 16).flatMap fun i =>
    match Tab.find L.slots ((L.readSeq + i) % 4096) with
    | some x => if x.2 = L.readSeq + i then recordBytes x.1 x.2 else List.replicate 32 0
    | none => List.replicate 32 0

/-- The coefficients of Table 17.6, binary32, in the order of COEFF_TABLE. -/
def coeffTable : List Nat :=
  [0x41CCCCCD, 0x42DC0000, 0x43340000, 0x44ED8000, 0x42F00000, 0x42D60000, 0x41F80000, 0x43960000, 0x425C0000, 0x41F80000,
   0x41B40000, 0x43C80000, 0x43C80000, 0x42700000, 0x42700000, 0x42B40000, 0x43160000, 0x43960000, 0x448C0000, 0x448C0000]

def certBytes (x : Cert) : List Byte := bytesOfNat x.body.toNat 128 ++ bytesOfNat x.signature.toNat 96

def objectBytes (s : State) (who : Principal) (f : Fam) (sub : Nat) : List Byte :=
  match f with
  | .identity =>
    if sub = 1 then "Fladritex".toUTF8.toList.map fun b => BitVec.ofNat 8 b.toNat
    else if sub = 2 then "FTX-SV4-M12".toUTF8.toList.map fun b => BitVec.ofNat 8 b.toNat
    else [1, 2, 3, 4].flatMap fun c => padTo 32 (Config.firmwareVersion c (activeImage s c).content)
  | .thermal => words 4 coeffTable
  | .sector k => words 8 ((sectorChannels k).map fun c => (s.channel c).retiredPairs.foldl (fun a r => a + 2 ^ r) 0)
  | .serving p => words 4 ((List.range 63).map fun i => (Tab.get InsetSlot.init (s.parcel p).serving.insets (i + 1)).current)
  | .channel c =>
    let K := s.channel c
    if sub = 6 then words 4 ((List.range 74).map (Tab.get 0 K.laneCorrected))
    else if sub = 0x17 then words 4 ((List.range 74).map (Tab.get 0 K.tg.laneErrors))
    else words 2 ((K.retiredPages ++ List.replicate 256 0xFFFF).take 256)
  | .port q => words 2 ((List.range 8).map fun i => min (Tab.get 0 (port s q).optPower i) 0xFFFF)
  | .group p =>
    let R := (s.parcel p).remote
    if sub = 3 then bytesOfNat R.table.toNat 1024
    else words 8 ((List.range 64).flatMap fun i =>
      let c := Tab.get RemoteCounter.zero R.counters i
      [c.arrived, c.consumed])
  | .log => logWindow s.log
  | .cart =>
    match who with
    | .tenant p => match (s.parcel p).sec.cert with | some x => certBytes x | none => []
    | _ => padTo 3584 (s.cart.clearance.flatMap certBytes)
  | .psec p => bytesOfNat (s.parcel p).sec.dkPublic.toNat 97
  | .acct p =>
    let A := (s.parcel p).acct
    words 8 ((List.range 22).map (fun i => Tab.get 0 A.last (i + 2)) ++ [A.tick])
  | _ => []

/-- The bytes of an object's value. -/
def objectValue (s : State) (who : Principal) (f : Fam) (sub : Nat) (ty : OTy) : List Byte :=
  if ty.size = 0 then objectBytes s who f sub else bytesOfNat (objectNat s who f sub) ty.size

end Sys2Proof.Machine
end

