-- ==== Sys2Proof/Machine/BoundaryCounts.lean ====
section
/-! DEFINITION. The tick boundary, first part (02_meridian.md Table 2.3 steps 1 to 5): late parcels (R38), TICK and the
interval (R19, R20), counters, energy and snapshots (R28, R307 to R309), interrupts (R448), closure checks (R95 to R101,
R471), lamps (R386, R387) and the changes that other chapters apply at a boundary.
Readings and choices: log entries 5, 8, 17, 18, 36, 37 and 63. -/

namespace Sys2Proof.Machine

/-- Offer a record whose event lies in a given tick. -/
def logAt (s : State) (tick code source inst : Nat) (p : Option Nat) (sub detail : Nat) : State :=
  s.offer { code := code, source := source, parcel := p.getD 0xFF, inst := inst, sub := sub, tick := tick,
            template := s.templateNow p, detail := detail, cyc := none }

def sat32 (n : Nat) : Nat := min n 0xFFFFFFFF

/-- Do `f` for every parcel number. -/
def eachParcel (s : State) (f : State → Nat → State) : State := (List.range 16).foldl f s

/-- The job runs legs that step 1 judges (R297). -/
def planJudged (P : Parcel) : Bool := (P.ctl.job = .running || P.ctl.job = .draining) && P.ctl.tearingDown.isNone

/-! ### Busy cycles on both sides of a boundary (R27, R307) -/

/-- The busy cycles of an engine's instruction, counted whole at its issue, that fall in the tick after cycle `b` of the leg. -/
def busyBeyond (s : State) (p b : Nat) : List (Nat × Nat) :=
  (s.tilesOf p).flatMap fun t => (s.tile t).engines.filterMap fun e =>
    if b < e.2.busyTo then some (busyKey t e.1, e.2.busyTo - b) else none

/-- An END that waits counts its cycles up to `b` in the tick that ends, and the others from then on. -/
def splitEnds (p b : Nat) (s : State) (t : Nat) : State :=
  let open' := (s.tile t).engines.filter fun e => e.2.ending && engineRuns e.2 && e.2.busyFrom < b
  open'.foldl (fun s e => (s.count (some p) (busyKey t e.1) (b - e.2.busyFrom)).setEngine t e.1 { e.2 with busyFrom := b }) s

/-- A unit that runs counts its cycles up to `b`. -/
def splitUnits (b : Nat) (s : State) (c : Nat) : State :=
  (s.units.filter fun u => u.1 / 64 = c && u.2.running.isSome && u.2.halt = .none).foldl
    (fun s u => countCelulo s u.1 (celuloCycle b)) s

/-- The tick in progress ends in cycle `b` of the leg that parcel p has launched: what happens before has happened, and busy
cycles are split. -/
def splitLeg (s : State) (p b : Nat) : State :=
  let s := s.settle p b
  let beyond := busyBeyond s p b
  let s := s.modParcel p fun P =>
    { P with
        origin := b
        acct :=
          { P.acct with
              cur := beyond.foldl (fun t x => Tab.modify 0 t x.1 (· - x.2)) P.acct.cur
              next := beyond.foldl (fun t x => Tab.modify 0 t x.1 (· + x.2)) P.acct.next } }
  (s.channelsOf p).foldl (splitUnits b) ((s.tilesOf p).foldl (splitEnds p b) s)

/-- The end of a tick of `cycles` tile cycles, for the leg that parcel p has launched, if one. -/
def splitTick (cycles : Nat) (s : State) (p : Nat) : State :=
  let P := s.parcel p
  match P.legs with
  | l :: _ => if l.launched then splitLeg s p (P.origin + cycles).toNat else s
  | [] => s

/-! ### Step 1 (R38, R39, R41) -/

/-- The boundary finds parcel p late, with a cause of Table 2.8 and the leg of OVERRUN_LEG. -/
def setLate (s : State) (p cause leg : Nat) : State :=
  let newly := !(s.parcel p).tick.overrun
  let s := s.modParcel p fun P =>
    { P with
        tick :=
          { P.tick with
              overrun := true, late := true
              overrunCause := if newly then cause else P.tick.overrunCause
              overrunCount := if newly then sat32 (P.tick.overrunCount + 1) else P.tick.overrunCount
              overrunTick := if newly then s.now + 1 else P.tick.overrunTick
              overrunLeg := if newly then leg else P.tick.overrunLeg
              lateCycles := if P.tick.late then P.tick.lateCycles else 0 }
        serving :=
          { P.serving with
              gaz := P.serving.gaz.map fun g => (g.1, if g.2.active then { g.2 with boundMissed := true } else g.2) } }
  if newly then (logAt s (s.now + 1) 0xC 6 p (some p) cause leg).raise (1 + p) 9 else s

/-- Step 1 for parcel p. -/
def stepOne (s : State) (p : Nat) : State :=
  let P := s.parcel p
  let cause (c : Nat) : Nat := if parcelCoasts s p then 2 else c
  if !planJudged P then s.modPTick p fun x => { x with late := false }
  else
    match P.legs with
    | l :: _ => setLate s p (cause 0) l.template
    | [] =>
      if P.tick.late then s.modPTick p fun x => { x with late := false }
      else if P.nextPlan.isNone then setLate s p (cause 1) 0xFFFFFFFF
      else s

/-! ### Step 2 (R19, R20) -/

/-- TICK, the interval, and what is due at this boundary under a row of its own: a stretch change where one is pending. -/
def stepTwo (s : State) : State :=
  let t := s.mer.tick + 1
  { s with mer :=
    { s.mer with
        tick := t, steps := s.mer.pendingSteps.getD s.mer.steps, pendingSteps := none
        dueStretch := t % 64 = 0 && s.thermal.demand ≠ s.mer.level, dueDemand := t % 64 = 0, duePower := t % 64 = 0, dueLeak := t % 256 = 0
        dueLane := t % 4096 = 0 } }

/-! ### Step 3: accounting (R307 to R309, R428) -/

/-- INTERVAL_NS. -/
def intervalNs (M : Meridian) : Nat := M.steps * 125000 * stretchQ8 M.level / 256

/-- Table 17.6: subindex of Table 12.11 and coefficient in units of 10^-18 J. -/
def coefficients : List (Nat × Nat) :=
  [(0x04, 110000000), (0x05, 180000000), (0x06, 1900000000), (0x07, 120000000), (0x08, 107000000), (0x09, 31000000),
   (0x0A, 300000000), (0x0B, 55000000), (0x0C, 31000000), (0x0D, 22500000), (0x0E, 400000000), (0x0F, 400000000),
   (0x10, 60000000), (0x11, 60000000), (0x12, 90000000), (0x13, 150000000), (0x14, 300000000), (0x15, 1120000000),
   (0x16, 1120000000)]

/-- The modelled energy of a tick of `ns`, in units of 10^-18 J (R309). -/
def tickEnergy (cur : Tab Nat) (sectors ns : Nat) : Nat :=
  25600000000 * sectors * ns + (coefficients.map fun c => c.2 * Tab.get 0 cur c.1).foldl (· + ·) 0

/-- The accounts at the end of a tick: `sectors` held while SEALED, and whether the job was PREEMPTED. -/
def closeAccount (A : Acct) (tick ns sectors : Nat) (preempted : Bool) : Acct :=
  let e := tickEnergy A.cur sectors ns
  let all := e + A.energyCarry
  let cur := Tab.set 0 (Tab.set 0 (Tab.set 0 A.cur 0x02 sectors) 0x03 (if preempted then 1 else 0)) 0x17 (all / 10 ^ 12)
  { A with
      acc := cur.foldl (fun t x => Tab.modify 0 t x.1 fun v => (v + x.2) % 2 ^ 64) A.acc
      cur := A.next, next := [], last := cur, coeffSet := 0x10000, tick := tick, energyCarry := all % 10 ^ 12, energy64 := A.energy64 + e, wall64 := A.wall64 + ns }

/-- Parcel p's part of step 3: accounts, PARCEL_STATE, the Gazetteer and the column counts at the snapshot. -/
def snapParcel (tick ns : Nat) (s : State) (p : Nat) : State :=
  let P := s.parcel p
  let held : Bool := P.ctl.mode = .sealed
  let sectors := if held then s.sectorCount p else 0
  let serves : Bool := held && P.serving.nLayers ≠ 0
  s.modParcel p fun P =>
    { P with
        acct := closeAccount P.acct tick ns sectors (P.ctl.job = .preempted)
        ctl := { P.ctl with stateSnap := parcelState P.ctl }
        serving :=
          { P.serving with
              gazSnap := P.serving.gaz
              columnsTotalSnap := if serves then columnsTotal s p else 0
              columnsFreeSnap := if serves then columnsFree s p else 0
              maxLoadSnap := if serves then maxLoad (rooms s p) else 0 } }

/-! ### Step 3: the snapshots of tiles and channels -/

/-- An engine's published status. -/
def snapEngine (E : Engine) : Engine := { E with statusSnap := engineStatus E, retireSnap := E.retireLast }

/-- Closure history at the end of tick N (R101), and whether the tick makes a hard fault. -/
def closureHard (K : Closure) (tick : Nat) : Bool :=
  K.errorNow && (match K.history with | _ :: t1 :: _ => tick - t1 ≤ 999 | _ => false)

def closureTick (tick : Nat) (K : Closure) : Closure :=
  let history := if K.errorNow then (tick :: K.history).take 3 else K.history
  { K with
      history := history
      errorThisTick := K.errorNow
      errorsInWindow := (history.filter fun h => tick - h ≤ 999).length
      errorTicks := if K.errorNow then sat32 (K.errorTicks + 1) else K.errorTicks
      skipped := if K.skippedNow then sat32 (K.skipped + 1) else K.skipped
      hard := K.hard || closureHard K tick
      errorNow := false, skippedNow := false }

def snapTile (tick : Nat) (T : Tile) : Tile :=
  { T with engines := Tab.update Engine.idle (fun _ E => snapEngine E) T.engines, closure := closureTick tick T.closure }

/-- CELULO_STATUS (Table 9.16). -/
def celuloStatus (s : State) (c : Nat) : BitVec 32 :=
  let us := s.units.filter fun u => u.1 / 64 = c
  let n (f : CUnit → Bool) : Nat := (us.filter fun u => f u.2).length
  BitVec.ofNat 32 (n (fun f => f.running.isSome && f.halt = .none) + n (·.halt = .lock) * 2 ^ 8 + (s.channel c).retiredPairs.length * 2 ^ 16 +
    n (·.pendingLaunch.isSome) * 2 ^ 24)

/-- A channel's part of step 3, with TG_TICKS of a run in progress. -/
def snapChannel (s : State) (c : Nat) : State :=
  let st := celuloStatus s c
  s.modChannel c fun K =>
    { K with celuloStatusSnap := st, tg := if tgActive K.tg then { K.tg with ticks := sat32 (K.tg.ticks + 1) } else K.tg }

/-- The buckets at the snapshot (R355), by source and number. -/
def snapBuckets (L : ErrorLog) : Tab Bucket :=
  (L.tileBuckets.map fun x => (65536 + x.1, x.2)) ++ (L.chanBuckets.map fun x => (131072 + x.1, x.2)) ++
  (L.stewBuckets.map fun x => (327680 + x.1, x.2))

/-! ### Interrupts (R448) -/

/-- The function can send a message. -/
def canSend (s : State) (fn : Nat) : Bool := fn = 0 || ((vfun s (fn - 1)).present && (vfun s (fn - 1)).d0)

/-- The vector of completion ring r fires for entries added, as INT_MODERATION allows. -/
def ringVector (p : Nat) (s : State) (r : Nat) : State :=
  let R := Tab.get Ring.init (s.parcel p).serving.compRings r
  let due : Bool := match R.lastVector with | some t => t + R.intModeration.toNat ≤ s.now | none => true
  if R.added && due && canSend s (1 + p) then
    (s.modServing p fun V =>
      { V with compRings := Tab.set Ring.init V.compRings r { R with added := false, lastVector := some s.now } }).send
      (.msix (1 + p) r)
  else s

/-- The vectors whose events the snapshot publishes fire, each once. -/
def fireVectors (s : State) : State :=
  let go := s.irq.filter fun x => canSend s x.1
  let s := { s with irq := s.irq.filter fun x => !canSend s x.1 }
  let s := go.foldl (fun s x => s.send (.msix x.1 x.2)) s
  eachParcel s fun s p => (List.range 8).foldl (ringVector p) s

/-- Step 3 for tick N, whose length was `ns`; TICK is already N + 1. -/
def stepThree (tick ns : Nat) (s : State) : State :=
  let s := eachParcel s (snapParcel tick ns)
  let s := { s with tiles := Tab.update Tile.init (fun _ T => snapTile tick T) s.tiles }
  let s := (List.range 384).foldl snapChannel s
  fireVectors { s with
    log := { s.log with bucketSnap := snapBuckets s.log }
    mer := { s.mer with snapTick := tick }
    thermal := { s.thermal with wall64 := s.thermal.wall64 + ns, statusSnap := thermalStatus s.thermal } }

/-! ### What takes effect at a boundary (R354, R394, R395) -/

/-- A level above a new depth is lowered to it. -/
def lowerBuckets (depth : Nat) (t : Tab Bucket) : Tab Bucket :=
  Tab.update Bucket.init (fun _ b => { b with level := min b.level depth }) t

def applySettings (s : State) : State :=
  let d := s.log.pendingDepth.getD s.log.depth
  { s with
      log := { s.log with
        depth := d, pendingDepth := none, tileBuckets := lowerBuckets d s.log.tileBuckets
        chanBuckets := lowerBuckets d s.log.chanBuckets, stewBuckets := lowerBuckets d s.log.stewBuckets }
      clocks := { s.clocks with
        ssc := s.clocks.pendingSsc.getD s.clocks.ssc, pendingSsc := none
        domains := Tab.update Domain.init (fun _ D => { D with coastTick := D.coasting }) s.clocks.domains } }

/-! ### Closure checkers (R95 to R97, R471) and hard faults (R101) -/

/-- The least of a list of comparators. -/
def lowest : List Nat → Option Nat
  | [] => none
  | x :: xs => some (xs.foldl min x)

/-- The planted test of one tile: a bit that it newly sets makes a record. -/
def plantedTest (s : State) (t : Nat) : State :=
  let K := (s.tile t).closure
  let p := s.tileParcel t
  let s := match lowest K.silentCmp with
    | some j =>
      let s := if K.silent then s else s.logEvent 0xB 1 t p 1 j
      s.modTile t fun T => { T with closure := { T.closure with silent := true } }
    | none => s
  match lowest K.stuckCmp with
  | some j =>
    let s := if K.stuck then s else s.logEvent 0xB 1 t p 2 j
    s.modTile t fun T => { T with closure := { T.closure with stuck := true } }
  | none => s

/-- The parcel of a tile is LATE. -/
def tileLate (s : State) (t : Nat) : Bool := match s.tileParcel t with | some p => (s.parcel p).tick.late | none => false

/-- A tile whose test is skipped counts the tick. -/
def skipPlanted (s : State) (t : Nat) : State :=
  s.modTile t fun T => { T with closure := { T.closure with plantedSkipped := sat32 (T.closure.plantedSkipped + 1) } }

/-- Planted tests of every array tile. -/
def plantedTests (s : State) : State :=
  let tested := (s.tiles.map (·.1)).filter fun t => !isVectorTile t && !tileLate s t
  let skipped := (List.range 16).flatMap fun p =>
    if (s.parcel p).tick.late then (s.tilesOf p).filter fun t => !isVectorTile t else []
  skipped.foldl skipPlanted (tested.foldl plantedTest s)

/-- Tiles whose closure errors of tick N become a hard fault. -/
def hardTiles (s : State) (tick : Nat) : List Nat := (s.tiles.filter fun x => closureHard x.2.closure tick).map (·.1)

/-- CLOSURE_HARD: the record, and the teardown of the job (R101). -/
def hardFault (tick : Nat) (s : State) (t : Nat) : State :=
  let p := s.tileParcel t
  let s := logAt s tick 0xA 1 t p 0 0
  match p with
  | some p => if jobLive (s.parcel p) then teardown s p 0x03 (some (tileSector t)) else s
  | none => s

/-! ### Lamps (R386, R387, R462, R463) -/

/-- The lamp takes a new state; its PLDM sensor reports the change (R453). -/
def setLampMode (s : State) (m : Nat) (mode : LampMode) (enabled : Bool) : State :=
  let s := if (lamp s m).mode = mode then s else sensorEvent s (80 + m) mode.code
  modLamp s m fun L => { L with mode := mode, enabled := enabled }

/-- Every port of a lamp takes a state. -/
def lampPorts (s : State) (m : Nat) (mode : PortMode) (sub : Nat) : State :=
  (List.range 4).foldl (fun s i => setPortMode s (4 * m + i) mode sub) s

/-- The lamp is lit: its PLDM sensor reports a change. -/
def relight (s : State) (m : Nat) : State :=
  let s := if (lamp s m).mode = .lit then s else sensorEvent s (80 + m) LampMode.lit.code
  lightLamp s m

/-- Ports of a lamp that gave FEED_DARK in the ending tick. -/
def darkPorts (s : State) (m : Nat) : List Nat := (List.range 4).filter fun i => (port s (4 * m + i)).tickVerdicts.contains 2

/-- The lamp verdict of a LIT lamp (R386). -/
def lampVerdict (s : State) (m : Nat) : State :=
  let dark := darkPorts s m
  let someLit := (List.range 4).any fun i => (port s (4 * m + i)).tickVerdicts.contains 0
  if dark.isEmpty then s
  else if !someLit then
    let last := (lamp s m).lastLit
    let s := setLampMode s m .failedOpen true
    let s := modLamp s m fun L => { L with failures := sat32 (L.failures + 1) }
    lampPorts (s.logEvent 0x104 7 (4 * m) none m last) m .down 3
  else
    dark.foldl (fun s i =>
      setPortMode (modLamp s m fun L => { L with feedFibre := L.feedFibre ||| ((1 : BitVec 4) <<< i) }) (4 * m + i) .down 1) s

/-- A lamp at a boundary: presence, LAMP_CONTROL, the verdict. -/
def lampBoundary (s : State) (m : Nat) : State :=
  let L := lamp s m
  let ask := L.pendingControl
  let s := modLamp s m fun L => { L with control := ask.getD L.control, pendingControl := none }
  let L := lamp s m
  if !L.present then lampPorts (setLampMode s m .off false) m .dark 2
  else if L.control = 0 then lampPorts (setLampMode s m .service false) m .dark 2
  else if (ask = some 1 && L.mode ≠ .lit) || L.mode = .off || L.mode = .service then relight s m
  else if L.mode = .lit then lampVerdict s m
  else s

/-- A port at a boundary: what counts per tick restarts, and at a multiple of 64 the need for a burst is judged (R384). -/
def portBoundary (s : State) (q : Nat) : State :=
  let each : Bool := s.now % 64 = 0
  modPort s q fun P =>
    { P with
        tickVerdicts := [], verdictLogged := false, tickReplays := 0, confirm := P.confirmNext, confirmNext := false
        burstDue := if each then !P.measured else P.burstDue
        measured := if each then false else P.measured }

/-- Lamps, then ports. -/
def linkBoundary (s : State) : State := (List.range 16).foldl portBoundary ((List.range 4).foldl lampBoundary s)

/-! ### The rows that a boundary makes due (R45, R210, R310, R352) -/

/-- Step 4: the level moves by one towards the demand, for every parcel, and the rung in force with it (R422, R424, R45). -/
def stretchStep (s : State) : State :=
  let level := if s.mer.level < s.thermal.demand then s.mer.level + 1 else s.mer.level - 1
  let s := { s with mer := { s.mer with level := level } }
  let s := eachParcel s fun s p =>
    let s := s.modPTick p fun x => { x with stretchChanged := true }
    if (s.parcel p).ctl.mode = .free then s else s.raise (1 + p) 9
  demandStep (rungStep (s.raise 0 3))

/-- One leak of a table of buckets. -/
def leak (t : Tab Bucket) : Tab Bucket := Tab.update Bucket.init (fun _ b => { b with level := b.level - 1 }) t

/-- Step 5: 1 from every bucket that is not empty (R352). -/
def leakStep (s : State) : State :=
  { s with log := { s.log with
      tileBuckets := leak s.log.tileBuckets, chanBuckets := leak s.log.chanBuckets, stewBuckets := leak s.log.stewBuckets } }

/-- LANE_COUNT_RESTART: at a multiple of 4,096 the per-lane counts of R210 restart. -/
def execLaneCountRestart (s : State) : Host.Outcome State Fault Refusal :=
  if !s.mer.dueLane then .next s
  else
    .next { s with
      mer := { s.mer with dueLane := false }
      channels := Tab.update Channel.init (fun _ K => { K with laneWindow := [] }) s.channels }

/-- POWER_W (R310): whole multiples of 8 W. -/
def powerOf (A : Acct) : Nat := if A.wall64 = 0 then 0 else min (A.energy64 / (A.wall64 * 10 ^ 9)) 0xFFFF / 8 * 8

/-- POWER_W_UPDATE: at a multiple of 64, for every parcel. -/
def execPowerWUpdate (s : State) : Host.Outcome State Fault Refusal :=
  if !s.mer.duePower then .next s
  else
    .next (eachParcel { s with mer := { s.mer with duePower := false } } fun s p =>
      s.modParcel p fun P => { P with acct := { P.acct with powerW := powerOf P.acct, energy64 := 0, wall64 := 0 } })

end Sys2Proof.Machine
end

