-- ==== Sys2Proof/Machine/BoundaryJobs.lean ====
section
/-! DEFINITION. The tick boundary, second part (02_meridian.md Table 2.3 step 6): parcels become DEFINED, SEALED,
RELEASING and FREE (R293, R298, R340), and jobs start, end, are preempted and resumed (R295, R296, R302, R303, R305).
Readings and choices: log entries 38, 39 and 40. -/

namespace Sys2Proof.Machine

/-- A parcel takes a new state. -/
def setParcelMode (s : State) (p : Nat) (m : ParcelMode) : State := (s.modCtl p fun k => { k with mode := m }).raise 0 2

/-- A job takes a new state. -/
def setJob (s : State) (p : Nat) (j : JobMode) : State :=
  ((s.modCtl p fun k => { k with job := j }).raise 0 2).raise (1 + p) 9

/-- The sampled command has been applied. -/
def applied (s : State) (p : Nat) : State := outcomeSampled (s.modCtl p fun k => { k with sampled := 0 }) p 1

/-! ### Parcel states -/

/-- Logical sectors on the die of logical sector 0 (R299). -/
def dieSplitOf (m : BitVec 16) : Nat :=
  match maskBits m with
  | [] => 0
  | k :: ks => ((k :: ks).filter fun x => dieOfSector x = dieOfSector k).length

/-- The parcel becomes DEFINED with an accepted mask (R293, R317, R323, R331, R403). PARCEL_STATE keeps its snapshot (R28). -/
def define (s : State) (p : Nat) (m : BitVec 16) : State :=
  let s := s.modCtl p fun k => { ParcelCtl.init with mask := m, dieSplit := dieSplitOf m, teardownRecord := k.teardownRecord, stateSnap := k.stateSnap }
  let s := setParcelMode (defineSec s p) p .defined
  let s := modSec ((maskBits m).foldl openGates s) p fun c => { c with config := configList (s.parcel p) }
  modVf s p fun f => { f with refused := .init }

/-- The parcel becomes RELEASING: its interface leaves for ERROR first (R329), its channels start to clear (R207). -/
def releaseParcel (s : State) (p : Nat) : State :=
  let chans := s.channelsOf p
  let s := cutDelivery (interfaceError s p) p 0x09 5
  let s := s.modParcel p fun P =>
    { P with
        ctl := { P.ctl with pendingRelease := false, job := .none, tearingDown := none, checkFail := none }
        sec := { P.sec with releaseTick := s.now, exporting := none }
        serving := { P.serving with clearingCols := [] } }
  chans.foldl startClearing (setParcelMode s p .releasing)

/-- Ports bound to the parcel are unbound; one in TRAINING makes a record (R371). -/
def unbindPorts (s : State) (p : Nat) : State :=
  (List.range 16).foldl (fun s q =>
    if (port s q).owner ≠ p then s
    else
      let s := if (port s q).mode = .training then linkRecord s 0x101 q 4 0 else s
      modPort s q fun P => { P with owner := 0xFE }) s

/-- The parcel becomes FREE: the delivery key is destroyed and the certificate issued (R340, R341). -/
def freeParcel (s : State) (p : Nat) : State :=
  let tamper := (s.parcel p).sec.tamperRelease
  let s := issueCert s p (certBody s p tamper s.now s.cart.aliasEpoch) tamper
  let s := unbindPorts (modSec s p fun c => { c with dk := 0, tamperRelease := false }) p
  setParcelMode (s.modCtl p fun k => { k with mask := 0, pendingMask := none, closed := false }) p .free

/-- The parcel becomes SEALED: the count of sealings, and what the chart sets at sealing (R287, R298), and
block 0x10 as it is then (R323). -/
def sealParcel (s : State) (p : Nat) : State :=
  let s := { s with cart := { s.cart with seals := s.cart.seals + 1 } }
  let s := s.modParcel p fun P =>
    { P with
        sec := { P.sec with sealSerial := s.cart.seals }
        serving := match P.chart with
          | some c => { P.serving with qd := c.qd, qp := c.qp, chunk := c.chunk, nLayers := c.nLayers, heads := c.heads }
          | none => P.serving }
  setParcelMode (modSec s p fun c => { c with config := configList (s.parcel p) }) p .sealed

/-- The end of the sealing tick: SEALED, or DEFINED again with the first failing check (R298). -/
def endSealing (s : State) (p : Nat) : State :=
  let code := (s.parcel p).ctl.checkFail.getD 0
  let s := (s.modCtl p fun k => { k with sealResult := BitVec.ofNat 8 code, checkFail := none }).raise 0 2
  if code = 0 then sealParcel s p else setParcelMode (s.modCtl p fun k => { k with closed := false }) p .defined

/-! ### Jobs -/

/-- The instruction streams and constants of every template for logical tile `lt`, in its instruction memory (R9). -/
def tileImage (c : Chart) (lt : Nat) : Tab (BitVec 128) :=
  c.templates.foldl (fun m T => (T.streams.getD lt []).foldl (fun m x => Tab.set 0 m x.1 x.2) m) []

/-- The instruction memory of a tile from the chart (R295). -/
def loadTile (c : Chart) (lt : Nat) (T : Tile) : Tile :=
  { T with
      imem := tileImage c lt
      imemErr := [], plane0 := .empty, plane1 := .empty, formatStatus := 0 }

/-- The images of a chart are loaded and what R70, R81 and R232 name is zeroed (R295). -/
def loadJob (s : State) (p : Nat) (c : Chart) : State :=
  let s := ((s.tilesOf p).zipIdx).foldl (fun s x => s.modTile x.1 (loadTile c x.2)) s
  let image : Tab (BitVec 32) := c.celuloImage.zipIdx.foldl (fun m x => Tab.set 0 m x.2 x.1) []
  let fresh (u : Nat × CUnit) : Nat × CUnit :=
    if (s.channelsOf p).contains (u.1 / 64) then (u.1, { u.2 with instrErr := [] }) else u
  let units := { s with units := s.units.map fresh }
  (units.channelsOf p).foldl (fun s c =>
    (clearUnits s c).modChannel c fun K => { K with image := image, celuloExceptions := 0, celuloFault := 0 }) units

/-- START is applied: STARTING (R295), with DUMP_COUNT at 0 (R130). -/
def startJob (s : State) (p : Nat) : State :=
  let s := match (s.parcel p).chart with
    | some c => loadJob s p c
    | none => s
  let s := (s.sectorsOf p).foldl dropSectorLines s
  let s := s.modParcel p fun P =>
    { P with
        remote := { P.remote with counters := [], errors := 0, deferred := false, queue := [], out := [] }
        lastLeg := none
        bisect := { P.bisect with count := 0 }
        ctl := { P.ctl with jobsStarted := sat32 (P.ctl.jobsStarted + 1), checkFail := some (startCheck s p) } }
  setJob s p .starting

/-- END is applied: DRAINING; every pending request is refused and every handle released (R296). -/
def drainJob (s : State) (p : Nat) : State :=
  let V := (s.parcel p).serving
  let s := V.pending.foldl (fun s q => refuseEntry s p (Sub.ring q.raw) 0x03 (Sub.tag q.raw) s.now) s
  let s := s.modServing p fun V =>
    { V with
        pending := [], eval := .none
        gaz := V.gaz.map fun g => (g.1, if g.2.state = .datum then { g.2 with releasing := true } else g.2) }
  setJob s p .draining

/-- The plan composed for the next tick is the save plan (R302). -/
def savePlan (P : Parcel) : Bool :=
  match P.nextPlan with
  | some (l :: _) => l.kind = .save
  | _ => false

/-- The preemption is applied: SAVING (R302). -/
def saveJob (s : State) (p : Nat) : State :=
  let s := s.modParcel p fun P => { P with preemptedAt := s.now, tick := { P.tick with preemptPending := false } }
  outcomeSampled (setJob s p .saving) p 1

/-- The save is complete: PREEMPTED (R201, R302). -/
def preemptJob (s : State) (p : Nat) : State :=
  let s := (s.sectorsOf p).foldl dropSectorLines s
  setJob (s.modPTick p fun x => { x with preempted := true }) p .preempted

/-- Change the bounds of the completions of parcel p that are held and judged. -/
def modHeld (s : State) (p : Nat) (f : HeldComp → HeldComp) : State :=
  s.modServing p fun V =>
    { V with compRings := V.compRings.map fun r =>
        (r.1, { r.2 with held := r.2.held.map fun h => if h.judged then f h else h }) }

/-- Every bound held by the job grows by `n` ticks (R43). -/
def extendBounds (s : State) (p n : Nat) : State :=
  let s := s.modServing p fun V =>
    { V with gaz := V.gaz.map fun g =>
        (g.1, if !g.2.active then g.2
              else if g.2.generated = 0 then { g.2 with firstBound := g.2.firstBound + n }
              else { g.2 with boundExtra := g.2.boundExtra + n }) }
  modHeld s p fun h => { h with bound := h.bound + n }

/-- RESUME is applied: RUNNING, with the restore leg at the head of its plan (R43, R70, R232, R303). -/
def resumeJob (s : State) (p : Nat) : State :=
  let P := s.parcel p
  let s := extendBounds s p (s.now - P.preemptedAt + 1)
  let s := (s.tilesOf p).foldl (fun s t => s.modTile t fun T => { T with formatStatus := 0 }) s
  let s := (s.channelsOf p).foldl clearUnits s
  let s := s.modParcel p fun P =>
    { P with
        tick := { P.tick with preempted := false }
        nextPlan := some (P.nextPlan.getD [{ moveLeg s P .restore with tick := s.now }]) }
  setJob s p .running

/-- Every Gazetteer entry is FREE and nothing runs. -/
def drained (P : Parcel) : Bool := (gazList P.serving).isEmpty && P.legs.isEmpty && !P.tick.late

/-! ### Step 6 -/

/-- What the state of a SEALED parcel's job does by itself at a boundary. -/
def jobStep (s : State) (p : Nat) : State :=
  let P := s.parcel p
  if P.ctl.tearingDown.isSome then s
  else
    match P.ctl.job with
    | .starting =>
      let ok : Bool := P.ctl.checkFail.getD 0 = 0
      let s := s.modCtl p fun k => { k with checkFail := none }
      if ok then setJob s p .running else teardown s p 0x08 none
    | .saving => if P.legs.isEmpty then preemptJob s p else s
    | .running => if savePlan P && !P.tick.late then saveJob s p else s
    | .draining =>
      if savePlan P && !P.tick.late then saveJob s p
      else if drained P then teardown s p 0x06 none else s
    | _ => s

/-- Apply a sampled command; one no longer valid is refused, and END waits while the parcel is LATE (R42). -/
def applyCommand (s : State) (p : Nat) : State :=
  let P := s.parcel p
  let code := P.ctl.sampled.toNat
  if code = 0 || (code = 0x03 && P.tick.late) then s
  else if !commandValid P code then outcomeSampled (s.modCtl p fun k => { k with sampled := 0 }) p 2
  else
    match code with
    | 0x01 => applied (setParcelMode (s.modCtl p fun k => { k with checkFail := some (sealCheck s p), closed := true }) p .sealing) p
    | 0x02 => applied (startJob s p) p
    | 0x03 => applied (drainJob s p) p
    | 0x11 => applied (resumeJob s p) p
    | 0x13 => applied (releaseParcel s p) p
    | _ => s

/-- No channel of the parcel is CLEARING. -/
def channelsClear (s : State) (p : Nat) : Bool := (s.channelsOf p).all fun c => !(s.channel c).clearing

/-- The teardown whose zeroing has ended gives the job its state (R305). -/
def settleJob (s : State) (p : Nat) : State :=
  match (s.parcel p).ctl.tearingDown with
  | some j => setJob (s.modCtl p fun k => { k with tearingDown := none }) p j
  | none => s

/-- A forced or asked release that can be applied now. -/
def releaseDue (P : Parcel) : Bool :=
  P.ctl.pendingRelease && P.ctl.tearingDown.isNone && (P.ctl.job = .none || P.ctl.job = .tornDown)

/-! ### The steward's own memories (R349, R351, R356) -/

/-- A steward core reads its memories at a boundary (DESIGN CHOICE, log entry 32): a corrected byte counts one event, an
uncorrectable one tears down the context of the parcel's job; the core reloads from its verified image. -/
def coreCheck (p : Nat) (s : State) (k : Nat) : State :=
  let e := (s.sector k).coreErr
  if e = 1 then s.bucketEvent 5 k (some p)
  else if e = 2 then
    (stewardFault (s.logEvent 2 5 k (some p) 5 0) p .sramUncorrectable).modSector k fun K => { K with coreErr := 0 }
  else s

/-- Every steward core of parcel p. -/
def coreChecks (s : State) (p : Nat) : State := (s.sectorsOf p).foldl (coreCheck p) s

/-- Step 6 for parcel p; `down` says that a teardown was under way before this boundary. -/
def stepSix (down : List Nat) (s : State) (p : Nat) : State :=
  let s := coreChecks (if down.contains p then settleJob s p else s) p
  let P := s.parcel p
  match P.ctl.mode with
  | .free => match P.ctl.pendingMask with | some m => define s p m | none => s
  | .releasing => if channelsClear s p then freeParcel s p else s
  | .sealing => if releaseDue P then releaseParcel s p else applyCommand (endSealing s p) p
  | .defined => if releaseDue P then releaseParcel s p else applyCommand s p
  | .sealed => if releaseDue P then releaseParcel s p else applyCommand (jobStep s p) p

/-- Bytes that the delivery leg may move in the tick that begins (R334). -/
def renewCredit (s : State) (p : Nat) : State :=
  modSec s p fun c => { c with delivery := c.delivery.map fun d => { d with credit := (legBytes (s.parcel p) d.kind).getD 0 } }

end Sys2Proof.Machine
end

