-- ==== Sys2Proof/Machine/Prompt.lean ====
section
/-! DEFINITION. Prompts read into their buffers (11_serving.md R269, R283).
Readings and choices: log entries 44 and 45. -/

namespace Sys2Proof.Machine

/-- Bytes filled up to whole granules, in which alone the steward writes (R196): the spec gives the rest of the last granule
no value, so each is free. -/
def wholeGranules (fresh : Nat) (bytes : List Byte) : List Byte :=
  bytes ++ (List.range ((64 - bytes.length % 64) % 64)).map fun i => BitVec.ofNat 8 (Config.granuleRest fresh i)

/-- PROMPT_READ_DONE: the tokens from the entry's shared position on are in the buffer, and the request is pending from the
next tick in its place of arrival; a failed read is refused (R269, R270). -/
def execPromptReadDone (p : ParcelId) (buf : Nat) (tokens : Option (List (BitVec 32))) (s : State) :
    Host.Outcome State Fault Refusal :=
  let V := (s.parcel p).serving
  match V.pending.find? fun q => q.buf = buf && q.since.isNone with
  | none => .next s
  | some q =>
    if !hostOpen s p then .next s
    else
      match tokens with
      | none =>
        let s := s.modServing p fun V => { V with pending := V.pending.filter fun x => x.buf ≠ buf }
        .next (refuseEntry s p (Sub.ring q.raw) 0x0C (Sub.tag q.raw) s.now)
      | some ts =>
        let bytes := (ts.take (Sub.len q.raw - q.shared)).flatMap fun t => bytesOfNat t.toNat 4
        let s := s.modServing p fun V =>
          { V with pending := V.pending.map fun x => if x.buf = buf then { x with since := some (s.now + 1) } else x }
        let s := { (s.count (some p) 0x14 (granules bytes.length)) with fresh := s.fresh + 1 }
        .next (stewardPut s p (V.promptArea.toNat + buf * 0x100000) (wholeGranules s.fresh bytes))

end Sys2Proof.Machine
end

