-- ==== Sys2Proof/Machine/BoundaryServing.lean ====
section
/-! DEFINITION. The tick boundary, third part (02_meridian.md Table 2.3 steps 7 and 8): the serving actions S1 to S6 of
11_serving.md Table 11.9a, recomputation (R34, R100, R278) and the plan of the tick that begins.
Readings and choices: log entries 41, 42 and 43. -/

namespace Sys2Proof.Machine

/-! ### Suspect rows (R96, R100) -/

/-- A tile that the parcel's chart uses is suspect. -/
def suspectTile (s : State) (p : Nat) : Bool :=
  (s.tilesOf p).any fun t => ((s.tile t).closure.silent || (s.tile t).closure.stuck) && chartUses s p t

/-- The entries whose rows a suspect group of a leg names, by the template's row map. -/
def affectedRows (c : Chart) (l : Leg) (x : SuspectRows) : List Nat :=
  match findTemplate c l.template with
  | none => []
  | some T =>
    (T.rowMap.filter fun r => r.retireIndex = x.retireIndex && r.row / 64 = x.group && x.rows.getLsbD (r.row % 64)).filterMap
      fun r => l.batch[r.slot]?

/-- Every suspect pair of the tick: the place of a finished leg, and an entry that it affects. -/
def suspectPairs (s : State) (p : Nat) (c : Chart) : List (Nat × Nat) :=
  let V := (s.parcel p).serving
  (s.tilesOf p).flatMap fun t => (s.tile t).closure.suspects.flatMap fun x =>
    match V.finished[x.leg]? with
    | none => []
    | some l => (affectedRows c l x).map fun e => (x.leg, e)

/-- The rows of entry e in the leg at place j come from its first suspect leg or a later one (R278). -/
def withheld (bad : List (Nat × Nat)) (j e : Nat) : Bool := bad.any fun x => x.1 ≤ j && x.2 = e

/-- The legs to run again, in which only the affected entries are live: they restart from their kept inputs (R34, R278). -/
def recomputeLegs (V : Serving) (bad : List (Nat × Nat)) : List Leg :=
  (V.finished.zipIdx).filterMap fun x =>
    let again (e : Nat) : Bool := withheld bad x.2 e && (Tab.get GazEntry.init V.gaz e).active
    if x.1.live.any again then
      some { x.1 with masked := x.1.batch.filter fun e => !(x.1.live.contains e && again e)
                      state := .composed, recompute := true, dumped := false, launched := false }
    else none

/-- The verdicts of a finished leg are clean for the entries that are not withheld: their inputs are kept no more (R278). -/
def dropKept (bad : List (Nat × Nat)) (V : Serving) (l : Leg) (j : Nat) : Serving :=
  { V with kept := V.kept.filter fun k => !(k.kind = l.kind && l.live.contains k.entry && !withheld bad j k.entry) }

/-- Suspects of finished legs are settled; those of the leg still running are kept for its completion. -/
def settleSuspects (s : State) (p n : Nat) : State :=
  (s.tilesOf p).foldl (fun s t =>
    if (s.tile t).closure.suspects.isEmpty then s
    else s.modTile t fun T =>
      { T with closure :=
          { T.closure with suspects := T.closure.suspects.filterMap fun x =>
              if x.leg < n then none else some { x with leg := x.leg - n } } }) s

/-! ### S1: outcomes -/

/-- The layer of a leg. -/
def layerOf (l : Leg) : Option Nat :=
  match l.kind with
  | .decode _ k => some k
  | .prefill _ _ k => some k
  | _ => none

/-- The last prefill leg of entry e is Complete with clean verdicts: DECODE, or DATUM (R265, R269, R283). -/
def finishPrefill (s : State) (p e : Nat) : State :=
  let P := s.parcel p
  let V := P.serving
  let g := s.gaz p e
  if g.doneLegs < prefillLegs V g.promptLen g.sharedPos then s
  else if g.state = .prefill then s.modGaz p e fun g => { g with state := .decode, promptBuf := none }
  else if g.state = .register then
    let keep := g.promptLen / 256 * V.heads
    let shared := g.promptLen / 256 * 256
    let s := freeColumns s p (s.now - 1) (g.cols.drop keep)
    let s := s.modGaz p e fun g =>
      { g with state := .datum, promptBuf := none, cols := g.cols.take keep, sharedPos := shared, generated := 0,
               releasing := P.ctl.job = .draining }
    deliver s p g true { Comp.plain 0x05 0x00 g.hostTag s.now with token := g.token, index := shared }
  else s

/-- A prefill leg of entry e is Complete with a clean verdict. -/
def prefillDone (s : State) (p e : Nat) : State :=
  let V := (s.parcel p).serving
  let s := s.modGaz p e fun g =>
    if g.state = .prefill || g.state = .register then
      let n := g.doneLegs + 1
      { g with doneLegs := n
               prefilled := min g.promptLen (g.sharedPos + (if V.nLayers = 0 then 0 else n / V.nLayers * V.chunk)) }
    else g
  finishPrefill s p e

/-- A sampled token of entry e is held for delivery; the reason of the end that it brings, if one (R273). -/
def takeToken (s : State) (p e token : Nat) : State × Option Nat :=
  let g := s.gaz p e
  if g.state ≠ .decode then (s, none)
  else
    let c : Comp :=
      { Comp.plain 0x02 0x00 g.hostTag (s.now - 1) with
          token := g.token, value := token, index := g.sampled, unchecked := g.unchecked, recomputed := g.recomputed }
    let s := deliver s p g (g.sampled = 0) c
    let s := s.modGaz p e fun g => { g with sampled := g.sampled + 1 }
    let stop : Bool := token ≠ 0xFFFFFFFF && (Sub.stops g.raw).contains token
    (s, if stop then some 0x02 else if g.sampled + 1 = g.genLimit then some 0x01 else none)

/-- Do `f` to each listed entry that exists. -/
def modEntries (s : State) (p : Nat) (es : List Nat) (f : GazEntry → GazEntry) : State :=
  es.foldl (fun s e => if (s.gaz p e).state = .free then s else s.modGaz p e f) s

/-- The outcome of one finished leg: at place j, in a parcel with a suspect tile or not. The step of UNCHECKED and RECOMPUTED
begins with a layer-0 leg, in a prefill that of each chunk, so that a first token shows the tiles of its last chunk alone, and
DATUM_READY none: the spec does not say what the step of a prefill is (DESIGN CHOICE, log entry 43). -/
def legOutcome (p : Nat) (unch : Bool) (bad : List (Nat × Nat)) (a : State × List (Nat × Nat)) (x : Leg × Nat) :
    State × List (Nat × Nat) :=
  let (l, j) := x
  let s := a.1
  let s := if layerOf l = some 0 && !l.recompute then
      modEntries s p l.live fun g => { g with unchecked := false, recomputed := false }
    else s
  let s := if unch then modEntries s p l.live fun g => { g with unchecked := true } else s
  let s := match l.kind with
    | .prefill e _ _ => if withheld bad j e || !l.live.contains e then s else prefillDone s p e
    | _ => s
  let s := s.modServing p fun V => dropKept bad V l j
  ((s.parcel p).serving.sampled.filter fun t => t.1 = j).foldl (fun (a : State × List (Nat × Nat)) t =>
    if withheld bad j t.2.1 || a.2.any (fun z => z.1 = t.2.1) then a
    else
      let (s, r) := takeToken a.1 p t.2.1 t.2.2
      (s, match r with | some r => a.2 ++ [(t.2.1, r)] | none => a.2)) (s, a.2)

/-- S1: the state, the ends that its tokens bring, and the legs to run again. -/
def actionS1 (s : State) (p : Nat) (unch : Bool) : State × List (Nat × Nat) × List Leg :=
  match (s.parcel p).chart with
  | none => (s, [], [])
  | some c =>
    let V := (s.parcel p).serving
    let bad := suspectPairs s p c
    let (s, ends) := (V.finished.zipIdx).foldl (legOutcome p unch bad) (s, [])
    let s := (s.parcel p).serving.gaz.foldl (fun s g => finishPrefill s p g.1) s
    let again := recomputeLegs (s.parcel p).serving bad
    let s := modEntries s p (again.flatMap (·.live)) fun g => { g with recomputed := true }
    let s := settleSuspects s p V.finished.length
    (s.modServing p fun V => { V with finished := [], sampled := [] }, ends, again)

/-! ### S2: ends -/

/-- No leg composed from now on names entry e, and no input is kept for it (R274, R278). -/
def leaveStep (V : Serving) (e : Nat) : Serving :=
  { V with
      step := V.step.map fun d => if d.batch.contains e then { d with masked := d.masked ++ [e] } else d
      kept := V.kept.filter fun k => k.entry ≠ e }

/-- An entry ends for a reason of R273. -/
def endEntry (s : State) (p e reason : Nat) : State :=
  let g := s.gaz p e
  if !g.active then s
  else
    complete ((s.modGaz p e fun g => { g with state := .ended }).modServing p fun V => leaveStep V e) p g.ring
      { Comp.plain 0x03 reason g.hostTag s.now with token := g.token, value := g.sampled }

/-- Mask entry e in every leg composed: a commit that fails leaves its rows without effect (R275). -/
def maskEntry (s : State) (p e : Nat) : State :=
  let f (l : Leg) : Leg := if l.batch.contains e then { l with masked := l.masked ++ [e] } else l
  s.modParcel p fun P =>
    { P with nextPlan := P.nextPlan.map fun ls => ls.map f, legs := P.legs.map f }

/-- The evaluation is dropped; the request keeps its place unless it has left the pending list. -/
def dropEval (s : State) (p : Nat) : State :=
  let s := match (s.parcel p).serving.eval with
    | .admission _ e _ _ => maskEntry s p e
    | _ => s
  s.modServing p fun V => { V with eval := .none }

/-- The request that the evaluation is about. -/
def evalHead (s : State) (p : Nat) : Option PendReq :=
  let V := (s.parcel p).serving
  match V.eval with
  | .none => none
  | .admission buf _ _ _ => V.pending.find? fun q => q.buf = buf
  | .refuse buf _ => V.pending.find? fun q => q.buf = buf

/-- S2: ends, cancels and expiries; `ticked` says that the tick counts towards pending limits. -/
def actionS2 (s : State) (p : Nat) (ends : List (Nat × Nat)) (ticked : Bool) : State :=
  let head := evalHead s p
  let tags := (s.parcel p).serving.cancelled
  let s := ends.foldl (fun s x => endEntry s p x.1 x.2) s
  let s := ((s.parcel p).serving.gaz.filter fun g => tags.contains g.2.hostTag).foldl (fun s g => endEntry s p g.1 0x03) s
  let gone := (s.parcel p).serving.pending.filter fun q => tags.contains (Sub.tag q.raw)
  let s := gone.foldl (fun s q => refuseEntry s p (Sub.ring q.raw) 0x03 (Sub.tag q.raw) s.now) s
  let s := s.modServing p fun V =>
    { V with
        cancelled := []
        pending := (V.pending.filter fun q => !tags.contains (Sub.tag q.raw)).map fun q =>
          match q.since with
          | some t => if ticked && t < s.now then { q with waited := q.waited + 1 } else q
          | none => q }
  let s := expirePending s p
  match head with
  | some q => if (s.parcel p).serving.pending.any fun x => x.buf = q.buf then s else dropEval s p
  | none => s

/-! ### Fresh bounds (R40, R277) -/

def renewEntry (p : Nat) (s : State) (x : Nat × GazEntry) : State :=
  let V := (s.parcel p).serving
  let g := x.2
  let first := firstBoundOf V g.token g.cls s.now (ceilDiv g.promptLen V.chunk * V.nLayers)
  let early := g.generated = 0
  let s := s.modGaz p x.1 fun g =>
    if early then { g with firstBound := first } else { g with boundExtra := s.now - g.lastTick }
  let s := modHeld s p fun h =>
    if h.token ≠ g.token then h
    else if h.first then { h with bound := first } else { h with bound := g.tokenBound, prev := max h.prev s.now }
  complete s p g.ring
    { Comp.plain 0x08 0x00 g.hostTag (if early then first else 0) with token := g.token, bound := g.tokenBound }

/-- Fresh bounds where the job has cleared OVERRUN. -/
def renewBounds (s : State) (p : Nat) : State :=
  let V := (s.parcel p).serving
  if !V.renew then s
  else
    let s := s.modServing p fun V => { V with renew := false }
    (activeList V).foldl (renewEntry p) s

/-! ### S3: releases -/

/-- An ended entry that no composed leg names (R274). -/
def releaseStep (p : Nat) (s : State) (x : Nat × GazEntry) : State :=
  let g := s.gaz p x.1
  if g.state = .ended && !namedByLeg (s.parcel p) x.1 then releaseEntry s p x.1 else s

/-- A handle that is to be released, and that no entry cites any more (R283). -/
def releaseHandle (p : Nat) (s : State) (x : Nat × GazEntry) : State :=
  let g := s.gaz p x.1
  if g.state = .datum && g.releasing && g.generated = 0 then
    complete (releaseEntry s p x.1) p g.ring { Comp.plain 0x06 0x00 g.hostTag s.now with token := g.token }
  else s

/-- S3: the ended entries first, then the handles that have lost their last reference with them. -/
def actionS3 (s : State) (p : Nat) : State :=
  let s := (s.parcel p).serving.gaz.foldl (releaseStep p) s
  let s := (s.parcel p).serving.gaz.foldl (releaseHandle p) s
  (settleColumns s p).modServing p freeVersions

/-! ### S4: handle releases and inset changes -/

def applyChange (p : Nat) (s : State) (c : ReadChange) : State :=
  let V := (s.parcel p).serving
  let done (s : State) (reason value : Nat) : State :=
    complete s p c.ring { Comp.plain 0x07 reason c.hostTag s.now with value := value, index := c.arg }
  if c.opcode = 0x04 then
    match findHandle V c.arg with
    | some e => s.modGaz p e fun g => { g with releasing := true }
    | none => refuseEntry s p c.ring 0x08 c.hostTag s.now
  else
    let x := Tab.get InsetSlot.init V.insets c.arg
    let (y, reason) := if c.opcode = 0x05 then publishSlot x else ({ x with current := 0 }, 0)
    let s := s.modServing p fun V => { V with insets := Tab.set InsetSlot.init V.insets c.arg y }
    done s reason (if reason = 0 then y.current else 0)

/-- Changes read during tick N - 1, or before. -/
def actionS4 (s : State) (p : Nat) : State :=
  let due (c : ReadChange) : Bool := c.tick + 2 ≤ s.now
  let cs := (s.parcel p).serving.changes.filter due
  let s := s.modServing p fun V => { V with changes := V.changes.filter fun c => !due c }
  cs.foldl (applyChange p) s

/-! ### S5: the commit (R264, R275, R280, R283) -/

/-- The request block: a 64 B header with the sampling fields of Table 11.4, then the column numbers. -/
def requestBlock (raw : BitVec 512) (cols : List Nat) : List Byte :=
  bytesOfNat (fld raw.toNat 256 192 * 2 ^ 256) 64 ++ cols.flatMap fun c => bytesOfNat c 4

/-- The prefill legs that the plan composed for the tick holds for entry e. -/
def plannedFor (P : Parcel) (e : Nat) : Nat :=
  ((P.nextPlan.getD []).filter fun l => l.live.contains e && match l.kind with | .prefill x _ _ => x = e | _ => false).length

/-- The entry of a request committed at this boundary. -/
def committedEntry (s : State) (p : Nat) (q : PendReq) (e : Nat) (cols : List Nat) (h : Option Nat) : GazEntry :=
  let P := s.parcel p
  let V := P.serving
  let r := q.raw
  let reg : Bool := Sub.opcode r = 0x03
  let g := match h with | some x => Tab.get GazEntry.init V.gaz x | none => GazEntry.init
  { GazEntry.init with
      state := if reg then .register else .prefill
      cls := Sub.cls r
      token := V.nextToken
      ring := Sub.ring r
      promptLen := Sub.len r
      genLimit := Sub.gen r
      prefilled := g.sharedPos
      insetSlot := Sub.inset r
      insetVersion := if h.isSome then g.insetVersion else (Tab.get InsetSlot.init V.insets (Sub.inset r)).current
      handle := g.token
      sharedPos := g.sharedPos
      admitTick := s.now
      firstBound := firstBoundOf V V.nextToken (Sub.cls r) s.now (ceilDiv (Sub.len r) V.chunk * V.nLayers)
      tokenBound := if reg then 0 else tokenBoundOf V (Sub.cls r)
      hostTag := Sub.tag r
      raw := r
      cols := cols
      promptBuf := some q.buf
      composedLegs := plannedFor P e
      handleEntry := h }

/-- Commit the request at the head of the pending list. -/
def commitRequest (s : State) (p : Nat) (q : PendReq) (e : Nat) (cols : List Nat) (h : Option Nat) : State :=
  let g := committedEntry s p q e cols h
  let shared := match h with | some x => (s.gaz p x).cols | none => []
  let s := match h with
    | some x => s.modGaz p x fun y => { y with generated := y.generated + 1 }
    | none => s
  let s := s.modGaz p e fun _ => g
  let s := s.modServing p fun V =>
    { V with eval := .none, nextToken := V.nextToken + 1, pending := V.pending.filter fun x => x.buf ≠ q.buf }
  let s := { s with fresh := s.fresh + 1 }
  let s := stewardPut s p ((s.parcel p).serving.requestArea.toNat + e * 0x40000)
    (wholeGranules s.fresh (requestBlock q.raw (shared ++ cols)))
  complete s p g.ring { Comp.plain 0x01 0x00 g.hostTag g.firstBound with token := g.token, bound := g.tokenBound }

/-- S5. Nothing is admitted while OVERRUN is set, while a preemption is applied, or in a job that is not RUNNING. -/
def actionS5 (s : State) (p : Nat) : State :=
  let P := s.parcel p
  match P.serving.eval, evalHead s p with
  | .refuse _ r, some q =>
    let s := s.modServing p fun V => { V with eval := .none, pending := V.pending.filter fun x => x.buf ≠ q.buf }
    refuseEntry s p (Sub.ring q.raw) r (Sub.tag q.raw) s.now
  | .admission _ e cols h, some q =>
    if P.tick.overrun || P.ctl.job ≠ .running then dropEval s p else commitRequest s p q e cols h
  | _, _ => dropEval s p

/-! ### S6: the plan of the tick that begins (R34, R38) -/

/-- The remote lists of the legs `before` and of leg `l` keep the operations of the parcel within the limit (R378). -/
def listsFit (P : Parcel) (c : Chart) (before : List Leg) (l : Leg) : Bool :=
  let own (x : Leg) : Nat := match findTemplate c x.template with | some U => U.remoteList.length | none => 0
  own l = 0 || remoteLoad P c + before.foldl (fun a x => a + own x) 0 + own l ≤ 4096

/-- The legs of an amended plan that can be composed, up to the first that cannot, and the others: a leg to run again is
composed here, the others have been (R378, R381). -/
def amendable (P : Parcel) (c : Chart) : List Leg → List Leg → List Leg × List Leg
  | before, [] => (before, [])
  | before, l :: ls =>
    if (if l.recompute then remoteOk P c before l else listsFit P c before l) then amendable P c (before ++ [l]) ls
    else (before, l :: ls)

/-- The plan of the tick, amended for the legs to run again (R34): its legs, the legs deferred, and the legs whose recomputation
waits. -/
def amendedPlan (P : Parcel) (again plan : List Leg) : List Leg × List Leg × List Leg :=
  let (all, out) := amend again plan
  let (legs, rest) := match P.chart with
    | some c => amendable P c [] all
    | none => (all, [])
  (legs, rest.filter (fun l => !l.recompute) ++ out, rest.filter (·.recompute))

/-- A running leg that a boundary has passed is Late (Table 2.4). -/
def passLeg (late : Bool) (l : Leg) : Leg := if late && l.state = .running then { l with state := .late } else l

/-- S6 for parcel p: `wasLate` says that it was LATE before this boundary. The first leg of the plan is Committed, the others
follow (Table 2.4). A save plan that finds the parcel newly LATE is not committed: the preemption waits, and the plan is composed
again once the parcel has caught up (R42; DESIGN CHOICE: the spec says only that the preemption waits, log entry 39). -/
def commitPlan (s : State) (p : Nat) (wasLate : Bool) (again : List Leg) : State :=
  s.modParcel p fun P =>
    let runs : Bool := P.ctl.tearingDown.isNone && (P.ctl.job = .running || P.ctl.job = .draining || P.ctl.job = .saving)
    if !runs then { P with legs := [], nextPlan := none }
    else
      let plan := if wasLate || (savePlan P && P.ctl.job ≠ .saving) then [] else P.nextPlan.getD []
      let hold : Bool := P.tick.late || wasLate || P.ctl.job = .saving
      let (legs, out, wait) := if hold || again.isEmpty then (plan, [], if hold then again else []) else amendedPlan P again plan
      { P with
          nextPlan := none
          legs := commitHead (P.legs.map (passLeg P.tick.late) ++ legs)
          serving :=
            { P.serving with
                recompute := P.serving.recompute ++ wait
                deferred := out ++ P.serving.deferred } }

/-- Steps 7 and 8 for parcel p. -/
def serveParcel (late unch ticked : List Nat) (s : State) (p : Nat) : State :=
  if (s.parcel p).ctl.mode ≠ .sealed then s
  else
    let (s, ends, again) := actionS1 s p (unch.contains p)
    let s := renewBounds (actionS2 s p ends (ticked.contains p)) p
    let s := actionS5 (actionS4 (actionS3 s p) p) p
    renewCredit (commitPlan s p (late.contains p) again) p

end Sys2Proof.Machine
end

