-- ==== Sys2Proof/Machine/Boundary.lean ====
section
/-! DEFINITION. The tick boundary (02_meridian.md R26, Table 2.3): its eight steps in order. Steps 4 and 5 have rows of their
own, due at some boundaries only; such a boundary stays open until they have acted, and then does steps 6 to 8.
Readings and choices: log entries 8, 32 and 36. -/

namespace Sys2Proof.Machine

/-- Every parcel that satisfies a test. -/
def parcelsWhere (s : State) (f : Parcel → Bool) : List Nat := (List.range 16).filter fun p => f (s.parcel p)

/-! ### Steps 1 to 3 -/

/-- What steps 6 to 8 have to know of tick N. -/
def boundaryOf (s : State) : OpenBoundary :=
  { tick := s.now
    down := parcelsWhere s fun P => P.ctl.tearingDown.isSome
    wasLate := parcelsWhere s fun P => P.tick.late
    ticked := parcelsWhere s fun P => P.ctl.job ≠ .preempted
    unch := (List.range 16).filter fun p => !(s.parcel p).serving.finished.isEmpty && suspectTile s p
    hard := hardTiles s s.now }

/-- Steps 1 to 3 at the end of a tick, and the settings that take effect with the new tick; the boundary is open. -/
def openBoundary (s : State) : State :=
  let B := boundaryOf s
  let s := stepThree B.tick (intervalNs s.mer) (stepTwo (eachParcel s stepOne))
  let s := restartAllFrames (applySettings s)
  let s := eachParcel s fun s p => s.modPTick p fun x => { x with stretchChanged := false }
  { s with mer := { s.mer with opened := some B } }

/-! ### Steps 4 and 5, where they are due -/

/-- Step 4 where it is due: the level moves towards the demand, where they still differ. -/
def stretchIfDue (s : State) : State :=
  if !s.mer.dueStretch then s
  else
    let s := { s with mer := { s.mer with dueStretch := false } }
    if s.thermal.demand = s.mer.level then s else stretchStep s

/-- Step 5 where it is due. -/
def leakIfDue (s : State) : State :=
  if !s.mer.dueLeak then s else leakStep { s with mer := { s.mer with dueLeak := false } }

/-! ### Steps 6 to 8 -/

/-- What other chapters judge at a boundary, before step 6: sensors and the ladder, refresh modes, planted tests, hard closure
faults, lamps and ports. -/
def middleSteps (B : OpenBoundary) (s : State) : State :=
  let s := refreshModes (thermalBoundary s)
  linkBoundary (B.hard.foldl (hardFault B.tick) (plantedTests s))

/-- An activation that waits acts once every parcel is FREE (R339). -/
def activateIfFree (s : State) : State := if s.cart.activation && allFree s then activate s else s

/-- The Cartouche reads its memories at a boundary (DESIGN CHOICE, log entry 32): an uncorrectable byte resets the module, and
the record follows the next release (R356). -/
def cartoucheCheck (s : State) : State :=
  if s.cart.memErr = 2 then boot (resetModule { s with supply := { s.supply with cartoucheRecord := true } } 4) else s

/-- What remains of an open boundary once steps 4 and 5 have acted. -/
def closeBoundary (B : OpenBoundary) (s : State) : State :=
  let s := { s with mer := { s.mer with opened := none } }
  let s := eachParcel (middleSteps B s) (stepSix B.down)
  cartoucheCheck (activateIfFree (eachParcel s (serveParcel B.wasLate B.unch B.ticked)))

/-- The boundary that is open closes, unless its step 4 or 5 is still to come. -/
def closeIfDone (s : State) : State :=
  match s.mer.opened with
  | some B => if s.mer.dueStretch || s.mer.dueLeak then s else closeBoundary B s
  | none => s

/-- A boundary left open does what remains of it before the next tick ends. -/
def finishBoundary (s : State) : State := if s.mer.opened.isSome then closeIfDone (leakIfDue (stretchIfDue s)) else s

/-! ### The rows -/

/-- TICK_BOUNDARY: a tick of `cycles` tile cycles ends. The meridian generator runs from the release of the module (R20, R411). -/
def execTickBoundary (cycles : Nat) (s : State) : Host.Outcome State Fault Refusal :=
  if !s.mer.started then .next s
  else .next (closeIfDone (openBoundary (eachParcel (finishBoundary s) (splitTick cycles))))

/-- STRETCH_CHANGE: step 4 of a boundary at a multiple of 64 (R45). -/
def execStretchChange (s : State) : Host.Outcome State Fault Refusal :=
  if !s.mer.dueStretch then .next s else .next (closeIfDone (stretchIfDue s))

/-- BUCKET_LEAK: step 5 of a boundary at a multiple of 256 (R352), after its step 4. -/
def execBucketLeak (s : State) : Host.Outcome State Fault Refusal :=
  if !s.mer.dueLeak then .next s else .next (closeIfDone (leakIfDue (stretchIfDue s)))

end Sys2Proof.Machine
end

