-- ==== Sys2Proof/Machine/CeluloScalar.lean ====
section
/-! DEFINITION. The Celulo instructions on scalars, memory, streams and control (09_celulo.md Tables 9.7 and 9.8).
Readings and choices: log entry 33. -/

namespace Sys2Proof.Machine

/-- ALU functions (Table 9.8). -/
def aluFn (fn : Nat) (a b : Word) : Option Word :=
  let sh := b.toNat % 32
  match fn with
  | 0 => some (a + b)
  | 1 => some (a - b)
  | 2 => some (a &&& b)
  | 3 => some (a ||| b)
  | 4 => some (a ^^^ b)
  | 5 => some (a <<< sh)
  | 6 => some (a >>> sh)
  | 7 => some (a.sshiftRight sh)
  | 8 => some (a * b)
  | 9 => some (if a.toInt ≤ b.toInt then a else b)
  | 10 => some (if a.toInt ≤ b.toInt then b else a)
  | 11 => some (if a ≤ b then a else b)
  | 12 => some (if a ≤ b then b else a)
  | 13 => some (if a.toInt < b.toInt then 1 else 0)
  | 14 => some (if a < b then 1 else 0)
  | _ => none

/-- ALU: s[D] := s[A] FN s[B]. -/
def execCeluloAlu (u : UnitId) (cyc : Nat) (s : State) : Host.Outcome State Fault Refusal :=
  .next (celuloIssue s u cyc 0x01 (fun c => ([c.a, c.b], none)) fun c =>
    match aluFn c.fn c.sA c.sB with
    | some v => .ok (c.retire (setSreg c.U c.d v) 0)
    | none => CCtx.raise .illegalInstruction 0)

/-- ADDI: s[D] := s[A] + IMM18. -/
def execCeluloAddi (u : UnitId) (cyc : Nat) (s : State) : Host.Outcome State Fault Refusal :=
  .next (celuloIssue s u cyc 0x02 (fun c => ([c.a], none)) fun c => .ok (c.retire (setSreg c.U c.d (c.sA + c.imm18)) 0))

/-- ANDI: s[D] := s[A] and IMM18, sign-extended. -/
def execCeluloAndi (u : UnitId) (cyc : Nat) (s : State) : Host.Outcome State Fault Refusal :=
  .next (celuloIssue s u cyc 0x03 (fun c => ([c.a], none)) fun c => .ok (c.retire (setSreg c.U c.d (c.sA &&& c.imm18)) 0))

/-- SHI: s[D] := s[A] shifted by IMM18[4:0]; IMM18[6:5] 0 SHL, 1 SHR, 2 SRA; 3, or a bit above, is refused. -/
def execCeluloShi (u : UnitId) (cyc : Nat) (s : State) : Host.Outcome State Fault Refusal :=
  .next (celuloIssue s u cyc 0x04 (fun c => ([c.a], none)) fun c =>
    let n := fld c.w 14 5
    if fld c.w 21 11 ≠ 0 then CCtx.raise .illegalInstruction 0
    else
      match fld c.w 19 2 with
      | 0 => .ok (c.retire (setSreg c.U c.d (c.sA <<< n)) 0)
      | 1 => .ok (c.retire (setSreg c.U c.d (c.sA >>> n)) 0)
      | 2 => .ok (c.retire (setSreg c.U c.d (c.sA.sshiftRight n)) 0)
      | _ => CCtx.raise .illegalInstruction 0)

/-- LUI: s[D] := IMM22 * 2^10. -/
def execCeluloLui (u : UnitId) (cyc : Nat) (s : State) : Host.Outcome State Fault Refusal :=
  .next (celuloIssue s u cyc 0x05 (fun _ => ([], none)) fun c => .ok (c.retire (setSreg c.U c.d (BitVec.ofNat 32 (fld c.w 10 22 * 1024))) 0))

/-- FALU functions (Table 9.8, R230). -/
def faluFn (fn : Nat) (a b : Word) : Option FW :=
  match fn with
  | 0 => some (fwAdd (a, 0) (b, 0))
  | 1 => some (fwSub (a, 0) (b, 0))
  | 2 => some (fwMul (a, 0) (b, 0))
  | 3 => some (fwMax (a, 0) (b, 0))
  | 4 => some (fwMin (a, 0) (b, 0))
  | 5 => some (fwFun vexp2 (a, 0))
  | 6 => some (fwFun vrcp (a, 0))
  | 7 => some (f32rne (.ofInt a.toInt), 0)
  | 8 => let (v, fl) := convertInt 32 true .rne (f32val a); some (BitVec.ofNat 32 v, fl)
  | _ => none

/-- FALU: scalar FP32. -/
def execCeluloFalu (u : UnitId) (cyc : Nat) (s : State) : Host.Outcome State Fault Refusal :=
  .next (celuloIssue s u cyc 0x06 (fun c => ([c.a, c.b], none)) fun c =>
    match faluFn c.fn c.sA c.sB with
    | some (v, fl) =>
      .ok (c.retire (c.usable (setSreg c.U c.d v) c.d (if c.fn = 5 || c.fn = 6 then 3 else 1) false) fl)
    | none => CCtx.raise .illegalInstruction 0)

/-- SEL: s[D] := s[A] if s[D] is not 0, else s[B]. -/
def execCeluloSel (u : UnitId) (cyc : Nat) (s : State) : Host.Outcome State Fault Refusal :=
  .next (celuloIssue s u cyc 0x07 (fun c => ([c.a, c.b, c.d], none)) fun c => .ok (c.retire (setSreg c.U c.d (if c.sD ≠ 0 then c.sA else c.sB)) 0))

/-- LDW: s[D] := mem32[s[A] + 4 * IMM8]. -/
def execCeluloLdw (u : UnitId) (cyc : Nat) (s : State) : Host.Outcome State Fault Refusal :=
  .next (celuloIssue s u cyc 0x08 (fun c => ([c.a, CCtx.keyM (c.addr 4)], none)) fun c => do
    let a := c.addr 4
    CCtx.checkData a 4
    let bs ← c.readData a 4
    .ok ((c.counted a 4).retire (setSreg c.U c.d (BitVec.ofNat 32 (natOfBytes bs))) 0))

/-- STW: mem32[s[A] + 4 * IMM8] := s[D]. -/
def execCeluloStw (u : UnitId) (cyc : Nat) (s : State) : Host.Outcome State Fault Refusal :=
  .next (celuloIssue s u cyc 0x09 (fun c => ([c.a, c.d], none)) fun c => do
    let a := c.addr 4
    CCtx.checkData a 4
    .ok ((c.store a (bytesOfNat c.sD.toNat 4)).retire c.U 0))

/-- A vector register field: 0 to 7 (R224). -/
def vectorField (i : Nat) : Except CStop Unit := if i < 8 then .ok () else CCtx.raise .illegalInstruction 0

/-- VLD: v[D] := mem128[s[A] + 16 * IMM8]. -/
def execCeluloVld (u : UnitId) (cyc : Nat) (s : State) : Host.Outcome State Fault Refusal :=
  .next (celuloIssue s u cyc 0x0A (fun c => ([c.a, CCtx.keyM (c.addr 16)], none)) fun c => do
    vectorField c.d
    let a := c.addr 16
    CCtx.checkData a 16
    let bs ← c.readData a 16
    .ok ((c.counted a 16).retire (setVreg c.U c.d (BitVec.ofNat 128 (natOfBytes bs))) 0))

/-- VST: mem128[s[A] + 16 * IMM8] := v[D]. -/
def execCeluloVst (u : UnitId) (cyc : Nat) (s : State) : Host.Outcome State Fault Refusal :=
  .next (celuloIssue s u cyc 0x0B (fun c => ([c.a, CCtx.keyV c.d], none)) fun c => do
    vectorField c.d
    let a := c.addr 16
    CCtx.checkData a 16
    .ok ((c.store a (bytesOfNat (vreg c.U c.d).toNat 16)).retire c.U 0))

/-! ### Streams -/

/-- The next `n` bytes of the FIFO and what is left of it; nothing where it is short (R219). -/
def takeFifo : Nat → List FifoGranule → Option (List Byte × List FifoGranule)
  | 0, l => some ([], l)
  | _, [] => none
  | n, g :: gs =>
    if n < g.bytes.length then some (g.bytes.take n, { g with bytes := g.bytes.drop n } :: gs)
    else
      match takeFifo (n - g.bytes.length) gs with
      | some (bs, r) => some (g.bytes ++ bs, r)
      | none => none

/-- Bytes in the FIFO. -/
def fifoBytes (l : List FifoGranule) : Nat := (l.map fun g => g.bytes.length).sum

/-- The granules that the next `n` bytes lie in. -/
def fifoTouched : Nat → List FifoGranule → List FifoGranule
  | 0, _ => []
  | _, [] => []
  | n, g :: gs => g :: fifoTouched (n - g.bytes.length) gs

/-- Take `n` bytes of S: `none` where the instruction waits for them; STREAM_EMPTY where none can come, and
STREAM_UNCORRECTABLE where a byte lies in a granule the port read as uncorrectable (Table 9.13). -/
def takeStream (U : CUnit) (n : Nat) : Except CStop (Option (List Byte × CUnit)) :=
  if fifoBytes U.fifo < n then
    if U.openRead.isNone && U.pendingRead.isNone then CCtx.raise .streamEmpty 0 else .ok none
  else
    match (fifoTouched n U.fifo).find? (·.bad), takeFifo n U.fifo with
    | some g, _ => CCtx.raise .streamUncorrectable g.addr
    | none, some (bs, r) => .ok (some (bs, { U with fifo := r }))
    | none, none => .ok none

/-- VLDS: v[D] := the next 16 B of the FIFO, waiting for them. -/
def execCeluloVlds (u : UnitId) (cyc : Nat) (s : State) : Host.Outcome State Fault Refusal :=
  .next (celuloIssue s u cyc 0x0C (fun _ => ([], none)) fun c => do
    vectorField c.d
    match ← takeStream c.U 16 with
    | none => .ok c.s0
    | some (bs, U) => .ok (c.retire (setVreg U c.d (BitVec.ofNat 128 (natOfBytes bs))) 0))

/-- Is a granule of the write queue partly appended? -/
def partlyAppended (U : CUnit) : Bool := U.writeQueue.any fun g => g.bytes.length < 64

/-- Append 16 B to the granule at the tail of the write queue. -/
def appendTail (bs : List Byte) : List QueuedGranule → List QueuedGranule
  | [] => []
  | [g] => [{ g with bytes := g.bytes ++ bs }]
  | g :: gs => g :: appendTail bs gs

/-- VSTW appends v[D] to the write stream (R221). -/
def execCeluloVstw (u : UnitId) (cyc : Nat) (s : State) : Host.Outcome State Fault Refusal :=
  .next (celuloIssue s u cyc 0x0D (fun c => ([CCtx.keyV c.d], none)) fun c => do
    vectorField c.d
    let bs := bytesOfNat (vreg c.U c.d).toNat 16
    if partlyAppended c.U then .ok (c.retire { c.U with writeQueue := appendTail bs c.U.writeQueue } 0)
    else
      match c.U.writeStream with
      | none => CCtx.raise .writeStream 0
      | some w =>
        if w.left = 0 then CCtx.raise .writeStream w.addr
        else if 8 ≤ c.U.writeQueue.length then CCtx.raise .writeQueueFull w.addr
        else
          .ok (c.retire { c.U with writeStream := some { addr := w.addr + 64, left := w.left - 1 },
                                   writeQueue := c.U.writeQueue ++ [{ addr := w.addr, bytes := bs }] } 0))

/-- The checks of a stream: base aligned to granules, a count, and the end within the pair. -/
def streamCheck (base count : Nat) : Except CStop Unit :=
  if base % 64 ≠ 0 then CCtx.raise .misaligned base
  else if count = 0 || pairBytes < base + 64 * count then CCtx.raise .streamRange base
  else .ok ()

/-- RSTR queues a read stream: base s[A], s[B] granules (R219). -/
def execCeluloRstr (u : UnitId) (cyc : Nat) (s : State) : Host.Outcome State Fault Refusal :=
  .next (celuloIssue s u cyc 0x0E (fun c => ([c.a, c.b], none)) fun c => do
    let base := c.sA.toNat
    let n := c.sB.toNat
    streamCheck base n
    match c.U.openRead, c.U.pendingRead with
    | none, _ => .ok (c.retire { c.U with openRead := some { addr := base, left := n } } 0)
    | some _, none => .ok (c.retire { c.U with pendingRead := some { addr := base, left := n } } 0)
    | some _, some _ => CCtx.raise .streamQueueFull base)

/-- WSTR opens a write stream: base s[A], s[B] granules (R221). -/
def execCeluloWstr (u : UnitId) (cyc : Nat) (s : State) : Host.Outcome State Fault Refusal :=
  .next (celuloIssue s u cyc 0x0F (fun c => ([c.a, c.b], none)) fun c => do
    let base := c.sA.toNat
    let n := c.sB.toNat
    streamCheck base n
    if partlyAppended c.U then CCtx.raise .granulePartial base
    else .ok (c.retire { c.U with writeStream := some { addr := base, left := n } } 0))

/-- WAITW waits until the write queue has IMM18 free entries. -/
def execCeluloWaitw (u : UnitId) (cyc : Nat) (s : State) : Host.Outcome State Fault Refusal :=
  .next (celuloIssue s u cyc 0x10 (fun _ => ([], none)) fun c =>
    if sfld c.w 14 18 ≤ (8 - c.U.writeQueue.length : Nat) then .ok (c.retire c.U 0) else .ok c.s0)

/-! ### Control -/

/-- LOOP: a counted loop of LEN instructions, s[D] trips; a count of 0 skips the body (R231). -/
def execCeluloLoop (u : UnitId) (cyc : Nat) (s : State) : Host.Outcome State Fault Refusal :=
  .next (celuloIssue s u cyc 0x18 (fun c => ([c.d], none)) fun c =>
    let len := fld c.w 10 12
    let n := c.sD.toNat
    let last := c.pc + len
    let outer := match c.U.loops with | f :: _ => f.last < last | [] => false
    if c.U.inHandler then CCtx.raise .illegalInstruction 0
    else if len = 0 || 2 ^ 20 < n || 2047 < last || outer || 4 ≤ c.U.loops.length then CCtx.raise .loopRange 0
    else if n = 0 then
      let (npc, loops, _) := afterInstr last c.U.loops
      .ok (c.s.setUnit c.u { c.U with pc := BitVec.ofNat 32 npc, loops := loops, nextIssue := c.k + 1 })
    else
      .ok (c.s.setUnit c.u { c.U with pc := BitVec.ofNat 32 (c.pc + 1), nextIssue := c.k + 1,
                                      loops := { first := c.pc + 1, last := last, trips := n, done := 0 } :: c.U.loops }))

/-- DONE: read streams are abandoned and the FIFO emptied; it retires once the write queue is empty, the launch is
complete, and a pending launch starts in the next cycle (R234, R235, R238). -/
def execCeluloDone (u : UnitId) (cyc : Nat) (s : State) : Host.Outcome State Fault Refusal :=
  .next (celuloIssue s u cyc 0x19 (fun _ => ([], none)) fun c =>
    if partlyAppended c.U then
      CCtx.raise .granulePartial (match c.U.writeQueue.getLast? with | some g => g.addr | none => 0)
    else
      let s := logNotTaken c.s c.u c.cyc c.U.fifo
      let U := { c.U with openRead := none, pendingRead := none, fifo := [] }
      if !c.U.writeQueue.isEmpty then .ok (s.setUnit c.u { U with finishing := true })
      else
        let s := countCelulo s c.u (c.k + 1)
        let s := match c.U.running with | some L => completeLaunch s c.u L | none => s
        match c.U.pendingLaunch with
        | some L => .ok (s.setUnit c.u (startUnit { U with pendingLaunch := none } L (logicalUnit s c.u) (c.k + 1)))
        | none => .ok (s.setUnit c.u { U with running := none, finishing := false, loops := [], writeStream := none }))

/-- FAIL: a direct fault with the code s[A][7:0] (R244). -/
def execCeluloFail (u : UnitId) (cyc : Nat) (s : State) : Host.Outcome State Fault Refusal :=
  .next (celuloIssue s u cyc 0x1A (fun c => ([c.a], none)) fun c => .error (.direct .softwareFail (c.sA.toNat % 256)))

/-- ERET returns from the handler by the frame at sp (R245). -/
def execCeluloEret (u : UnitId) (cyc : Nat) (s : State) : Host.Outcome State Fault Refusal :=
  .next (celuloIssue s u cyc 0x1B (fun c => ([15, CCtx.keyM (sreg c.U 15).toNat], none)) fun c => do
    let sp := (sreg c.U 15).toNat
    if !c.U.inHandler then CCtx.raise .illegalInstruction 0
    CCtx.checkData sp 16
    let bs ← c.readData sp 16
    let f := natOfBytes bs
    let U := setSreg c.U 15 (BitVec.ofNat 32 (sp + 16))
    .ok ((c.counted sp 16).s.setUnit c.u
      { U with pc := BitVec.ofNat 32 (fld f 0 32), inHandler := bitAt f 40, nextIssue := c.k + 1 }))

/-- NOP. -/
def execCeluloNop (u : UnitId) (cyc : Nat) (s : State) : Host.Outcome State Fault Refusal :=
  .next (celuloIssue s u cyc 0x1C (fun _ => ([], none)) fun c => .ok (c.retire c.U 0))

end Sys2Proof.Machine
end

