-- ==== Sys2Proof/Machine/CeluloVector.lean ====
section
/-! DEFINITION. The Celulo instructions on vectors and formats (09_celulo.md R224 to R226, R230).
Readings and choices: log entry 34. -/

namespace Sys2Proof.Machine

/-! ### The format control word (Table 9.5) -/

def fmtV (w : BitVec 32) : Option Fmt := Fmt.ofCode (fld w.toNat 0 4)
def fmtM (w : BitVec 32) : Option Fmt := Fmt.ofCode (fld w.toNat 4 4)
/-- The scale of the vector operand, where it has one. -/
def scaleV (w : BitVec 32) : Option Nat := if bitAt w.toNat 24 then some (fld w.toNat 8 8) else none
def scaleM (w : BitVec 32) : Option Nat := if bitAt w.toNat 25 then some (fld w.toNat 16 8) else none

/-- Elements per operation (Table 9.4; INT32, which VCVT alone may read, as FP32). -/
def celuloElems (f : Fmt) : Nat := if f.bits ≤ 8 then 16 else if f.bits = 16 then 8 else 4

/-- Register parts of a format (Table 9.4). -/
def celuloParts (f : Fmt) : Nat := match f with | .tern2 => 4 | .int4 | .fp4 => 2 | _ => 1

/-- Pairs that Table 9.4 and R51 allow for VDOT. -/
def celuloPair (v m : Fmt) : Bool :=
  if v.bits ≤ 8 then m = .int8 || m = .uint8 || m = .e4m3 || m = .e5m2
  else v = m && v ≠ .int32

/-- Does SETF accept the word (R226)? -/
def fcwOk (w : BitVec 32) : Bool :=
  match fmtV w, fmtM w with
  | some v, some m =>
    v ≠ .e8m0 && m ≠ .e8m0 && 8 ≤ m.bits && (v ≠ .tern2 || bitAt w.toNat 24) && fld w.toNat 26 2 ≠ 3 &&
    (v = .int32 || celuloPair v m)
  | _, _ => false

/-- SETF: the format control word := s[A]. -/
def execCeluloSetf (u : UnitId) (cyc : Nat) (s : State) : Host.Outcome State Fault Refusal :=
  .next (celuloIssue s u cyc 0x15 (fun c => ([c.a], none)) fun c =>
    if fcwOk c.sA then .ok (c.retire { c.U with fcw := c.sA } 0) else CCtx.raise .illegalFormat 0)

/-- SETS: SC_V := s[A][7:0]; SC_M := s[B][7:0]. -/
def execCeluloSets (u : UnitId) (cyc : Nat) (s : State) : Host.Outcome State Fault Refusal :=
  .next (celuloIssue s u cyc 0x16 (fun c => ([c.a, c.b], none)) fun c =>
    let w := c.U.fcw
    .ok (c.retire { c.U with fcw := w &&& 0xFF0000FF ||| (c.sA &&& 0xFF) <<< 8 ||| (c.sB &&& 0xFF) <<< 16 } 0))

/-! ### Vector operands (R224, R225) -/

/-- Element codes packed in a number. -/
def unpackCodes (bits n v : Nat) : List Nat := (List.range n).map fun i => fld v (bits * i) bits

/-- The element codes of a vector operand: a part of a register, or the next bytes of S; `none` where it waits. -/
def vectorOperand (c : CCtx) (f : Fmt) (field part : Nat) : Except CStop (Option (List Nat × CUnit)) :=
  let n := celuloElems f
  let bits := n * f.bits
  if field < 8 then
    if celuloParts f ≤ part then CCtx.raise .illegalInstruction 0
    else .ok (some (unpackCodes f.bits n (fld (vreg c.U field).toNat (bits * part) bits), c.U))
  else if field = 8 then
    if part ≠ 0 then CCtx.raise .illegalInstruction 0
    else do
      match ← takeStream c.U (bits / 8) with
      | none => .ok none
      | some (bs, U) => .ok (some (unpackCodes f.bits n (natOfBytes bs), U))
  else CCtx.raise .illegalInstruction 0

/-- Values of element codes with a scale, and the flags of reading them (R53, R56). -/
def celuloVals (f : Fmt) (codes : List Nat) (scale : Option Nat) : List FVal × FFlags :=
  let vs := codes.map fun x => f.scaledValue x scale
  (vs.map (·.1), joinFlags (vs.map (·.2)))

/-- The dot product added to the start value (R230). -/
def celuloDot (w : BitVec 32) (fv fm : Fmt) (xs ys : List Nat) (start : Word) : FW :=
  if integerPath fv fm (scaleV w).isSome (scaleM w).isSome then
    (start + intDot (rowInts fv xs) (rowInts fm ys), 0)
  else
    let (a, fa) := celuloVals fv xs (scaleV w)
    let (b, fb) := celuloVals fm ys (scaleM w)
    let prods : List FW := (a.zip b).map fun ab => fwOf [ab.1, ab.2] (FVal.mul ab.1 ab.2) 0
    let t := (treeFold fwAdd 4 prods).headD (0, 0)
    fwAdd (start, fa ||| fb) t

/-- VDOT: s[D] := (0 if Z else s[D]) + dot(B operand, mem128[s[A] + 16 * IMM8]). -/
def execCeluloVdot (u : UnitId) (cyc : Nat) (s : State) : Host.Outcome State Fault Refusal :=
  .next (celuloIssue s u cyc 0x11 (fun c => ([c.a, CCtx.keyM (c.addr 16), CCtx.keyV c.b], if bitAt c.w 28 then none else some c.d)) fun c => do
    let w := c.U.fcw
    match fmtV w, fmtM w with
    | some fv, some fm =>
      if 8 < c.b || (c.b < 8 && celuloParts fv ≤ c.part) || (c.b = 8 && c.part ≠ 0) then CCtx.raise .illegalInstruction 0
      if !celuloPair fv fm || (fv = .tern2 && (scaleV w).isNone) then CCtx.raise .illegalFormat 0
      let a := c.addr 16
      CCtx.checkData a 16
      match ← vectorOperand c fv c.b c.part with
      | none => .ok c.s0
      | some (xs, U) =>
        let bs ← c.readData a 16
        let ys := unpackCodes fm.bits (celuloElems fv) (natOfBytes bs)
        let (v, fl) := celuloDot w fv fm xs ys (if bitAt c.w 28 then 0 else c.sD)
        .ok ((c.counted a 16).retire (c.usable (setSreg U c.d v) c.d 2 true) fl)
    | _, _ => CCtx.raise .illegalFormat 0)

/-- The line's entries after a VMACM: each product rounded once, added with one rounding (R230). -/
def macLine (k : Word) : List FVal → List Word → List FW
  | x :: xs, y :: ys => fwAdd (y, 0) (fwOf [f32val k, x] (FVal.mul (f32val k) x) 0) :: macLine k xs ys
  | _, _ => []

/-- VMACM: line[s[A] + 64 * IMM8] entries 0 to n - 1 += s[B] * elements of the D operand. -/
def execCeluloVmacm (u : UnitId) (cyc : Nat) (s : State) : Host.Outcome State Fault Refusal :=
  .next (celuloIssue s u cyc 0x12 (fun c => ([c.a, c.b, CCtx.keyM (c.addr 64), CCtx.keyV c.d], none)) fun c => do
    let w := c.U.fcw
    match fmtV w with
    | some fv =>
      if 8 < c.d || (c.d < 8 && celuloParts fv ≤ c.part) || (c.d = 8 && c.part ≠ 0) then CCtx.raise .illegalInstruction 0
      if fv = .int32 || fv = .e8m0 || (fv = .tern2 && (scaleV w).isNone) then CCtx.raise .illegalFormat 0
      let a := c.addr 64
      let n := celuloElems fv
      CCtx.checkData a 64
      match ← vectorOperand c fv c.d c.part with
      | none => .ok c.s0
      | some (xs, U) =>
        let bs ← c.readData a (4 * n)
        let entries := (unpackCodes 32 n (natOfBytes bs)).map (BitVec.ofNat 32)
        let (vals, fl) := celuloVals fv xs (scaleV w)
        let rs := macLine c.sB vals entries
        .ok (((c.counted a (4 * n)).store a (rs.flatMap fun r => bytesOfNat r.1.toNat 4)).retire
          (c.usable U (CCtx.keyM a) 3 false) (fl ||| joinFlags (rs.map (·.2))))
    | none => CCtx.raise .illegalFormat 0)

/-! ### VF and VCVT -/

/-- Lane `i` of a vector register. -/
def lane (v : BitVec 128) (i : Nat) : Word := BitVec.ofNat 32 (fld v.toNat (32 * i) 32)

/-- A vector register from its four lanes. -/
def ofLanes (l : List Word) : BitVec 128 := BitVec.ofNat 128 (packCodes 32 (l.map (·.toNat)))

/-- A lane-by-lane VF function (Table 9.8). -/
def vfLane (fn : Nat) (a b d : Word) : Option FW :=
  match fn with
  | 0 => some (fwAdd (a, 0) (b, 0))
  | 1 => some (fwSub (a, 0) (b, 0))
  | 2 => some (fwMul (a, 0) (b, 0))
  | 3 => some (fwMax (a, 0) (b, 0))
  | 4 => some (fwMin (a, 0) (b, 0))
  | 5 => some (fwFma (a, 0) (b, 0) (d, 0))
  | 6 => some (fwFun vexp2 (a, 0))
  | 7 => some (fwFun vrcp (a, 0))
  | _ => none

/-- VF: a 4-lane FP32 operation, a reduction to s[D], a splat, or an extract (Table 9.8). -/
def execCeluloVf (u : UnitId) (cyc : Nat) (s : State) : Host.Outcome State Fault Refusal :=
  .next (celuloIssue s u cyc 0x13 (fun c => ([if c.fn = 10 then CCtx.keyS c.a else CCtx.keyV c.a, CCtx.keyV c.b, CCtx.keyV c.d], none)) fun c => do
    let va := vreg c.U c.a
    let l (i : Nat) : FW := (lane va i, 0)
    if c.fn ≤ 7 then
      vectorField c.a
      vectorField c.d
      if c.fn ≤ 5 then vectorField c.b
      let rs := (List.range 4).filterMap fun i => vfLane c.fn (lane va i) (lane (vreg c.U c.b) i) (lane (vreg c.U c.d) i)
      .ok (c.retire (c.usable (setVreg c.U c.d (ofLanes (rs.map (·.1)))) (CCtx.keyV c.d) (if 6 ≤ c.fn then 3 else 1) false)
        (joinFlags (rs.map (·.2))))
    else if c.fn = 8 then
      vectorField c.a
      let r := fwAdd (fwAdd (l 0) (l 1)) (fwAdd (l 2) (l 3))
      .ok (c.retire (setSreg c.U c.d r.1) r.2)
    else if c.fn = 9 then
      vectorField c.a
      let r := fwMax (fwMax (l 0) (l 1)) (fwMax (l 2) (l 3))
      .ok (c.retire (setSreg c.U c.d r.1) r.2)
    else if c.fn = 10 then
      vectorField c.d
      .ok (c.retire (setVreg c.U c.d (ofLanes [c.sA, c.sA, c.sA, c.sA])) 0)
    else if c.fn = 11 then
      vectorField c.a
      .ok (c.retire (setSreg c.U c.d (lane va (c.b % 4))) 0)
    else CCtx.raise .illegalInstruction 0)

/-- Part PD of a register of `width` bits a part, after a VCVT: the converted elements from the part's first bit on, as many
as it holds, and in the bits that no element fills a free value (log entry 34). -/
def putPart (old width pd bits : Nat) (codes : List Nat) (rest : Nat) : Nat :=
  let m := min codes.length (width / bits)
  let new := packCodes bits (codes.take m) + fld rest (m * bits) (width - m * bits) * 2 ^ (m * bits)
  old - fld old (width * pd) width * 2 ^ (width * pd) + new * 2 ^ (width * pd)

/-- VCVT: part PD of v[D] := part PS of v[A], converted from FMT_V to FMT_D (R225, R230): the n elements of the operand, n
being FMT_V's. -/
def execCeluloVcvt (u : UnitId) (cyc : Nat) (s : State) : Host.Outcome State Fault Refusal :=
  .next (celuloIssue s u cyc 0x14 (fun c => ([CCtx.keyV c.a, CCtx.keyV c.d], none)) fun c => do
    let w := c.U.fcw
    let ps := fld c.w 22 2
    let pd := fld c.w 24 2
    vectorField c.a
    vectorField c.d
    match fmtV w, Fmt.ofCode (fld c.w 18 4), Rnd.ofField (fld w.toNat 26 2) with
    | some fv, some fd, some r =>
      if celuloParts fv ≤ ps || celuloParts fd ≤ pd then CCtx.raise .illegalInstruction 0
      if fd = .tern2 || fd = .e8m0 || fv = .e8m0 || (fv = .tern2 && (scaleV w).isNone) then CCtx.raise .illegalFormat 0
      let n := celuloElems fv
      let xs : List FW := (unpackCodes fv.bits n (fld (vreg c.U c.a).toNat (n * fv.bits * ps) (n * fv.bits))).map fun x =>
        widen fv x (scaleV w)
      let (codes, _, fl) := vecConvert fd r (bitAt w.toNat 28) false (xs.map (·.1))
      let v := putPart (vreg c.U c.d).toNat (celuloElems fd * fd.bits) pd fd.bits codes (Config.vcvtRest c.s.fresh)
      let c' : CCtx := { c with s := { c.s with fresh := c.s.fresh + 1 } }
      .ok (c'.retire (setVreg c.U c.d (BitVec.ofNat 128 v)) (fl ||| joinFlags (xs.map (·.2))))
    | _, _, _ => CCtx.raise .illegalFormat 0)

end Sys2Proof.Machine
end

