-- ==== Sys2Proof/Machine/ObjectWrites.lean ====
section
/-! DEFINITION. What an accepted access writes to each object: the own rule of every writable object (the object tables of
all chapters), over the shared operations that the named commands use.
Readings and choices: log entries 46, 65 and 67. -/

namespace Sys2Proof.Machine

def put (s : State) : Written := (.ok, s)

/-! ### Channels and tiles -/

def setSwapThreshold (s : State) (c v : Nat) : Written :=
  if v = 0 then refuse s else put (s.modChannel c fun K => { K with swapThreshold := BitVec.ofNat 16 v })

def modTgOf (s : State) (c : Nat) (f : TrafficGen → TrafficGen) : Written := put (modTg s c f)

/-- TG_SEED: 0 is refused for a PRBS pattern. -/
def setTgSeed (s : State) (c v : Nat) : Written :=
  if v = 0 && tgPatternOf (s.channel c).tg.control ≤ 2 then refuse s else modTgOf s c fun g => { g with seed := BitVec.ofNat 32 v }

/-- BUCKET_STATUS: OVERFLOWED is cleared by 1. -/
def clearBucket (t : Tab Bucket) (i v : Nat) : Tab Bucket :=
  if bitAt v 0 then Tab.modify Bucket.init t i fun b => { b with overflowed := false } else t

def writeChannel (s : State) (c sub v : Nat) : Written :=
  match sub with
  | 4 => setRetrain s c v
  | 5 => setSwapThreshold s c v
  | 0x10 => setTgControl s c v
  | 0x11 => modTgOf s c fun g => { g with offset := BitVec.ofNat 64 v }
  | 0x12 => modTgOf s c fun g => { g with length := BitVec.ofNat 64 v }
  | 0x13 => setTgSeed s c v
  | 0x22 => put (s.modChannel c fun K => { K with celuloFormatStatus := K.celuloFormatStatus &&& ~~~(BitVec.ofNat 32 (v % 64)) })
  | 0x40 => setRetirePage s c v
  | 0x41 => setRetirePair s c v
  | 0x61 => put { s with log := { s.log with chanBuckets := clearBucket s.log.chanBuckets c v } }
  | _ => refuse s

/-- CLOSURE_STATUS (Table 4.9): the four sticky bits are cleared by 1. -/
def clearClosure (C : Closure) (v : Nat) : Closure :=
  { C with error := C.error && !bitAt v 0, hard := C.hard && !bitAt v 1, silent := C.silent && !bitAt v 2,
           stuck := C.stuck && !bitAt v 3 }

/-- CLOSURE_TOL (R94): TOL_EXP is 6 to 13. -/
def setClosureTol (s : State) (t v : Nat) : Written :=
  if v % 16 < 6 || 13 < v % 16 then refuse s
  else put (s.modTile t fun T => { T with closure := { T.closure with tol := BitVec.ofNat 16 (v % 16 + v / 256 * 256) } })

def writeTile (s : State) (t sub v : Nat) : Written :=
  match sub with
  | 0x20 => put (s.modTile t fun T => { T with closure := clearClosure T.closure v })
  | 0x24 => setClosureTol s t v
  | 0x30 => put (s.modTile t fun T => { T with formatStatus := T.formatStatus &&& ~~~(BitVec.ofNat 32 v &&& 0x1F3F) })
  | 0x61 => put { s with log := { s.log with tileBuckets := clearBucket s.log.tileBuckets t v } }
  | _ => refuse s

/-! ### Parcels -/

/-- An area of n bytes is 2 MiB aligned and lies in the parcel (R287). -/
def areaOk (s : State) (p a n : Nat) : Bool := a % 0x200000 = 0 && a + n ≤ 24 * s.sectorCount p * channelBytes

def modServingOf (s : State) (p : Nat) (ok : Bool) (f : Serving → Serving) : Written :=
  if ok then put (s.modServing p f) else refuse s

def writeServing (s : State) (p sub v : Nat) : Written :=
  let V := (s.parcel p).serving
  match sub with
  | 6 => modServingOf s p (v ≤ 383 && v + V.stripeCount.toNat ≤ 384) fun V => { V with stripeFirst := BitVec.ofNat 16 v }
  | 7 => modServingOf s p (V.stripeFirst.toNat + v ≤ 384) fun V => { V with stripeCount := BitVec.ofNat 16 v }
  | 8 => modServingOf s p (areaOk s p v (256 * s.sectorCount p * 0x100000)) fun V => { V with promptArea := BitVec.ofNat 64 v }
  | 9 => modServingOf s p (areaOk s p v (1024 * s.sectorCount p * 0x40000)) fun V => { V with requestArea := BitVec.ofNat 64 v }
  | 0xA => modServingOf s p true fun V => { V with clearOnFree := v = 1 }
  | _ => refuse s

def writePctl (who : Principal) (s : State) (p sub v : Nat) : Written :=
  match sub with
  | 1 => setParcelSectors s p v
  | 3 => setJobControl who s p v
  | 7 => if v % 0x200000 ≠ 0 then refuse s else put (s.modCtl p fun c => { c with saveArea := BitVec.ofNat 64 v })
  | _ => refuse s

/-- The defined bits of an entry of GROUP_TABLE (R376): the others are reserved, and read 0 (R7). -/
def groupEntryBits : Nat := 2 ^ 68 - 1 + 0xFFFF * 2 ^ 72

/-- GROUP_TABLE as it is held. -/
def groupTable (data : List Byte) : BitVec 8192 :=
  BitVec.ofNat 8192 (natOfBytes ((chunks 16 data.length data).flatMap fun e =>
    bytesOfNat (natOfBytes e &&& groupEntryBits) 16))

def writeGroup (s : State) (p sub v : Nat) : Written :=
  let R := (s.parcel p).remote
  match sub with
  | 1 => if v = 0 || 64 < v || v ≤ R.position then refuse s else put (modRemote s p fun R => { R with size := v })
  | 2 => if R.size ≤ v then refuse s else put (modRemote s p fun R => { R with position := v })
  | 4 => put (if bitAt v 0 then modRemote s p fun R => { R with fault := false } else s)
  | _ => refuse s

def writeBisect (s : State) (p sub v : Nat) : Written :=
  match sub with
  | 1 => if v % 0x200000 ≠ 0 then refuse s else put (s.modParcel p fun P => { P with bisect := { P.bisect with base := BitVec.ofNat 64 v } })
  | 2 => if 1 < v then refuse s else put (s.modParcel p fun P => { P with bisect := { P.bisect with scope := BitVec.ofNat 8 v } })
  | _ => refuse s

/-- DELIVERY_START written over a transport: the header is what the host returns. -/
def writePsec (s : State) (p sub v : Nat) : Written :=
  match sub with
  | 5 => setDeliveryStart (drawn s) p (BitVec.ofNat 64 v) (Config.hostHeader (BitVec.ofNat 64 v) s.fresh)
  | 6 => setDeliveryAbort s p v
  | _ => refuse s

/-! ### The module -/

def writeClock (s : State) (sub v : Nat) : Written :=
  match sub with
  | 2 => setRefClear (drawn s) v (Config.refGoodUs s.fresh)
  | 3 => setSsc s v
  | 5 => setModuleReset s v
  | _ => refuse s

/-- A node number of GATE_REQUEST (Table 16.8). -/
def gateNode (v : Nat) : GateNode := if v = 0xFF then .own else if v = 0x20 then .steward else .tile v

def writeDomain (s : State) (n sub v : Nat) : Written :=
  match sub with
  | 1 => put (modDomain s n fun D => { D with coasted := D.coasted && !bitAt v 6 })
  | 2 => setRefSel s n v
  | 3 => setForceSwitch s n v
  | 4 => setGateRequest s n (gateNode (v % 256)) (!bitAt v 8)
  | _ => refuse s

def writeSensor (s : State) (i sub v : Nat) : Written :=
  match sub with
  | 3 => setTreatment s i v
  | 4 => setSensorClear s i v
  | 6 => setExtAlarm s i v
  | 7 => setSensorBeta s i v
  | _ => refuse s

def writeSector (s : State) (k sub v : Nat) : Written :=
  match sub with
  | 4 => setRetireTile s k v
  | 5 => setRetireChannel s k v
  | 6 => setRetireSteward s k v
  | _ => refuse s

def writeLamp (s : State) (m sub v : Nat) : Written :=
  match sub with
  | 2 => setLampControl s m v
  | 4 => if v = 0 then refuse s else put (modLamp s m fun L => { L with darkUw := BitVec.ofNat 16 v })
  | _ => refuse s

def writeLog (s : State) (sub v : Nat) : Written :=
  let L := s.log
  match sub with
  | 1 => put { s with log := { L with summary := L.summary &&& ~~~(BitVec.ofNat 32 v) } }
  | 2 => put { s with log := { L with intEnable := BitVec.ofNat 32 v &&& 0xFFFFF } }
  | 4 => if v < L.ackSeq || L.nextSeq ≤ v then refuse s else put { s with log := { L with ackSeq := v } }
  | 6 => put { s with log := { L with readSeq := v } }
  | 8 => setBucketDepth s v
  | _ => refuse s

/-- TAMPER_STATUS: the factory clears bits; once none is left the next event is the first again. -/
def clearTamper (s : State) (v : Nat) : State :=
  let t := s.cart.tamper &&& ~~~(BitVec.ofNat 32 v &&& 0x3FF)
  { s with cart := { s.cart with
      tamper := t
      tamperSeen := s.cart.tamperSeen && t ≠ 0
      tamperTick := if t = 0 then 0 else s.cart.tamperTick } }

/-- An accepted write of a value of a fixed type. -/
def writeNat (s : State) (who : Principal) (f : Fam) (sub v : Nat) : Written :=
  match f with
  | .clock => writeClock s sub v
  | .domain n => writeDomain s n sub v
  | .thermal => setPowerLimit s v
  | .sensor i => writeSensor s i sub v
  | .meridian => setIntervalSteps s v
  | .pmeridian p => setOverrun s p v
  | .sector k => writeSector s k sub v
  | .pctl p => writePctl who s p sub v
  | .serving p => writeServing s p sub v
  | .channel c => writeChannel s c sub v
  | .tile t => writeTile s t sub v
  | .port q => setPortParcel s q v
  | .lamp m => writeLamp s m sub v
  | .group p => writeGroup s p sub v
  | .log => writeLog s sub v
  | .steward k => put { s with log := { s.log with stewBuckets := clearBucket s.log.stewBuckets k v } }
  | .cart => put (clearTamper s v)
  | .psec p => writePsec s p sub v
  | .bisect p => writeBisect s p sub v
  | .identity => refuse s
  | .geometry => refuse s
  | .comm => refuse s
  | .acct _ => refuse s

/-- FACTORY_AUTH (R456): accepted on transport 2 for this module, this epoch and a future tick; an empty value ends the
access. -/
def setFactoryAuth (s : State) (tr : Nat) (token : Option FactoryToken) : Written :=
  match token with
  | none => if tr = 2 then put { s with legend := { s.legend with factory := none } } else refuse s
  | some t =>
    if tr = 2 && t.signed && t.serial = Config.moduleSerial && t.epoch = s.cart.aliasEpoch && s.now < t.expiry then
      put { s with legend := { s.legend with factory := some t.expiry } }
    else refuse s

/-- An accepted write of a BLOB that came over a transport. -/
def writeBlob (s : State) (tr : Nat) (f : Fam) (data : List Byte) : Written :=
  match f with
  | .group p =>
    if data.length ≠ 1024 then (.type, s) else put (modRemote s p fun R => { R with table := groupTable data })
  | .psec p => (match Config.exportRequest data with | some r => setExportAuth s p r | none => refuse s)
  | .comm =>
    if data.isEmpty then setFactoryAuth s tr none
    else (match Config.factoryToken data with | some t => setFactoryAuth s tr (some t) | none => refuse s)
  | _ => refuse s

/-- The parcel whose sealing closes a rw-until-sealed object (R434). -/
def sealedBy (s : State) (f : Fam) : Bool :=
  let p? := match f with
    | .pctl p => some p
    | .serving p => some p
    | .group p => some p
    | .tile t => sectorOwner s (tileSector t)
    | .channel c => sectorOwner s (channelSector c)
    | _ => none
  match p? with
  | some p => (s.parcel p).ctl.closed
  | none => false

/-- A write that the access rules let through: SEALED, then TYPE (Table 18.1), then the object's own rule. -/
def writeObject (s : State) (tr : Nat) (who : Principal) (f : Fam) (r : Row) (sub : Nat) (data : List Byte) : Written :=
  if r.sealed && sealedBy s f then (.sealed, s)
  else if r.ty.size = 0 then writeBlob s tr f data
  else if data.length ≠ r.ty.size then (.type, s)
  else
    let v := natOfBytes data
    if r.ty = .bool && 1 < v then (.type, s) else writeNat s who f sub v

end Sys2Proof.Machine
end

