-- ==== Sys2Proof/Machine/Legend.lean ====
section
/-! DEFINITION. The Legend's requests (18_legend_interfaces.md R433 to R440, R443, R449 to R451, R456): messages, slow
objects, the mailboxes, and the register writes of BAR0.
Readings and choices: log entries 64 and 66. -/

namespace Sys2Proof.Machine

/-! ### Who asks (Tables 18.2 and 18.4) -/

/-- A transport that carries Legend messages: MCTP on PCIe and on I3C, and the mailboxes. -/
def messageTransport (tr : Nat) : Bool := tr = 1 || tr = 2 || (32 ≤ tr && tr < 48)

/-- The parcel whose virtual function a transport belongs to. -/
def transportParcel (tr : Nat) : Option ParcelId :=
  if h : tr - 16 < 16 then (if 16 ≤ tr then some ⟨tr - 16, h⟩ else none)
  else if h : tr - 32 < 16 then some ⟨tr - 32, h⟩ else none

/-- The principal of a transport. -/
def principalOf (tr : Nat) : Option Principal :=
  if tr ≤ 2 then some .operator else (transportParcel tr).map .tenant

/-- Factory access holds on transport 2 (R456). -/
def factoryHolds (s : State) : Bool := match s.legend.factory with | some t => s.now < t | none => false

/-- The rights of a request of transport `tr` as `who`, with the factory's own where they are granted. -/
def requestRights (s : State) (tr : Nat) (who : Principal) (r : Row) (write : Bool) : Principal × Acc :=
  let own := r.rights who
  let needs (a : Acc) : Bool := if write then a.writes else a.reads
  if tr = 2 && factoryHolds s && !needs own && needs r.fac then (.factory, r.fac) else (who, own)

/-! ### Access (R432, R434, R435) -/

/-- The clearance certificate of parcel p is readable on its mailbox until p is next DEFINED (R340): the mailbox's read of
CLEARANCE_LOG answers with it alone. -/
def certOnMailbox (s : State) (tr : Nat) (f : Fam) (sub : Nat) : Bool :=
  f = .cart && sub = 7 && match mailboxOf tr with | some p => (s.parcel p).sec.cert.isSome | none => false

/-- What an index and subindex name to a requester, or why it is turned away. -/
def findObject (s : State) (tr : Nat) (who : Principal) (index sub : Nat) (write : Bool) : Except Status (Principal × Fam × Row) :=
  match resolve s who index with
  | none => .error .absent
  | some f =>
    match rowOfObject f sub with
    | none => .error .absent
    | some r =>
      let free : Bool := match mailboxOf tr with | some p => (s.parcel p).ctl.mode = .free | none => false
      let (by', a) := requestRights s tr who r write
      if certOnMailbox s tr f sub && !write then .ok (who, f, r)
      else if a = .none || (free && (write || !r.openToAll)) then .error .absent
      else if !(if write then a.writes else a.reads) then .error .access
      else if (cutDomain s (indexOf f)).isSome then .error .unavailable
      else .ok (by', f, r)

/-- An access that is turned away with a status: one answered as unavailable has ended at its object's crossing (R405, R407). -/
def turnedAway (s : State) (who : Principal) (index : Nat) (st : Status) : State :=
  match st, (resolve s who index).bind fun f => cutDomain s (indexOf f) with
  | .unavailable, some n => endTransfer s n
  | _, _ => s

/-! ### Generations and segments (R439, R440) -/

/-- The module-wide number of an object. -/
def objectKey (f : Fam) (sub : Nat) : Nat := indexOf f * 256 + sub

/-- Read an object: the state with its generation kept, the generation, and the bytes asked for (0 for all). -/
def readObject (s : State) (who : Principal) (f : Fam) (r : Row) (sub offset length : Nat) : Status × State × Nat × List Byte :=
  let v := objectValue s who f sub r.ty
  if r.ty.size ≠ 0 then
    if offset ≠ 0 || (length ≠ 0 && length ≠ r.ty.size) then (.type, s, 0, []) else (.ok, s, 0, v)
  else if v.length < offset then (.type, s, 0, [])
  else
    let key := objectKey f sub
    let (n, old) := Tab.get (0, []) s.legend.generations key
    let n := if old = v then n else n + 1
    let s := { s with legend := { s.legend with generations := Tab.put s.legend.generations key (n, v) } }
    (.ok, s, n % 65536, (v.drop offset).take (if length = 0 then 4064 else min length 4064))

/-! ### Answers -/

/-- The message of an answer (Table 18.5). -/
def legendMessage (opcode reqId index sub : Nat) (st : Status) (ticket offset : Nat) (data : List Byte) : List Byte :=
  bytesOfNat (0x7E + Config.pciVendorId.toNat * 2 ^ 8 + 0x01 * 2 ^ 24 + opcode % 256 * 2 ^ 32 + reqId % 256 * 2 ^ 40 +
    index % 65536 * 2 ^ 48 + sub % 256 * 2 ^ 64 + st.code * 2 ^ 72 + ticket % 65536 * 2 ^ 80 + offset % 2 ^ 32 * 2 ^ 96 +
    data.length * 2 ^ 128) 18 ++ data

/-- Send the answer to a request on its transport; a mailbox's lies in its response buffer (R443). -/
def respondLegend (s : State) (tr opcode reqId index sub : Nat) (st : Status) (ticket offset : Nat) (data : List Byte) : State :=
  let s := s.send (.legend tr reqId index sub st ticket data)
  match mailboxOf tr with
  | some p => mailboxAnswer s p (legendMessage opcode reqId index sub st ticket offset data)
  | none => s

/-- The transport takes messages: the module released and out of quarantine, the function there (R321, R322, R447). -/
def legendOpen (s : State) (tr : Nat) : Bool :=
  isReleased s && messageTransport tr && match mailboxOf tr with | some p => barOpen s p | none => true

/-! ### Slow objects (R437) -/

def slowOf (s : State) (tr : Nat) : List SlowReq := Tab.get [] s.legend.slow tr
def modSlow (s : State) (tr : Nat) (f : List SlowReq → List SlowReq) : State :=
  { s with legend := { s.legend with slow := Tab.modify [] s.legend.slow tr f } }

/-- Take a slow request: a ticket, or BUSY with 16 outstanding. -/
def takeSlow (s : State) (tr : Nat) (who : Principal) (reqId index sub : Nat) (op : SlowOp) : Status × State × Nat :=
  if 16 ≤ (slowOf s tr).length then (.busy, s, 0)
  else
    let t := s.legend.nextTicket
    let s := modSlow s tr fun l =>
      l ++ [{ ticket := t, who := who, reqId := reqId, index := index, sub := sub, op := op, result := none }]
    (.pending, { s with legend := { s.legend with nextTicket := t % 65535 + 1 } }, t)

/-- Serve a slow request at the firmware queue: the access rules hold then as at the request. -/
def serveSlow (s : State) (tr : Nat) (x : SlowReq) : State × (Status × Nat × List Byte) :=
  let write : Bool := match x.op with | .write _ => true | .read _ _ => false
  let who : Principal := match x.who with | .factory => .operator | w => w
  match findObject s tr who x.index x.sub write with
  | .error st => (turnedAway s who x.index st, (st, 0, []))
  | .ok (by', f, r) =>
    match x.op with
    | .read offset length => let (st, s, n, v) := readObject s by' f r x.sub offset length; (s, (st, n, v))
    | .write data => let (st, s) := writeObject s tr by' f r x.sub data; (s, (st, 0, []))

/-- The notice of a result (R437): an In-Band Interrupt, vector 1 of the physical function, or vector 8 of a virtual one. -/
def slowNotice (s : State) (tr : Nat) : State :=
  if tr = 2 then s.send .ibi else if tr = 1 then s.raise 0 1 else match mailboxOf tr with | some p => s.raise (1 + p) 8 | none => s

/-- The oldest request that has no result. -/
def nextSlow (l : List SlowReq) : Option SlowReq := l.find? fun x => x.result.isNone

/-- SLOW_RESULT_READY: firmware answers the oldest request of the transport, which has this ticket; not in quarantine
(R322). A module reset that the write asks for leaves nothing to answer. -/
def execSlowResultReady (tr ticket : Nat) (s : State) : Host.Outcome State Fault Refusal :=
  match nextSlow (slowOf s tr) with
  | none => .next s
  | some x =>
    if x.ticket ≠ ticket || !isReleased s then .next s
    else
      let (s, res) := serveSlow s tr x
      if !((slowOf s tr).any fun y => y.ticket = ticket) then .next s
      else
        .next (slowNotice (modSlow s tr fun l => l.map fun y => if y.ticket = ticket then { y with result := some res } else y) tr)

/-- TICKET_EXPIRE: a result that was ready for 1 s is gone. -/
def execTicketExpire (tr ticket : Nat) (s : State) : Host.Outcome State Fault Refusal :=
  .next (modSlow s tr fun l => l.filter fun x => x.ticket ≠ ticket || x.result.isNone)

/-! ### Messages (Table 18.6) -/

/-- READ by message: status, state, ticket or generation, data. -/
def readRequest (s : State) (tr reqId index sub offset length : Nat) : Status × State × Nat × List Byte :=
  match principalOf tr with
  | none => (.absent, s, 0, [])
  | some who =>
    match findObject s tr who index sub false with
    | .error st => (st, turnedAway s who index st, 0, [])
    | .ok (by', f, r) =>
      if r.slow then let (st, s, t) := takeSlow s tr by' reqId index sub (.read offset length); (st, s, t, [])
      else readObject s by' f r sub offset length

/-- WRITE by message. -/
def writeRequest (s : State) (tr reqId index sub offset : Nat) (data : List Byte) : Status × State × Nat :=
  if offset ≠ 0 || 4064 < data.length then (.badMessage, s, 0)
  else
    match principalOf tr with
    | none => (.absent, s, 0)
    | some who =>
      match findObject s tr who index sub true with
      | .error st => (st, turnedAway s who index st, 0)
      | .ok (by', f, r) =>
        if r.slow then takeSlow s tr by' reqId index sub (.write data)
        else let (st, s) := writeObject s tr by' f r sub data; (st, s, 0)

/-- POLL: the request of a ticket and what it answers; a collected result is gone. -/
def pollRequest (s : State) (tr ticket : Nat) : Status × State × Nat × Nat × Nat × List Byte :=
  match (slowOf s tr).find? fun x => x.ticket = ticket with
  | none => (.badTicket, s, ticket, 0, 0, [])
  | some x =>
    match x.result with
    | none => (.pending, s, ticket, x.index, x.sub, [])
    | some (st, n, data) => (st, modSlow s tr fun l => l.filter fun y => y.ticket ≠ ticket, n, x.index, x.sub, data)

/-- One entry of READ_SET: a status byte and 8 bytes of value. -/
def readSetEntry (s : State) (tr : Nat) (x : Nat × Nat) : List Byte :=
  let reply (st : Status) (v : List Byte) : List Byte := BitVec.ofNat 8 st.code :: padTo 8 v
  match principalOf tr with
  | none => reply .absent []
  | some who =>
    match findObject s tr who x.1 x.2 false with
    | .error st => reply st []
    | .ok (by', f, r) => if r.slow || r.ty.size = 0 then reply .type [] else reply .ok (objectValue s by' f x.2 r.ty)

/-- An entry of READ_SET whose object is unavailable ends at its crossing. -/
def readSetCut (tr : Nat) (s : State) (x : Nat × Nat) : State :=
  match principalOf tr with
  | none => s
  | some who => match findObject s tr who x.1 x.2 false with | .error st => turnedAway s who x.1 st | .ok _ => s

def readSetRequest (s : State) (tr : Nat) (entries : List (Nat × Nat)) : Status × State × List Byte :=
  if entries.isEmpty || 64 < entries.length then (.badMessage, s, [])
  else (.ok, entries.foldl (readSetCut tr) s, entries.flatMap (readSetEntry s tr))

/-! ### BAR0 (Tables 18.11 and 18.12) -/

/-- Subindex of a channel block's offset. -/
def channelSlot (o : Nat) : Option Nat :=
  if o % 8 ≠ 0 then none
  else if o < 0x100 then (if o = 0 then none else some (o / 8))
  else if o < 0x180 then some (0x20 + (o - 0x100) / 8)
  else if o < 0x1C0 then some (0x40 + (o - 0x180) / 8)
  else if o < 0x1E0 then some (0x60 + (o - 0x1C0) / 8)
  else none

/-- Subindex of a tile block's offset. -/
def tileSlot (o : Nat) : Option Nat :=
  if o < 0x500 then
    (match o % 0x100 with
      | 0x00 => some (0x40 + o / 0x100) | 0x08 => some (0x48 + o / 0x100) | 0x10 => some (0x50 + o / 0x100) | _ => none)
  else if 0x800 ≤ o && o < 0x900 && o % 8 = 0 then some (0x20 + (o - 0x800) / 8)
  else if 0xA00 ≤ o && o < 0xA20 && o % 8 = 0 then some (0x60 + (o - 0xA00) / 8)
  else none

/-- Object of a parcel block's offset: the family's base index and the subindex. -/
def parcelSlot (o : Nat) : Option (Nat × Nat) :=
  if o % 8 ≠ 0 then none
  else
    match o / 0x100 with
    | 0 => some (0x3020, o % 0x100 / 8) | 1 => some (0x3060, o % 0x100 / 8) | 2 => some (0x3410, o % 0x100 / 8)
    | 4 => some (0x6030, o % 0x100 / 8) | 5 => some (0x8010, o % 0x100 / 8) | 6 => some (0x9000, o % 0x100 / 8)
    | 7 => some (0xA000, o % 0x100 / 8) | _ => none

/-- Object of an offset of the physical function, or of a virtual function, as its principal names it. -/
def slotOf (vf : Bool) (o : Nat) : Option (Nat × Nat) :=
  if vf then
    if o < 0x1000 then parcelSlot o
    else if 0x5000 ≤ o && o < 0x5100 && o % 8 = 0 then some (0x3000, (o - 0x5000) / 8)
    else if 0x5100 ≤ o && o < 0x5200 && o % 8 = 0 then some (0x1010, (o - 0x5100) / 8)
    else if 0x80000 ≤ o && o < 0xB0000 then (channelSlot (o % 0x200)).map fun x => (0x4000 + (o - 0x80000) / 0x200, x)
    else if 0x200000 ≤ o && o < 0x400000 then (tileSlot (o % 0x1000)).map fun x => (0x5000 + (o - 0x200000) / 0x1000, x)
    else none
  else
    if o < 0x600 && o % 8 = 0 then
      some ([0x3000, 0x7000, 0x2000, 0x2400, 0x8000, 0x1010].getD (o / 0x100) 0, o % 0x100 / 8)
    else if 0x10000 ≤ o && o < 0x20000 then (parcelSlot (o % 0x1000)).map fun x => (x.1 + (o - 0x10000) / 0x1000, x.2)
    else if 0x80000 ≤ o && o < 0xB0000 then (channelSlot (o % 0x200)).map fun x => (0x4000 + (o - 0x80000) / 0x200, x)
    else if 0x100000 ≤ o && o < 0x300000 then (tileSlot (o % 0x1000)).map fun x => (0x5000 + (o - 0x100000) / 0x1000, x)
    else none

/-- The offset of an object's slot in a function's BAR0, where it has one: the inverse of `slotOf`. -/
def offsetOf (vf : Bool) (index sub : Nat) : Option Nat :=
  let block (b : Nat) : Option Nat := if sub < 32 then some (b + 8 * sub) else none
  let chan : Option Nat :=
    if sub = 0 then none else if sub < 0x20 then some (8 * sub) else if sub < 0x30 then some (0x100 + 8 * (sub - 0x20))
    else if 0x40 ≤ sub && sub < 0x48 then some (0x180 + 8 * (sub - 0x40))
    else if 0x60 ≤ sub && sub < 0x64 then some (0x1C0 + 8 * (sub - 0x60)) else none
  let tile : Option Nat :=
    if 0x20 ≤ sub && sub < 0x40 then some (0x800 + 8 * (sub - 0x20))
    else if 0x40 ≤ sub && sub < 0x45 then some (0x100 * (sub - 0x40))
    else if 0x48 ≤ sub && sub < 0x4D then some (0x100 * (sub - 0x48) + 8)
    else if 0x50 ≤ sub && sub < 0x55 then some (0x100 * (sub - 0x50) + 0x10)
    else if 0x60 ≤ sub && sub < 0x64 then some (0xA00 + 8 * (sub - 0x60)) else none
  let par (base b : Nat) : Option Nat :=
    (block b).map fun o => o + (if vf then 0 else 0x10000 + 0x1000 * (index - base))
  let one (base : Nat) : Bool := base ≤ index && index < base + (if vf then 1 else 16)
  if one 0x3020 then par 0x3020 0
  else if one 0x3060 then par 0x3060 0x100
  else if one 0x3410 then par 0x3410 0x200
  else if one 0x6030 then par 0x6030 0x400
  else if one 0x8010 then par 0x8010 0x500
  else if one 0x9000 then par 0x9000 0x600
  else if one 0xA000 then par 0xA000 0x700
  else if 0x4000 ≤ index && index < 0x4180 then chan.map fun o => 0x80000 + 0x200 * (index - 0x4000) + o
  else if 0x5000 ≤ index && index < 0x5200 then
    tile.map fun o => (if vf then 0x200000 else 0x100000) + 0x1000 * (index - 0x5000) + o
  else if vf then
    (if index = 0x3000 then block 0x5000 else if index = 0x1010 then block 0x5100 else none)
  else if index = 0x3000 then block 0 else if index = 0x7000 then block 0x100 else if index = 0x2000 then block 0x200
  else if index = 0x2400 then block 0x300 else if index = 0x8000 then block 0x400
  else if index = 0x1010 then block 0x500 else none

/-- The host's requests arrive at BAR0 of a function: 0 the physical one, 1 + p virtual function p (R447). -/
def functionThere (s : State) (fn : Nat) : Bool :=
  isReleased s && s.supply.converters && !(domain s 4).disconnected && (fn = 0 || (fn ≤ 16 && (vfun s (fn - 1)).present))

/-- The host reaches BAR0 of a function: TEE-marked where its interface is in RUN, never in ERROR (R329, R449). -/
def functionOpen (s : State) (fn : Nat) (tee : Bool) : Bool :=
  functionThere s fn &&
  (fn = 0 || (barOpen s (fn - 1) && (tee || (s.parcel (fn - 1)).sec.tdi ≠ .run)))

/-- An access to BAR0 of a function, naturally aligned and of 4 or 8 B: any other, and one that the interface does not
take, completes with Unsupported Request (R449). -/
def onBar (s : State) (fn offset size : Nat) (tee : Bool) (f : State → State) : State :=
  if functionOpen s fn tee && (size = 4 || size = 8) && offset % size = 0 then f s
  else if functionThere s fn then s.send (.unsupported fn)
  else s

/-- The BAR transport of a function, and its principal. -/
def barTransport (fn : Nat) : Nat := if fn = 0 then 0 else 15 + fn

/-- The value that a slot reads: 8 bytes, sign-extended for I32; 0 where the slot carries nothing for the principal. -/
def slotValue (s : State) (tr : Nat) (who : Principal) (index sub : Nat) : Status × List Byte :=
  match findObject s tr who index sub false with
  | .error .unavailable => (.unavailable, [])
  | .error _ => (.ok, padTo 8 [])
  | .ok (by', f, r) =>
    if r.slow || r.ty.size = 0 then (.ok, padTo 8 [])
    else
      let v := objectNat s by' f sub
      (.ok, bytesOfNat (if r.ty = .i32 && 2 ^ 31 ≤ v then v + 0xFFFFFFFF * 2 ^ 32 else v) 8)

/-- A read of a mirror. -/
def mirrorRead (s : State) (tr index sub : Nat) : Status × List Byte :=
  match principalOf tr with
  | none => (.ok, padTo 8 [])
  | some who => if (offsetOf (tr ≠ 0) index sub).isSome then slotValue s tr who index sub else (.ok, padTo 8 [])

/-- Note a refused register write (Table 18.10). -/
def noteRefused (s : State) (fn offset : Nat) (st : Status) : State :=
  let f (r : BarRefused) : BarRefused := { offset := offset, status := st.code, count := min (r.count + 1) 0xFFFFFFFF }
  if fn = 0 then { s with legend := { s.legend with refused := f s.legend.refused } }
  else modVf s (fn - 1) fun v => { v with refused := f v.refused }

/-- A write to a slot: a Legend write of the type's bytes; a refused one is dropped and noted. -/
def slotWrite (s : State) (fn offset index sub size value : Nat) : State :=
  let tr := barTransport fn
  match principalOf tr with
  | none => s
  | some who =>
    match findObject s tr who index sub true with
    | .error .unavailable => turnedAway s who index .unavailable
    | .error st => noteRefused s fn offset st
    | .ok (by', f, r) =>
      if r.slow || r.ty.size = 0 then noteRefused s fn offset .absent
      else if (r.ty.size = 8) ≠ (size = 8) || 2 ^ (8 * r.ty.size) ≤ value then noteRefused s fn offset .type
      else
        let (st, t) := writeObject s tr by' f r sub (bytesOfNat value r.ty.size)
        if st = .ok then t else noteRefused t fn offset st

/-! ### Reads of BAR0 (R449, R450) -/

/-- A ring block (Table 11.3) as it reads: DOORBELL, which is write-only, reads 0. -/
def ringBytes (R : Ring) : List Byte :=
  bytesOfNat R.base.toNat 8 ++ bytesOfNat R.sizeLog2 4 ++ bytesOfNat (b2n R.enable 0) 4 ++ bytesOfNat R.head.toNat 4 ++
    bytesOfNat R.tail.toNat 4 ++ bytesOfNat 0 4 ++ bytesOfNat R.intModeration.toNat 4

/-- A Gazetteer entry (Table 11.1). REFS, which an entry in DATUM shows for GENERATED, counts the active entries that cite
it. -/
def gazWord (gaz : Tab GazEntry) (e : Nat) : Nat :=
  let E := Tab.get GazEntry.init gaz e
  let refs := (gaz.filter fun x => x.2.handleEntry = some e && (x.2.state = .prefill || x.2.state = .decode)).length
  E.state.code + E.cls % 16 * 2 ^ 4 + E.token % 2 ^ 40 * 2 ^ 8 + E.ring % 8 * 2 ^ 48 + b2n E.unchecked 51 +
    b2n E.recomputed 52 + b2n E.boundMissed 53 + E.promptLen % 2 ^ 20 * 2 ^ 64 + E.genLimit % 2 ^ 20 * 2 ^ 84 +
    E.prefilled % 2 ^ 20 * 2 ^ 104 + (if E.state = .datum then refs else E.generated) % 2 ^ 20 * 2 ^ 128 +
    E.insetSlot % 64 * 2 ^ 148 + E.insetVersion % 2 ^ 32 * 2 ^ 160 + E.handle % 2 ^ 40 * 2 ^ 192 +
    E.sharedPos % 2 ^ 20 * 2 ^ 232 + E.admitTick % 2 ^ 48 * 2 ^ 256 + E.cols.length % 2 ^ 16 * 2 ^ 304 +
    E.firstBound % 2 ^ 48 * 2 ^ 320 + E.tokenBound % 256 * 2 ^ 368 + E.lastTick % 2 ^ 48 * 2 ^ 384 +
    E.hostTag.toNat * 2 ^ 448

/-- MB_STATUS (Table 18.7). -/
def mailboxStatus (B : Mailbox) : Nat :=
  b2n B.busy 0 + b2n B.ready 1 + b2n B.error 2 + b2n B.overrun 3 + B.len % 2 ^ 13 * 2 ^ 16

/-- The refused-write registers (Table 18.10). -/
def refusedBytes (r : BarRefused) : List Byte :=
  bytesOfNat r.offset 8 ++ bytesOfNat r.status 8 ++ bytesOfNat r.count 8

/-- The part of a run of registers at an offset from its start. -/
def within (bytes : List Byte) (o n : Nat) : Status × List Byte := (.ok, padTo n (bytes.drop o))

/-- A slot, or a part of it. -/
def slotRead (s : State) (fn offset n : Nat) : Status × List Byte :=
  match slotOf (fn ≠ 0) (offset - offset % 8), principalOf (barTransport fn) with
  | some (index, sub), some who =>
    let (st, v) := slotValue s (barTransport fn) who index sub
    (st, (v.drop (offset % 8)).take n)
  | _, _ => (.ok, padTo n [])

/-- A read of n bytes of BAR0 of a function. -/
def barRead (s : State) (fn offset n : Nat) : Status × List Byte :=
  let msix : Bool := if fn = 0 then 0xF00000 ≤ offset && offset < 0xF02000 else 0x8000 ≤ offset && offset < 0xA000
  if msix then (.ok, bytesOfNat (Config.msixRegister s.fresh fn offset).toNat n)
  else if 0xF00 ≤ offset && offset < 0xF18 then
    within (refusedBytes (if fn = 0 then s.legend.refused else (vfun s (fn - 1)).refused)) (offset - 0xF00) n
  else if fn = 0 then slotRead s fn offset n
  else
    let p := fn - 1
    let V := (s.parcel p).serving
    let B := (vfun s p).mailbox
    if 0x1000 ≤ offset && offset < 0x1200 then
      within (ringBytes (Tab.get Ring.init V.subRings ((offset - 0x1000) / 0x40))) (offset % 0x40) n
    else if 0x1200 ≤ offset && offset < 0x1400 then
      within (ringBytes (Tab.get Ring.init V.compRings ((offset - 0x1200) / 0x40))) (offset % 0x40) n
    else if 0x2008 ≤ offset && offset < 0x2010 then within (bytesOfNat (mailboxStatus B) 8) (offset - 0x2008) n
    else if 0x4000 ≤ offset && offset < 0x5000 then (.ok, Mem.readBytes B.response (offset - 0x4000) n)
    else if 0x100000 ≤ offset && offset < 0x200000 then
      let e := (offset - 0x100000) / 64
      if 1024 * s.sectorCount p ≤ e then (.ok, padTo n [])
      else within (bytesOfNat (gazWord V.gazSnap e) 64) (offset % 64) n
    else slotRead s fn offset n

/-! ### Ring blocks (Table 11.3) -/

/-- A register of a ring block, written with `size` bytes at its offset; `sub'` for a submission ring. -/
def writeRing (R : Ring) (isSub : Bool) (o size v : Nat) : Ring :=
  let low := v % 2 ^ 32
  let setBase (b : Nat) : Ring := if R.enable || b % 4096 ≠ 0 then R else { R with base := BitVec.ofNat 64 b }
  match o with
  | 0x00 => if size = 8 then setBase v else setBase (R.base.toNat / 2 ^ 32 * 2 ^ 32 + low)
  | 0x04 => setBase (R.base.toNat % 2 ^ 32 + low * 2 ^ 32)
  | 0x08 =>
    let R := if R.enable || v % 256 < 6 || 16 < v % 256 then R else { R with sizeLog2 := v % 256 }
    if size = 8 then { R with enable := bitAt v 32 } else R
  | 0x0C => { R with enable := bitAt v 0 }
  | 0x10 => if isSub then R else { R with head := BitVec.ofNat 32 v }
  | 0x18 =>
    let R := if isSub then { R with tail := BitVec.ofNat 32 v } else R
    if size = 8 then { R with intModeration := BitVec.ofNat 16 (v / 2 ^ 32) } else R
  | 0x1C => { R with intModeration := BitVec.ofNat 16 v }
  | _ => R

/-! ### Mailboxes (R443) -/

def modMailbox (s : State) (p : Nat) (f : Mailbox → Mailbox) : State := modVf s p fun v => { v with mailbox := f v.mailbox }

/-- The entries of a READ_SET message. -/
def setEntries : List Byte → List (Nat × Nat)
  | a :: b :: c :: rest => (a.toNat + 256 * b.toNat, c.toNat) :: setEntries rest
  | _ => []

/-- A Legend message from a mailbox: parsed by Table 18.5, served and answered. -/
def mailboxLegend (s : State) (p : Nat) (msg : List Byte) : State :=
  let h := natOfBytes (msg.take 18)
  let tr := 32 + p
  let op := fld h 32 8
  let reqId := fld h 40 8
  let index := fld h 48 16
  let sub := fld h 64 8
  let offset := fld h 96 32
  let length := fld h 128 16
  let data := msg.drop 18
  let bad (s : State) : State := respondLegend s tr op reqId index sub .badMessage 0 offset []
  if msg.length < 18 || fld h 8 16 ≠ Config.pciVendorId.toNat || fld h 24 8 ≠ 1 || fld h 72 8 ≠ 0 then bad s
  else
    match op with
    | 1 =>
      let (st, s, t, v) := readRequest s tr reqId index sub offset length
      respondLegend s tr op reqId index sub st t offset v
    | 2 =>
      if data.length ≠ length then bad s
      else
        let (st, s, t) := writeRequest s tr reqId index sub offset data
        respondLegend s tr op reqId index sub st t offset []
    | 3 =>
      let (st, s, t, i, k, v) := pollRequest s tr (fld h 80 16)
      respondLegend s tr op reqId i k st t offset v
    | 4 =>
      if index ≠ 0 || sub ≠ 0 || data.length ≠ length || data.length % 3 ≠ 0 then bad s
      else
        let (st, s, v) := readSetRequest s tr (setEntries data)
        respondLegend s tr op reqId 0 0 st 0 0 v
    | _ => bad s

/-- Serve the request in the mailbox: a Legend message at once; SPDM by its own commands; another type is an error. -/
def mailboxServe (s : State) (p : Nat) : State :=
  let B := (vfun s p).mailbox
  let msg := Mem.readBytes B.request 0 B.reqLen
  let type := (Mem.read B.request 0).toNat % 128
  if type = 0x7E then mailboxLegend s p msg
  else if type = 0x05 || type = 0x06 then s
  else modMailbox s p fun B => { B with busy := false, error := true }

/-- A doorbell: submitted, or dropped with MB_OVERRUN while one is held; a request waits for the response buffer. -/
def doorbell (s : State) (p n : Nat) : State :=
  let B := (vfun s p).mailbox
  if B.busy then modMailbox s p fun B => { B with overrun := true }
  else if n = 0 || 4096 < n then modMailbox s p fun B => { B with error := true }
  else
    let s := modMailbox s p fun B => { B with busy := true, reqLen := n }
    if B.ready then s else mailboxServe s p

/-- An acknowledgement: the response buffer is free, and a request that waited for it is served. -/
def mailboxAck (s : State) (p v : Nat) : State :=
  if !bitAt v 0 then s
  else
    let B := (vfun s p).mailbox
    let s := modMailbox s p fun B => { B with ready := false, error := false, overrun := false, response := [], len := 0 }
    if B.busy && B.ready then mailboxServe s p else s

def execMbDoorbell (p : ParcelId) (length : BitVec 32) (s : State) : Host.Outcome State Fault Refusal :=
  .next (onBar s (1 + p) 0x2000 4 true fun s => doorbell s p length.toNat)

def execMbAck (p : ParcelId) (value : BitVec 32) (s : State) : Host.Outcome State Fault Refusal :=
  .next (onBar s (1 + p) 0x2010 4 true fun s => mailboxAck s p value.toNat)

/-! ### The commands -/

/-- Is this a transport of a BAR, and of which function? -/
def barFunction (tr : Nat) : Option Nat := if tr = 0 then some 0 else if 16 ≤ tr && tr < 32 then some (tr - 15) else none

/-- READ: a message, or on transport 0 or 16 + p a read of BAR0: of the slot of an object, or with index 0 of `length` bytes
at `offset`. -/
def execRead (tr reqId index sub offset length : Nat) (s : State) : Host.Outcome State Fault Refusal :=
  if legendOpen s tr then
    let (st, s, t, v) := readRequest s tr reqId index sub offset length
    .next (respondLegend s tr 1 reqId index sub st t offset v)
  else
    match barFunction tr with
    | none => .next (transportAway s tr)
    | some fn =>
      let o := if index = 0 then offset else 0
      let n := if index = 0 then length else 8
      .next (onBar s fn o n true fun s =>
        let (st, v) := if index = 0 then barRead s fn o n else mirrorRead s tr index sub
        let named := if index = 0 then ((slotOf (fn ≠ 0) (o - o % 8)).map (·.1)).getD 0 else index
        let s := match principalOf tr with | some who => turnedAway s who named st | none => s
        drawn (s.send (.legend tr reqId index sub st 0 v)))

/-- WRITE: a message, or a write to a mirror slot of 4 or 8 bytes. -/
def execWrite (tr reqId index sub offset : Nat) (data : List Byte) (s : State) : Host.Outcome State Fault Refusal :=
  if legendOpen s tr then
    let (st, s, t) := writeRequest s tr reqId index sub offset data
    .next (respondLegend s tr 2 reqId index sub st t offset [])
  else
    match barFunction tr, offsetOf (tr ≠ 0) index sub with
    | some fn, some o => .next (onBar s fn o data.length true fun s => slotWrite s fn o index sub data.length (natOfBytes data))
    | none, _ => .next (transportAway s tr)
    | _, none => .next s

def execPoll (tr reqId ticket : Nat) (s : State) : Host.Outcome State Fault Refusal :=
  if legendOpen s tr then
    let (st, s, t, i, k, v) := pollRequest s tr ticket
    .next (respondLegend s tr 3 reqId i k st t 0 v)
  else .next (transportAway s tr)

def execReadSet (tr reqId : Nat) (entries : List (Nat × Nat)) (s : State) : Host.Outcome State Fault Refusal :=
  if legendOpen s tr then
    let (st, s, v) := readSetRequest s tr entries
    .next (respondLegend s tr 4 reqId 0 0 st 0 0 v)
  else .next (transportAway s tr)

/-- FACTORY_AUTH: a token, or an empty value. -/
def execFactoryAuth (tr : Nat) (token : Option FactoryToken) (s : State) : Host.Outcome State Fault Refusal :=
  if legendOpen s tr && (mailboxOf tr).isNone then answer .operator 0x1020 0x04 s (setFactoryAuth s tr token)
  else .next (transportAway s tr)

/-- A write at an offset of a slot, mirrored or empty. -/
def slotAt (s : State) (fn offset size value : Nat) : State :=
  match slotOf (fn ≠ 0) (offset - offset % 8) with
  | none => s
  | some (index, sub) =>
    if offset % 8 ≠ 0 then noteRefused s fn offset .type else slotWrite s fn offset index sub size value

/-- A write to BAR0 of virtual function p at the registers of its rings, its mailbox and its slots (Table 18.11). -/
def vfWrite (s : State) (p offset size value : Nat) : State :=
  if 0x1000 ≤ offset && offset < 0x1200 then
    s.modServing p fun V =>
      { V with subRings := Tab.modify Ring.init V.subRings ((offset - 0x1000) / 0x40) fun R => writeRing R true (offset % 0x40) size value }
  else if 0x1200 ≤ offset && offset < 0x1400 then
    s.modServing p fun V =>
      { V with compRings := Tab.modify Ring.init V.compRings ((offset - 0x1200) / 0x40) fun R => writeRing R false (offset % 0x40) size value }
  else if offset = 0x2000 then doorbell s p (value % 2 ^ 32)
  else if offset = 0x2010 then mailboxAck s p value
  else if 0x3000 ≤ offset && offset < 0x4000 then
    modMailbox s p fun B => { B with request := Mem.writeNat B.request (offset - 0x3000) size value }
  else slotAt s (1 + p) offset size value

/-- REGISTER_WRITE: a write of 4 or 8 bytes to BAR0 of function fn, naturally aligned (R449). -/
def execRegisterWrite (fn offset size value : Nat) (tee : Bool) (s : State) : Host.Outcome State Fault Refusal :=
  .next (onBar s fn offset size tee fun s =>
    let value := value % 2 ^ (8 * size)
    if fn = 0 then slotAt s 0 offset size value else vfWrite s (fn - 1) offset size value)

end Sys2Proof.Machine
end

