-- ==== Sys2Proof/Machine/Mctp.lean ====
section
/-! DEFINITION. The management bus and MCTP control (18_legend_interfaces.md R441, R442).
Readings and choices: log entries 68 and 70. -/

namespace Sys2Proof.Machine

/-! ### I3C -/

/-- ENTDAA: the device takes its dynamic address. -/
def execEntdaa (address : Nat) (s : State) : Host.Outcome State Fault Refusal :=
  if !s.supply.v3p3 || s.supply.inReset || address = 0 || 128 ≤ address then .next s
  else .next { s with legend := { s.legend with i3cAddress := address } }

/-- PRIVATE_READ: BOOT_STATUS before release and in quarantine; after it private reads carry MCTP, and one with no packet
waiting is refused with a NACK. -/
def execPrivateRead (s : State) : Host.Outcome State Fault Refusal :=
  if !s.supply.v3p3 || s.supply.inReset || s.legend.i3cAddress = 0 then .next s
  else if isReleased s then .next (s.send (.i3c none))
  else .next (s.send (.i3c (some (bytesOfNat (cartNat s.cart 1) 4))))

/-! ### MCTP control -/

/-- An MCTP binding that takes messages. -/
def bindingOpen (s : State) (tr : Nat) : Bool := legendOpen s tr && (mailboxOf tr).isNone

/-- A message that the binding does not take: on I3C a NACK before release and in quarantine (R321, R322). -/
def bindingAway (s : State) (tr : Nat) : State := if tr = 2 then transportAway s tr else s

/-- Answer a control command. -/
def mctpAnswer (s : State) (tr : Nat) (command : String) (values : List Nat) : Host.Outcome State Fault Refusal :=
  .next (if bindingOpen s tr then s.send (.mctp tr command values) else bindingAway s tr)

def endpointId (s : State) (tr : Nat) : Nat := if tr = 1 then s.legend.eidPcie else s.legend.eidI3c

/-- SET_ENDPOINT_ID: an EID that may be assigned is taken; the answer holds whether it was, and the EID held. -/
def execSetEndpointId (tr eid : Nat) (s : State) : Host.Outcome State Fault Refusal :=
  if bindingOpen s tr && 8 ≤ eid && eid < 255 then
    let s := { s with legend := if tr = 1 then { s.legend with eidPcie := eid } else { s.legend with eidI3c := eid } }
    mctpAnswer s tr "SET_ENDPOINT_ID" [0, eid]
  else mctpAnswer s tr "SET_ENDPOINT_ID" [1, endpointId s tr]

def execGetEndpointId (tr : Nat) (s : State) : Host.Outcome State Fault Refusal :=
  mctpAnswer s tr "GET_ENDPOINT_ID" [endpointId s tr]

def execGetMctpVersionSupport (tr : Nat) (s : State) : Host.Outcome State Fault Refusal :=
  mctpAnswer s tr "GET_MCTP_VERSION_SUPPORT" Config.mctpVersions

/-- GET_MESSAGE_TYPE_SUPPORT: the types that the device accepts. -/
def execGetMessageTypeSupport (tr : Nat) (s : State) : Host.Outcome State Fault Refusal :=
  mctpAnswer s tr "GET_MESSAGE_TYPE_SUPPORT" [0x00, 0x01, 0x05, 0x06, 0x7E]

def execGetVendorDefinedMessageSupport (tr : Nat) (s : State) : Host.Outcome State Fault Refusal :=
  mctpAnswer s tr "GET_VENDOR_DEFINED_MESSAGE_SUPPORT" [Config.pciVendorId.toNat]

end Sys2Proof.Machine
end

