-- ==== Sys2Proof/Machine/Pldm.lean ====
section
/-! DEFINITION. PLDM on transports 1 and 2 (18_legend_interfaces.md R452 to R455): base commands, sensors and firmware
update.
Readings and choices: log entries 68 and 69. -/

namespace Sys2Proof.Machine

/-- Answer a PLDM command. -/
def pldmAnswer (s : State) (tr : Nat) (command : String) (code : PldmCode) (data : List Nat) :
    Host.Outcome State Fault Refusal :=
  .next (if bindingOpen s tr then s.send (.pldm tr command code data) else bindingAway s tr)

/-- Answer a command after its effect, where the binding takes messages. -/
def pldmAct (s : State) (tr : Nat) (command : String) (code : PldmCode) (effect : State → State) :
    Host.Outcome State Fault Refusal :=
  .next (if bindingOpen s tr then effect (s.send (.pldm tr command code [])) else bindingAway s tr)

/-! ### Type 0 -/

def execGetTid (tr : Nat) (s : State) : Host.Outcome State Fault Refusal :=
  pldmAnswer s tr "GET_TID" .success [Tab.get 0 s.legend.tids tr]

def execSetTid (tr tid : Nat) (s : State) : Host.Outcome State Fault Refusal :=
  if tid = 0 || 255 ≤ tid then pldmAnswer s tr "SET_TID" .error []
  else pldmAct s tr "SET_TID" .success fun s => { s with legend := { s.legend with tids := Tab.put s.legend.tids tr tid } }

/-- GET_PLDM_VERSION: DSP0240 1.1, DSP0248 1.2, DSP0267 1.2. -/
def execGetPldmVersion (tr type : Nat) (s : State) : Host.Outcome State Fault Refusal :=
  match type with
  | 0 => pldmAnswer s tr "GET_PLDM_VERSION" .success [1, 1]
  | 2 => pldmAnswer s tr "GET_PLDM_VERSION" .success [1, 2]
  | 5 => pldmAnswer s tr "GET_PLDM_VERSION" .success [1, 2]
  | _ => pldmAnswer s tr "GET_PLDM_VERSION" .error []

def execGetPldmTypes (tr : Nat) (s : State) : Host.Outcome State Fault Refusal :=
  pldmAnswer s tr "GET_PLDM_TYPES" .success [0, 2, 5]

/-- GET_PLDM_COMMANDS: the commands of R452 by their numbers in DSP0240, DSP0248 and DSP0267. -/
def execGetPldmCommands (tr type : Nat) (s : State) : Host.Outcome State Fault Refusal :=
  match type with
  | 0 => pldmAnswer s tr "GET_PLDM_COMMANDS" .success [1, 2, 3, 4, 5]
  | 2 => pldmAnswer s tr "GET_PLDM_COMMANDS" .success [0x04, 0x11, 0x21, 0x50, 0x51]
  | 5 => pldmAnswer s tr "GET_PLDM_COMMANDS" .success [0x01, 0x02, 0x10, 0x13, 0x14, 0x16, 0x17, 0x18, 0x1A, 0x1B, 0x1C, 0x1D]
  | _ => pldmAnswer s tr "GET_PLDM_COMMANDS" .error []

def execPldmUnsupported (tr command : Nat) (s : State) : Host.Outcome State Fault Refusal :=
  pldmAnswer s tr "PLDM_UNSUPPORTED" .unsupportedCmd [command]

/-! ### Type 2: the sensors of Table 18.13 -/

/-- Sensor identifiers, in the order of the repository. -/
def pldmSensors : List Nat := (List.range 52).map (· + 1) ++ [60, 61, 62] ++ (List.range 16).map (· + 64) ++ (List.range 4).map (· + 80)

/-- The reading of a numeric sensor. -/
def numericReading (s : State) (id : Nat) : Option Int :=
  if 1 ≤ id && id ≤ 52 then some (sensor s (id - 1)).effective
  else if id = 60 then some s.thermal.inputPower
  else if id = 61 then some s.mer.level
  else if id = 62 then some s.thermal.rung
  else none

/-- The state of a state sensor. -/
def stateReading (s : State) (id : Nat) : Option Nat :=
  if 64 ≤ id && id < 80 then some (port s (id - 64)).mode.code
  else if 80 ≤ id && id < 84 then some (lamp s (id - 80)).mode.code
  else none

def sensorThresholds (s : State) (id : Nat) : List Nat :=
  if 1 ≤ id && id ≤ 52 then (thresholds (id - 1) (sensor s (id - 1))).map toI32
  else if id = 60 then [s.thermal.powerLimit.toNat] else []

def execGetPdrRepositoryInfo (tr : Nat) (s : State) : Host.Outcome State Fault Refusal :=
  pldmAnswer s tr "GET_PDR_REPOSITORY_INFO" .success [pldmSensors.length]

/-- GET_PDR: record n describes the n-th sensor: its identifier and its thresholds. -/
def execGetPdr (tr handle : Nat) (s : State) : Host.Outcome State Fault Refusal :=
  match (if handle = 0 then none else pldmSensors[handle - 1]?) with
  | some id => pldmAnswer s tr "GET_PDR" .success (id :: sensorThresholds s id)
  | none => pldmAnswer s tr "GET_PDR" .error []

/-- GET_SENSOR_READING: the operational state (1 failed) and the reading. -/
def execGetSensorReading (tr sensor : Nat) (s : State) : Host.Outcome State Fault Refusal :=
  match numericReading s sensor with
  | some v =>
    let failed := if sensor ≤ 52 && (Sys2Proof.Machine.sensor s (sensor - 1)).mode = 2 then 1 else 0
    pldmAnswer s tr "GET_SENSOR_READING" .success [failed, toI32 v]
  | none => pldmAnswer s tr "GET_SENSOR_READING" .error []

def execGetStateSensorReadings (tr sensor : Nat) (s : State) : Host.Outcome State Fault Refusal :=
  match stateReading s sensor with
  | some v => pldmAnswer s tr "GET_STATE_SENSOR_READINGS" .success [v]
  | none => pldmAnswer s tr "GET_STATE_SENSOR_READINGS" .error []

def execSetEventReceiver (tr eid : Nat) (s : State) : Host.Outcome State Fault Refusal :=
  pldmAct s tr "SET_EVENT_RECEIVER" .success fun s => { s with legend := { s.legend with eventReceiver := some (eid, tr) } }

/-! ### Type 5: firmware update (R454) -/

def modUpdate (s : State) (f : Update → Update) : State := { s with legend := { s.legend with update := f s.legend.update } }

/-- The update goes to another state. -/
def updateTo (m : UpdateMode) (u : Update) : Update := { u with mode := m, previous := u.mode }

/-- The code that turns away a command in a state it does not belong to. -/
def updateRefusal (u : Update) : PldmCode := if u.mode = .idle then .notInUpdateMode else .invalidState

def execQueryDeviceIdentifiers (tr : Nat) (s : State) : Host.Outcome State Fault Refusal :=
  pldmAnswer s tr "QUERY_DEVICE_IDENTIFIERS" .success
    ([Config.pciVendorId.toNat, 0x5A04] ++ (objectBytes s .operator .identity 2).map (·.toNat))

/-- GET_FIRMWARE_PARAMETERS: for each component, its image in the active bank and the one that an activation would put
there. -/
def execGetFirmwareParameters (tr : Nat) (s : State) : Host.Outcome State Fault Refusal :=
  pldmAnswer s tr "GET_FIRMWARE_PARAMETERS" .success ([1, 2, 3, 4].flatMap fun c =>
    [c, (activeImage s c).content, (Tab.get { content := 0, signed := true, secVersion := 0 } s.cart.inactive c).content])

def execRequestUpdate (tr maxTransfer : Nat) (s : State) : Host.Outcome State Fault Refusal :=
  if s.legend.update.mode ≠ .idle then pldmAnswer s tr "REQUEST_UPDATE" .alreadyInUpdateMode []
  else pldmAct s tr "REQUEST_UPDATE" .success fun s =>
    modUpdate s fun _ => { Update.init with mode := .learnComponents, transport := tr, maxTransfer := maxTransfer }

def execPassComponentTable (tr component : Nat) (last : Bool) (s : State) : Host.Outcome State Fault Refusal :=
  let u := s.legend.update
  if u.mode ≠ .learnComponents then pldmAnswer s tr "PASS_COMPONENT_TABLE" (updateRefusal u) []
  else if component = 0 || 4 < component then pldmAnswer s tr "PASS_COMPONENT_TABLE" .error []
  else pldmAct s tr "PASS_COMPONENT_TABLE" .success fun s => if last then modUpdate s (updateTo .readyXfer) else s

def execUpdateComponent (tr component size : Nat) (image : FwImage) (s : State) : Host.Outcome State Fault Refusal :=
  let u := s.legend.update
  if u.mode ≠ .readyXfer then pldmAnswer s tr "UPDATE_COMPONENT" (updateRefusal u) []
  else if component = 0 || 4 < component then pldmAnswer s tr "UPDATE_COMPONENT" .error []
  else pldmAct s tr "UPDATE_COMPONENT" .success fun s =>
    modUpdate s fun u => { updateTo .download u with component := component, size := size, got := 0, image := image }

/-- REQUEST_FIRMWARE_DATA: the device asks for the next block, of at most 1,024 B and the agent's maximum, and takes the
`length` bytes that come. -/
def execRequestFirmwareData (tr length : Nat) (s : State) : Host.Outcome State Fault Refusal :=
  let u := s.legend.update
  if u.mode ≠ .download || u.transport ≠ tr || u.size ≤ u.got then .next s
  else
    let n := min (min 1024 u.maxTransfer) (u.size - u.got)
    .next ((modUpdate s fun u => { u with got := u.got + min n length }).send (.requestFirmwareData tr u.component u.got n))

/-- TRANSFER_COMPLETE: the whole image has come, or the transfer has failed. -/
def execTransferComplete (tr : Nat) (ok : Bool) (s : State) : Host.Outcome State Fault Refusal :=
  let u := s.legend.update
  if u.mode ≠ .download || u.transport ≠ tr || (ok && u.got < u.size) then .next s
  else pldmAct s tr "TRANSFER_COMPLETE" (if ok then .success else .error) fun s =>
    modUpdate s (updateTo (if ok then .verify else .readyXfer))

/-- VERIFY_COMPLETE: the signature, and a security version no lower than the fused one (R320, R322). -/
def execVerifyComplete (tr : Nat) (s : State) : Host.Outcome State Fault Refusal :=
  let u := s.legend.update
  if u.mode ≠ .verify || u.transport ≠ tr then .next s
  else
    let ok := u.image.signed && s.cart.securityVersion ≤ u.image.secVersion
    pldmAct s tr "VERIFY_COMPLETE" (if ok then .success else .verifyFailed) fun s =>
      modUpdate s (updateTo (if ok then .apply else .readyXfer))

/-- APPLY_COMPLETE: the image is in the inactive bank. -/
def execApplyComplete (tr : Nat) (s : State) : Host.Outcome State Fault Refusal :=
  let u := s.legend.update
  if u.mode ≠ .apply || u.transport ≠ tr then .next s
  else pldmAct s tr "APPLY_COMPLETE" .success fun s =>
    modUpdate { s with cart := { s.cart with inactive := Tab.put s.cart.inactive u.component u.image } } fun u =>
      { updateTo .readyXfer u with applied := u.applied ++ [u.component] }

/-- The lowest security version among the images that boot loaded. -/
def lowestBooted (s : State) : Nat :=
  [2, 3, 4].foldl (fun a c => min a (bootedImage s c).secVersion) (bootedImage s 1).secVersion

/-- ACTIVATE_FIRMWARE: with an update under way, its images take effect once every parcel is FREE; with none, after a boot
from activated images, it confirms them (R454, R455). -/
def execActivateFirmware (tr : Nat) (s : State) : Host.Outcome State Fault Refusal :=
  let u := s.legend.update
  if u.mode = .readyXfer && !u.applied.isEmpty then
    pldmAct s tr "ACTIVATE_FIRMWARE" .success fun s =>
      let s := modUpdate s fun u => { Update.init with previous := u.mode }
      if allFree s then activate s else { s with cart := { s.cart with activation := true } }
  else if u.mode = .idle && s.cart.bootedActivated then
    let v := lowestBooted s
    if v ≤ s.cart.securityVersion then pldmAnswer s tr "ACTIVATE_FIRMWARE" .success []
    else if 64 < v then pldmAnswer s tr "ACTIVATE_FIRMWARE" .error []
    else pldmAct s tr "ACTIVATE_FIRMWARE" .success fun s => { s with cart := { s.cart with securityVersion := v } }
  else pldmAnswer s tr "ACTIVATE_FIRMWARE" (updateRefusal u) []

def execGetStatus (tr : Nat) (s : State) : Host.Outcome State Fault Refusal :=
  pldmAnswer s tr "GET_STATUS" .success [s.legend.update.mode.code, s.legend.update.previous.code]

def execCancelUpdateComponent (tr : Nat) (s : State) : Host.Outcome State Fault Refusal :=
  let u := s.legend.update
  if u.mode = .download || u.mode = .verify || u.mode = .apply then
    pldmAct s tr "CANCEL_UPDATE_COMPONENT" .success fun s => modUpdate s (updateTo .readyXfer)
  else pldmAnswer s tr "CANCEL_UPDATE_COMPONENT" (updateRefusal u) []

def execCancelUpdate (tr : Nat) (s : State) : Host.Outcome State Fault Refusal :=
  if s.legend.update.mode = .idle then pldmAnswer s tr "CANCEL_UPDATE" .notInUpdateMode []
  else pldmAct s tr "CANCEL_UPDATE" .success fun s => modUpdate s fun u => { Update.init with previous := u.mode }

end Sys2Proof.Machine
end

