-- ==== Sys2Proof/Machine/TileArray.lean ====
section
/-! DEFINITION. WLOAD and STREAM at issue (04_array_tiles.md R77 to R84; 06_tile_instructions.md R154 to R159): their
checks, and the reads and writes that they put in flight.
Readings and choices: log entries 10 and 22. -/

namespace Sys2Proof.Machine

/-- The reads that a WLOAD makes, one in each cycle from its issue (R77). -/
def weightReads (t cyc : Nat) (x : WloadOp) : List Flight :=
  (List.range x.reads).map fun j => { cyc := cyc + j, rank := 0, work := .weightRead t x j }

/-- WLOAD starts to fill a plane (R77, R79, R154 to R156). -/
def wloadBody (c : TCtx) : Except Cause State := do
  let pi := fld c.w 8 1
  let sclEn := bitAt c.w 48
  let k := fld c.w 69 7 + 1
  let n := fld c.w 76 9 + 1
  let src := c.ea 13 20 1 33
  let scl := c.ea 49 17 8 66
  let stride := fld c.w 36 12
  let P := plane c.T pi
  match Fmt.ofCode (fld c.w 9 4) with
  | none => throw .illegalFormat
  | some f =>
    let j := wloadReads f n
    let len := (j - 1) * stride * 16 + 128
    firstCause
      [(!f.weightOk || (f = .tern2 && !sclEn) || (f.is16f && sclEn), .illegalFormat),
       (outputColumns f < n || (1 < j && stride < 8) || src % 16 ≠ 0 || (sclEn && scl % 8 ≠ 0), .illegalField),
       (TCtx.scratchOver c.t src len || (sclEn && TCtx.scratchOver c.t scl (4 * n)), .scratchRange),
       (c.cyc < P.freeAt, .planeInUse)]
    let x : WloadOp := { pc := c.E.pc, index := c.E.retired, plane := pi, fmt := fld c.w 9 4, src := src,
                         stride := stride * 16, reads := j, kUsed := k, nUsed := n,
                         scl := if sclEn then some scl else none }
    let P0 : Plane := { Plane.empty with mode := .loading, readyAt := c.cyc + 132, freeAt := P.freeAt, fmt := fld c.w 9 4,
                                         kUsed := k, nUsed := n, scaled := sclEn }
    let s := (c.s.modTile c.t fun T => setPlane T pi P0).flyAll c.p (weightReads c.t c.cyc x)
    .ok (retireAt s c.t c.e c.cyc 128 132 true)

def execTileWload (t : TileId) (e : EngineId) (cyc : Nat) (s : State) : Host.Outcome State Fault Refusal :=
  issue s t e cyc (· = 0x20) wloadBody

/-! ### STREAM (R82 to R84, R157 to R159) -/

/-- SHIFT of Table 6.13. -/
def streamShift (code : Nat) : Nat := 8 * code

/-- The slots of a STREAM: its data rows and the last closure slot of each group (R84). `w` is cycles per slot. -/
def streamWork (t : Nat) (x : StreamOp) (int : Bool) (w : Nat) : List Flight :=
  ((List.range x.rows).map fun m => { cyc := x.start + rowSlot int m * w, rank := 0, work := .streamRow t x m }) ++
  ((List.range ((x.rows + 63) / 64)).map fun g =>
    { cyc := x.start + closureSlot int x.rows g * w, rank := 0, work := .closure t x g })

/-- STREAM starts its slots (R79, R82 to R84, R157 to R159). -/
def streamBody (c : TCtx) : Except Cause State := do
  let pi := fld c.w 8 1
  let P := plane c.T pi
  let n := fld c.w 48 12 + 1
  let stride := fld c.w 36 12
  let src := c.ea 13 20 1 33
  let base := c.ea 60 16 1 76
  let pitch := fld c.w 79 10
  let sh := fld c.w 90 2
  let asclEn := bitAt c.w 92
  let ascl := c.ea 93 17 8 110
  let known := P.mode != .empty
  match Fmt.ofCode (fld c.w 9 4), Fmt.ofCode P.fmt with
  | none, _ => throw .illegalFormat
  | _, none => throw .planeNotReady
  | some af, some wf =>
    let int := integerPath wf af P.scaled asclEn
    let len := (n - 1) * stride * 16 + streamRowBytes af P.kUsed
    firstCause
      [(!af.activationOk || (known && !pairsOk wf af) || (asclEn && af.is16f), .illegalFormat),
       (sh = 3 || (known && sh ≠ 0 && !int) || src % 16 ≠ 0 || (asclEn && ascl % 8 ≠ 0), .illegalField),
       (TCtx.scratchOver c.t src len || (asclEn && TCtx.scratchOver c.t ascl (4 * n)), .scratchRange),
       (accEntries < base + (n - 1) * pitch + P.nUsed || pitch < P.nUsed, .accRange),
       (P.mode = .empty || c.cyc < P.readyAt, .planeNotReady)]
    let x : StreamOp := { pc := c.E.pc, index := c.E.retired, template := c.s.templateNow (some c.p), plane := pi,
                          fmt := fld c.w 9 4, src := src, stride := stride * 16, rows := n,
                          scl := if asclEn then some ascl else none, base := base, pitch := pitch, set := bitAt c.w 89,
                          shift := streamShift sh, start := c.cyc }
    let w := slotCycles wf
    let last := (streamSlots int n - 1) * w
    let P' := { P with mode := .ready, freeAt := max P.freeAt (c.cyc + last + 256 + slotExtra wf) }
    let s := (c.s.modTile c.t fun T => setPlane T pi P').flyAll c.p (streamWork c.t x int w)
    .ok (retireAt s c.t c.e c.cyc (streamSlots int n * w) (last + 262 + slotExtra wf) true)

def execTileStream (t : TileId) (e : EngineId) (cyc : Nat) (s : State) : Host.Outcome State Fault Refusal :=
  issue s t e cyc (· = 0x30) streamBody

end Sys2Proof.Machine
end

