-- ==== Sys2Proof/Machine/TileGraticule.lean ====
section
/-! DEFINITION. The GRATICULE engine: GXPOSE and GPERM (06_tile_instructions.md R167, R168; 07_layout_graticule.md R185
to R187, Tables 7.8 and 7.9). -/

namespace Sys2Proof.Machine

/-- Element width in bytes (Table 6.17); 3 is reserved. -/
def elemWidth (code : Nat) : Nat := 2 ^ code

/-- Sub-block rows and columns (Table 7.9). -/
def subBlock (ew : Nat) : Nat × Nat := match ew with | 0 => (16, 16) | 1 => (16, 8) | _ => (8, 8)

/-- GXPOSE: destination row `col` is column `col` of the source (R167). -/
def transposed (m : Mem) (src sstride rows w col : Nat) : List Byte :=
  (List.range rows).flatMap fun r => Mem.readBytes m (src + r * sstride * 16 + col * w) w

/-- The destination rows of a transpose from row 0 on land as the instruction retires, `ret` cycles after its issue. -/
def landColumns (c : TCtx) (ret src sstride dst dstride rows w : Nat) : Nat → State → State
  | 0, s => s
  | k + 1, s =>
    c.land (landColumns c ret src sstride dst dstride rows w k s) ret (dst + k * dstride * 16)
      (transposed c.T.scratch src sstride rows w k)

/-- GXPOSE (R167). -/
def gxposeBody (c : TCtx) : Except Cause State := do
  let ew := fld c.w 94 2
  let w := elemWidth ew
  let rows := fld c.w 78 8 + 1
  let cols := fld c.w 86 8 + 1
  let src := c.ea 8 20 1 28
  let dst := c.ea 43 20 1 63
  let ss := fld c.w 31 12
  let ds := fld c.w 66 12
  let slen := (rows - 1) * ss * 16 + cols * w
  let dlen := (cols - 1) * ds * 16 + rows * w
  if hazard c.E c.cyc [(src, slen)] then return c.s0
  firstCause
    [(ew = 3 || 65536 < rows * cols * w || ss * 16 < cols * w || ds * 16 < rows * w || src % 16 ≠ 0 || dst % 16 ≠ 0 ||
        rangesMeet src slen dst dlen, .illegalField),
     (TCtx.scratchOver c.t src slen || TCtx.scratchOver c.t dst dlen, .scratchRange)]
  match (List.range rows).findSome? fun r => scratchBadAt c.T (src + r * ss * 16) (cols * w) with
  | some b => return c.sramFault b
  | none =>
    let (qr, qc) := subBlock ew
    let occ := ((rows + qr - 1) / qr) * ((cols + qc - 1) / qc) + 8
    let s0 := countScratch c c.s ((List.range rows).map fun r => (src + r * ss * 16, cols * w))
    let s := landColumns c (occ + 24) src ss dst ds rows w cols s0
    .ok (retireAt (noteDst s c.t c.e c.cyc (occ + 24) [(dst, dlen)]) c.t c.e c.cyc occ (occ + 24) true)

def execTileGxpose (t : TileId) (e : EngineId) (cyc : Nat) (s : State) : Host.Outcome State Fault Refusal :=
  issue s t e cyc (· = 0xA0) gxposeBody

/-! ### GPERM -/

/-- The bit in which the lanes of stage `s` differ, with `n` index bits (R185). -/
def stageBit (n s : Nat) : Nat := if s < n then n - 1 - s else s - n + 1

/-- The switch of lane `e` in a stage of bit `d`: its lower lane's place among the lanes with bit `d` clear (R185). -/
def switchOf (d e : Nat) : Nat := e / 2 ^ (d + 1) * 2 ^ d + e % 2 ^ d

/-- One stage: a lane takes its partner's element where its switch is 1 (R185). -/
def applyStage (sw : Nat) (d : Nat) (xs : List (List Byte)) : List (List Byte) :=
  (List.range xs.length).map fun e =>
    xs.getD (if bitAt sw (switchOf d e) then e ^^^ 2 ^ d else e) []

/-- The stages of a program from stage `s` on; `prog` are the remaining SWITCH slots. -/
def applyStages (n s : Nat) : List Nat → List (List Byte) → List (List Byte)
  | [], xs => xs
  | sw :: r, xs => applyStages n (s + 1) r (applyStage sw (stageBit n s) xs)

/-- A stage program that the network cannot realise (R186). -/
def programBad (slots : List Nat) (ew : Nat) : Bool :=
  let n := 8 - ew
  let last := slots.getD 15 0
  fld last 0 2 ≠ ew || fld last 8 8 ≠ 1 ||
  (List.range 15).any fun s =>
    let sw := slots.getD s 0
    if s ≤ 2 * n - 2 then sw / 2 ^ (2 ^ (n - 1)) ≠ 0 else sw ≠ 0

/-- `k` blocks of 256 B, permuted, land as the instruction retires, `ret` cycles after its issue. -/
def landBlocks (c : TCtx) (ret src dst ew : Nat) (slots : List Nat) : Nat → State → State
  | 0, s => s
  | k + 1, s =>
    let w := elemWidth ew
    let n := 8 - ew
    let xs := (List.range (256 / w)).map fun e => Mem.readBytes c.T.scratch (src + 256 * k + e * w) w
    c.land (landBlocks c ret src dst ew slots k s) ret (dst + 256 * k) (applyStages n 0 (slots.take (2 * n - 1)) xs).flatten

/-- GPERM (R168). -/
def gpermBody (c : TCtx) : Except Cause State := do
  let ew := fld c.w 74 2
  let src := c.ea 8 20 1 28
  let dst := c.ea 31 20 1 51
  let k := fld c.w 54 8 + 1
  let prog := fld c.w 62 12
  let len := 256 * k
  let slots := (List.range 16).map fun i => (Tab.get 0 c.T.imem (prog + i)).toNat
  if hazard c.E c.cyc [(src, len)] then return c.s0
  c.withSlots (if prog + 15 ≤ 4095 then some (prog, 16) else none) fun c => do
    firstCause
      [(4095 < prog + 15 || ew = 3 || src % 16 ≠ 0 || dst % 16 ≠ 0 || rangesMeet src len dst len || programBad slots ew,
        .illegalField),
       (TCtx.scratchOver c.t src len || TCtx.scratchOver c.t dst len, .scratchRange)]
    match scratchBadAt c.T src len with
    | some b => return c.sramFault b
    | none =>
      let occ := k + 8
      let s0 := countScratch c c.s ((List.range k).map fun i => (src + 256 * i, 256))
      let s := landBlocks c (occ + 24) src dst ew slots k s0
      .ok (retireAt (noteDst s c.t c.e c.cyc (occ + 24) [(dst, len)]) c.t c.e c.cyc occ (occ + 24) true)

def execTileGperm (t : TileId) (e : EngineId) (cyc : Nat) (s : State) : Host.Outcome State Fault Refusal :=
  issue s t e cyc (· = 0xA1) gpermBody

end Sys2Proof.Machine
end

