-- ==== Sys2Proof/Machine/Dispatch.lean ====
section
/-! DEFINITION. One arm per command: the call of its meaning. -/

namespace Sys2Proof.Machine

def exec (i : Instr) (s : State) : Host.Outcome State Fault Refusal :=
  match i with
  | .tickBoundary cycles => Sys2Proof.Machine.execTickBoundary cycles s
  | .stretchChange => Sys2Proof.Machine.execStretchChange s
  | .bucketLeak => Sys2Proof.Machine.execBucketLeak s
  | .laneCountRestart => Sys2Proof.Machine.execLaneCountRestart s
  | .powerDemandUpdate energyUJ => Sys2Proof.Machine.execPowerDemandUpdate energyUJ s
  | .powerWUpdate => Sys2Proof.Machine.execPowerWUpdate s
  | .refreshSlot c => Sys2Proof.Machine.execRefreshSlot c s
  | .scrubSlot c => Sys2Proof.Machine.execScrubSlot c s
  | .clearSlot c => Sys2Proof.Machine.execClearSlot c s
  | .clearEnqueue c page => Sys2Proof.Machine.execClearEnqueue c page s
  | .channelClearDone c => Sys2Proof.Machine.execChannelClearDone c s
  | .admissionEvaluate p => Sys2Proof.Machine.execAdmissionEvaluate p s
  | .pendingExpired p => Sys2Proof.Machine.execPendingExpired p s
  | .planCompose p => Sys2Proof.Machine.execPlanCompose p s
  | .commandSample p => Sys2Proof.Machine.execCommandSample p s
  | .legLaunch p record tickCyc => Sys2Proof.Machine.execLegLaunch p record tickCyc s
  | .legComplete p tokens lateCycles => Sys2Proof.Machine.execLegComplete p tokens lateCycles s
  | .engineEndRetire t e cyc => Sys2Proof.Machine.execEngineEndRetire t e cyc s
  | .engineHalt t e cyc => Sys2Proof.Machine.execEngineHalt t e cyc s
  | .legDump p => Sys2Proof.Machine.execLegDump p s
  | .postArrival t cairn cyc => Sys2Proof.Machine.execPostArrival t cairn cyc s
  | .waitTimeout t e cyc => Sys2Proof.Machine.execWaitTimeout t e cyc s
  | .waitqTimeout t e cyc => Sys2Proof.Machine.execWaitqTimeout t e cyc s
  | .copyRun t e ch cyc => Sys2Proof.Machine.execCopyRun t e ch cyc s
  | .segmentTurn c cyc laneErrors => Sys2Proof.Machine.execSegmentTurn c cyc laneErrors s
  | .descriptorComplete t e ch cyc => Sys2Proof.Machine.execDescriptorComplete t e ch cyc s
  | .faultStop p cyc => Sys2Proof.Machine.execFaultStop p cyc s
  | .contextTeardown p => Sys2Proof.Machine.execContextTeardown p s
  | .tileNop t e cyc => Sys2Proof.Machine.execTileNop t e cyc s
  | .tileEnd t e cyc => Sys2Proof.Machine.execTileEnd t e cyc s
  | .tileLoop t e cyc => Sys2Proof.Machine.execTileLoop t e cyc s
  | .tileWait t e cyc => Sys2Proof.Machine.execTileWait t e cyc s
  | .tilePost t e cyc => Sys2Proof.Machine.execTilePost t e cyc s
  | .tileSeto t e cyc => Sys2Proof.Machine.execTileSeto t e cyc s
  | .tileAddo t e cyc => Sys2Proof.Machine.execTileAddo t e cyc s
  | .tileCopy t e cyc => Sys2Proof.Machine.execTileCopy t e cyc s
  | .tileWaitq t e cyc => Sys2Proof.Machine.execTileWaitq t e cyc s
  | .tileClaunch t e cyc => Sys2Proof.Machine.execTileClaunch t e cyc s
  | .tileWload t e cyc => Sys2Proof.Machine.execTileWload t e cyc s
  | .tileStream t e cyc => Sys2Proof.Machine.execTileStream t e cyc s
  | .tileDrain t e cyc => Sys2Proof.Machine.execTileDrain t e cyc s
  | .tileVadd t e cyc => Sys2Proof.Machine.execTileVadd t e cyc s
  | .tileVsub t e cyc => Sys2Proof.Machine.execTileVsub t e cyc s
  | .tileVmul t e cyc => Sys2Proof.Machine.execTileVmul t e cyc s
  | .tileVfma t e cyc => Sys2Proof.Machine.execTileVfma t e cyc s
  | .tileVmax t e cyc => Sys2Proof.Machine.execTileVmax t e cyc s
  | .tileVmin t e cyc => Sys2Proof.Machine.execTileVmin t e cyc s
  | .tileVabs t e cyc => Sys2Proof.Machine.execTileVabs t e cyc s
  | .tileVneg t e cyc => Sys2Proof.Machine.execTileVneg t e cyc s
  | .tileVcvt t e cyc => Sys2Proof.Machine.execTileVcvt t e cyc s
  | .tileVexp2 t e cyc => Sys2Proof.Machine.execTileVexp2 t e cyc s
  | .tileVlog2 t e cyc => Sys2Proof.Machine.execTileVlog2 t e cyc s
  | .tileVrcp t e cyc => Sys2Proof.Machine.execTileVrcp t e cyc s
  | .tileVrsqrt t e cyc => Sys2Proof.Machine.execTileVrsqrt t e cyc s
  | .tileVsig t e cyc => Sys2Proof.Machine.execTileVsig t e cyc s
  | .tileVrsum t e cyc => Sys2Proof.Machine.execTileVrsum t e cyc s
  | .tileVrmax t e cyc => Sys2Proof.Machine.execTileVrmax t e cyc s
  | .tileVrssq t e cyc => Sys2Proof.Machine.execTileVrssq t e cyc s
  | .tileVrot t e cyc => Sys2Proof.Machine.execTileVrot t e cyc s
  | .tileVsplit32 t e cyc => Sys2Proof.Machine.execTileVsplit32 t e cyc s
  | .tileVsplit16 t e cyc => Sys2Proof.Machine.execTileVsplit16 t e cyc s
  | .tileGxpose t e cyc => Sys2Proof.Machine.execTileGxpose t e cyc s
  | .tileGperm t e cyc => Sys2Proof.Machine.execTileGperm t e cyc s
  | .celuloLaunch u cyc => Sys2Proof.Machine.execCeluloLaunch u cyc s
  | .portFrame u => Sys2Proof.Machine.execPortFrame u s
  | .celuloFaultReport u => Sys2Proof.Machine.execCeluloFaultReport u s
  | .launchCompletionPost t e cyc => Sys2Proof.Machine.execLaunchCompletionPost t e cyc s
  | .celuloAlu u cyc => Sys2Proof.Machine.execCeluloAlu u cyc s
  | .celuloAddi u cyc => Sys2Proof.Machine.execCeluloAddi u cyc s
  | .celuloAndi u cyc => Sys2Proof.Machine.execCeluloAndi u cyc s
  | .celuloShi u cyc => Sys2Proof.Machine.execCeluloShi u cyc s
  | .celuloLui u cyc => Sys2Proof.Machine.execCeluloLui u cyc s
  | .celuloFalu u cyc => Sys2Proof.Machine.execCeluloFalu u cyc s
  | .celuloSel u cyc => Sys2Proof.Machine.execCeluloSel u cyc s
  | .celuloLdw u cyc => Sys2Proof.Machine.execCeluloLdw u cyc s
  | .celuloStw u cyc => Sys2Proof.Machine.execCeluloStw u cyc s
  | .celuloVld u cyc => Sys2Proof.Machine.execCeluloVld u cyc s
  | .celuloVst u cyc => Sys2Proof.Machine.execCeluloVst u cyc s
  | .celuloVlds u cyc => Sys2Proof.Machine.execCeluloVlds u cyc s
  | .celuloVstw u cyc => Sys2Proof.Machine.execCeluloVstw u cyc s
  | .celuloRstr u cyc => Sys2Proof.Machine.execCeluloRstr u cyc s
  | .celuloWstr u cyc => Sys2Proof.Machine.execCeluloWstr u cyc s
  | .celuloWaitw u cyc => Sys2Proof.Machine.execCeluloWaitw u cyc s
  | .celuloVdot u cyc => Sys2Proof.Machine.execCeluloVdot u cyc s
  | .celuloVmacm u cyc => Sys2Proof.Machine.execCeluloVmacm u cyc s
  | .celuloVf u cyc => Sys2Proof.Machine.execCeluloVf u cyc s
  | .celuloVcvt u cyc => Sys2Proof.Machine.execCeluloVcvt u cyc s
  | .celuloSetf u cyc => Sys2Proof.Machine.execCeluloSetf u cyc s
  | .celuloSets u cyc => Sys2Proof.Machine.execCeluloSets u cyc s
  | .celuloLoop u cyc => Sys2Proof.Machine.execCeluloLoop u cyc s
  | .celuloDone u cyc => Sys2Proof.Machine.execCeluloDone u cyc s
  | .celuloFail u cyc => Sys2Proof.Machine.execCeluloFail u cyc s
  | .celuloEret u cyc => Sys2Proof.Machine.execCeluloEret u cyc s
  | .celuloNop u cyc => Sys2Proof.Machine.execCeluloNop u cyc s
  | .atomicAdd p addr size op => Sys2Proof.Machine.execAtomicAdd p addr size op s
  | .atomicAnd p addr size op => Sys2Proof.Machine.execAtomicAnd p addr size op s
  | .atomicOr p addr size op => Sys2Proof.Machine.execAtomicOr p addr size op s
  | .atomicXor p addr size op => Sys2Proof.Machine.execAtomicXor p addr size op s
  | .atomicMax p addr size op => Sys2Proof.Machine.execAtomicMax p addr size op s
  | .atomicMin p addr size op => Sys2Proof.Machine.execAtomicMin p addr size op s
  | .atomicMaxu p addr size op => Sys2Proof.Machine.execAtomicMaxu p addr size op s
  | .atomicMinu p addr size op => Sys2Proof.Machine.execAtomicMinu p addr size op s
  | .atomicSwap p addr size op => Sys2Proof.Machine.execAtomicSwap p addr size op s
  | .atomicCas p addr size op compare => Sys2Proof.Machine.execAtomicCas p addr size op compare s
  | .atomicFadd32 p addr size op => Sys2Proof.Machine.execAtomicFadd32 p addr size op s
  | .atomicFadd16b p addr size op => Sys2Proof.Machine.execAtomicFadd16b p addr size op s
  | .retrain who c value => Sys2Proof.Machine.execRetrain who c value s
  | .trainingComplete c failing failed eyeWidth eyeHeight worst => Sys2Proof.Machine.execTrainingComplete c failing failed eyeWidth eyeHeight worst s
  | .tgStart who c value => Sys2Proof.Machine.execTgStart who c value s
  | .tgStop who c value => Sys2Proof.Machine.execTgStop who c value s
  | .tgRunBegin c => Sys2Proof.Machine.execTgRunBegin c s
  | .tgRunEnd c => Sys2Proof.Machine.execTgRunEnd c s
  | .doorbell p r tail => Sys2Proof.Machine.execDoorbell p r tail s
  | .entryRead p r => Sys2Proof.Machine.execEntryRead p r s
  | .submitNop p r entry => Sys2Proof.Machine.execSubmitNop p r entry s
  | .submit p r entry => Sys2Proof.Machine.execSubmit p r entry s
  | .cancel p r entry => Sys2Proof.Machine.execCancel p r entry s
  | .registerDatum p r entry => Sys2Proof.Machine.execRegisterDatum p r entry s
  | .releaseDatum p r entry => Sys2Proof.Machine.execReleaseDatum p r entry s
  | .insetPublish p r entry => Sys2Proof.Machine.execInsetPublish p r entry s
  | .insetRetire p r entry => Sys2Proof.Machine.execInsetRetire p r entry s
  | .promptReadDone p buf tokens => Sys2Proof.Machine.execPromptReadDone p buf tokens s
  | .completionWrite p r => Sys2Proof.Machine.execCompletionWrite p r s
  | .seal who p => Sys2Proof.Machine.execSeal who p s
  | .start who p => Sys2Proof.Machine.execStart who p s
  | .jobEnd who p => Sys2Proof.Machine.execJobEnd who p s
  | .abort who p => Sys2Proof.Machine.execAbort who p s
  | .preempt who p => Sys2Proof.Machine.execPreempt who p s
  | .resume who p => Sys2Proof.Machine.execResume who p s
  | .stop who p => Sys2Proof.Machine.execStop who p s
  | .release who p => Sys2Proof.Machine.execRelease who p s
  | .parcelSectors who p value => Sys2Proof.Machine.execParcelSectors who p value s
  | .retireTile who k value => Sys2Proof.Machine.execRetireTile who k value s
  | .retireChannel who k value => Sys2Proof.Machine.execRetireChannel who k value s
  | .retireSteward who k value => Sys2Proof.Machine.execRetireSteward who k value s
  | .retirePage who c value => Sys2Proof.Machine.execRetirePage who c value s
  | .retirePair who c value => Sys2Proof.Machine.execRetirePair who c value s
  | .intervalSteps who value => Sys2Proof.Machine.execIntervalSteps who value s
  | .overrunClear who p value => Sys2Proof.Machine.execOverrunClear who p value s
  | .bucketDepth who value => Sys2Proof.Machine.execBucketDepth who value s
  | .logWrite => Sys2Proof.Machine.execLogWrite s
  | .deliveryStart who p addr header => Sys2Proof.Machine.execDeliveryStart who p addr header s
  | .deliveryChunk p desc cipher chart => Sys2Proof.Machine.execDeliveryChunk p desc cipher chart s
  | .deliveryAbort who p value => Sys2Proof.Machine.execDeliveryAbort who p value s
  | .exportAuth who p request => Sys2Proof.Machine.execExportAuth who p request s
  | .exportChunk p => Sys2Proof.Machine.execExportChunk p s
  | .tamperEvent sources keyOp => Sys2Proof.Machine.execTamperEvent sources keyOp s
  | .getVersion tr => Sys2Proof.Machine.execGetVersion tr s
  | .getCapabilities tr => Sys2Proof.Machine.execGetCapabilities tr s
  | .negotiateAlgorithms tr => Sys2Proof.Machine.execNegotiateAlgorithms tr s
  | .getDigests tr => Sys2Proof.Machine.execGetDigests tr s
  | .getCertificate tr slot offset length => Sys2Proof.Machine.execGetCertificate tr slot offset length s
  | .challenge tr slot nonce => Sys2Proof.Machine.execChallenge tr slot nonce s
  | .getMeasurements tr block signed fn => Sys2Proof.Machine.execGetMeasurements tr block signed fn s
  | .keyExchange tr point => Sys2Proof.Machine.execKeyExchange tr point s
  | .finish tr session => Sys2Proof.Machine.execFinish tr session s
  | .keyUpdate tr session => Sys2Proof.Machine.execKeyUpdate tr session s
  | .heartbeat tr session => Sys2Proof.Machine.execHeartbeat tr session s
  | .endSession tr session => Sys2Proof.Machine.execEndSession tr session s
  | .chunkSend tr seq last data => Sys2Proof.Machine.execChunkSend tr seq last data s
  | .chunkGet tr seq => Sys2Proof.Machine.execChunkGet tr seq s
  | .lockInterfaceRequest tr p => Sys2Proof.Machine.execLockInterfaceRequest tr p s
  | .stopInterfaceRequest tr p => Sys2Proof.Machine.execStopInterfaceRequest tr p s
  | .ideKm tr session fn key go => Sys2Proof.Machine.execIdeKm tr session fn key go s
  | .spdmUnsupported tr code => Sys2Proof.Machine.execSpdmUnsupported tr code s
  | .spdmResponseRelease k => Sys2Proof.Machine.execSpdmResponseRelease k s
  | .powerOnReset => Sys2Proof.Machine.execPowerOnReset s
  | .moduleResetN lowUs => Sys2Proof.Machine.execModuleResetN lowUs s
  | .moduleReset who value => Sys2Proof.Machine.execModuleReset who value s
  | .bootRelease ms => Sys2Proof.Machine.execBootRelease ms s
  | .v48InRange => Sys2Proof.Machine.execV48InRange s
  | .v48Dip millivolts micros => Sys2Proof.Machine.execV48Dip millivolts micros s
  | .v48Loss => Sys2Proof.Machine.execV48Loss s
  | .v3p3SbLoss => Sys2Proof.Machine.execV3p3SbLoss s
  | .thermTripRelease absentMs => Sys2Proof.Machine.execThermTripRelease absentMs s
  | .flashExtN low images => Sys2Proof.Machine.execFlashExtN low images s
  | .hostInterfaceReset kind => Sys2Proof.Machine.execHostInterfaceReset kind s
  | .vfFlr p => Sys2Proof.Machine.execVfFlr p s
  | .vfPowerState p present d0 => Sys2Proof.Machine.execVfPowerState p present d0 s
  | .ideStreamInsecure fn => Sys2Proof.Machine.execIdeStreamInsecure fn s
  | .configRequest fn register => Sys2Proof.Machine.execConfigRequest fn register s
  | .refDead ref => Sys2Proof.Machine.execRefDead ref s
  | .refClear who value goodUs => Sys2Proof.Machine.execRefClear who value goodUs s
  | .pllCoast d => Sys2Proof.Machine.execPllCoast d s
  | .refSel who d value => Sys2Proof.Machine.execRefSel who d value s
  | .switchComplete d => Sys2Proof.Machine.execSwitchComplete d s
  | .switchHung d => Sys2Proof.Machine.execSwitchHung d s
  | .forceSwitch who d value => Sys2Proof.Machine.execForceSwitch who d value s
  | .forcedSwitchDone d => Sys2Proof.Machine.execForcedSwitchDone d s
  | .crossingRearm d => Sys2Proof.Machine.execCrossingRearm d s
  | .sscConfig who value => Sys2Proof.Machine.execSscConfig who value s
  | .gateStop who d node => Sys2Proof.Machine.execGateStop who d node s
  | .gateStart who d node => Sys2Proof.Machine.execGateStart who d node s
  | .sensorConversion n result => Sys2Proof.Machine.execSensorConversion n result s
  | .sensorClear who n value => Sys2Proof.Machine.execSensorClear who n value s
  | .treatment who n value => Sys2Proof.Machine.execTreatment who n value s
  | .portParcel who q value => Sys2Proof.Machine.execPortParcel who q value s
  | .idleFlit q header body fecBad fecCorrected => Sys2Proof.Machine.execIdleFlit q header body fecBad fecCorrected s
  | .dataFlit q header body fecBad fecCorrected => Sys2Proof.Machine.execDataFlit q header body fecBad fecCorrected s
  | .controlFlit q header body fecBad fecCorrected => Sys2Proof.Machine.execControlFlit q header body fecBad fecCorrected s
  | .linkManagementFlit q header body fecBad fecCorrected identify => Sys2Proof.Machine.execLinkManagementFlit q header body fecBad fecCorrected identify s
  | .remoteSend p => Sys2Proof.Machine.execRemoteSend p s
  | .rput q => Sys2Proof.Machine.execRput q s
  | .rget q => Sys2Proof.Machine.execRget q s
  | .ratomic q => Sys2Proof.Machine.execRatomic q s
  | .rsignal q => Sys2Proof.Machine.execRsignal q s
  | .response q => Sys2Proof.Machine.execResponse q s
  | .laneLossTimeout q lane => Sys2Proof.Machine.execLaneLossTimeout q lane s
  | .portTrainingDone q localOk peerOk => Sys2Proof.Machine.execPortTrainingDone q localOk peerOk s
  | .downRetry q => Sys2Proof.Machine.execDownRetry q s
  | .trainingPatternDetect q => Sys2Proof.Machine.execTrainingPatternDetect q s
  | .lowPowerIdle q => Sys2Proof.Machine.execLowPowerIdle q s
  | .forcedBurst q => Sys2Proof.Machine.execForcedBurst q s
  | .portVerdict q lane uW los peer => Sys2Proof.Machine.execPortVerdict q lane uW los peer s
  | .lampControl who m value => Sys2Proof.Machine.execLampControl who m value s
  | .lampPresence m present => Sys2Proof.Machine.execLampPresence m present s
  | .read tr reqId index sub offset length => Sys2Proof.Machine.execRead tr reqId index sub offset length s
  | .write tr reqId index sub offset data => Sys2Proof.Machine.execWrite tr reqId index sub offset data s
  | .poll tr reqId ticket => Sys2Proof.Machine.execPoll tr reqId ticket s
  | .readSet tr reqId entries => Sys2Proof.Machine.execReadSet tr reqId entries s
  | .slowResultReady tr ticket => Sys2Proof.Machine.execSlowResultReady tr ticket s
  | .ticketExpire tr ticket => Sys2Proof.Machine.execTicketExpire tr ticket s
  | .mbDoorbell p length => Sys2Proof.Machine.execMbDoorbell p length s
  | .mbAck p value => Sys2Proof.Machine.execMbAck p value s
  | .factoryAuth tr token => Sys2Proof.Machine.execFactoryAuth tr token s
  | .registerWrite fn offset size value tee => Sys2Proof.Machine.execRegisterWrite fn offset size value tee s
  | .entdaa address => Sys2Proof.Machine.execEntdaa address s
  | .privateRead => Sys2Proof.Machine.execPrivateRead s
  | .setEndpointId tr eid => Sys2Proof.Machine.execSetEndpointId tr eid s
  | .getEndpointId tr => Sys2Proof.Machine.execGetEndpointId tr s
  | .getMctpVersionSupport tr => Sys2Proof.Machine.execGetMctpVersionSupport tr s
  | .getMessageTypeSupport tr => Sys2Proof.Machine.execGetMessageTypeSupport tr s
  | .getVendorDefinedMessageSupport tr => Sys2Proof.Machine.execGetVendorDefinedMessageSupport tr s
  | .getTid tr => Sys2Proof.Machine.execGetTid tr s
  | .setTid tr tid => Sys2Proof.Machine.execSetTid tr tid s
  | .getPldmVersion tr type => Sys2Proof.Machine.execGetPldmVersion tr type s
  | .getPldmTypes tr => Sys2Proof.Machine.execGetPldmTypes tr s
  | .getPldmCommands tr type => Sys2Proof.Machine.execGetPldmCommands tr type s
  | .getPdrRepositoryInfo tr => Sys2Proof.Machine.execGetPdrRepositoryInfo tr s
  | .getPdr tr handle => Sys2Proof.Machine.execGetPdr tr handle s
  | .getSensorReading tr sensor => Sys2Proof.Machine.execGetSensorReading tr sensor s
  | .getStateSensorReadings tr sensor => Sys2Proof.Machine.execGetStateSensorReadings tr sensor s
  | .setEventReceiver tr eid => Sys2Proof.Machine.execSetEventReceiver tr eid s
  | .queryDeviceIdentifiers tr => Sys2Proof.Machine.execQueryDeviceIdentifiers tr s
  | .getFirmwareParameters tr => Sys2Proof.Machine.execGetFirmwareParameters tr s
  | .requestUpdate tr maxTransfer => Sys2Proof.Machine.execRequestUpdate tr maxTransfer s
  | .passComponentTable tr component last => Sys2Proof.Machine.execPassComponentTable tr component last s
  | .updateComponent tr component size image => Sys2Proof.Machine.execUpdateComponent tr component size image s
  | .requestFirmwareData tr length => Sys2Proof.Machine.execRequestFirmwareData tr length s
  | .transferComplete tr ok => Sys2Proof.Machine.execTransferComplete tr ok s
  | .verifyComplete tr => Sys2Proof.Machine.execVerifyComplete tr s
  | .applyComplete tr => Sys2Proof.Machine.execApplyComplete tr s
  | .activateFirmware tr => Sys2Proof.Machine.execActivateFirmware tr s
  | .getStatus tr => Sys2Proof.Machine.execGetStatus tr s
  | .cancelUpdateComponent tr => Sys2Proof.Machine.execCancelUpdateComponent tr s
  | .cancelUpdate tr => Sys2Proof.Machine.execCancelUpdate tr s
  | .pldmUnsupported tr command => Sys2Proof.Machine.execPldmUnsupported tr command s
  | .spineFailure d => Sys2Proof.Machine.execSpineFailure d s
  | .bridgeFailure => Sys2Proof.Machine.execBridgeFailure s
  | .startInterfaceRequest tr p => Sys2Proof.Machine.execStartInterfaceRequest tr p s
  | .getDeviceInterfaceReport tr p => Sys2Proof.Machine.execGetDeviceInterfaceReport tr p s
  | .moduleResetNRise => Sys2Proof.Machine.execModuleResetNRise s

end Sys2Proof.Machine
end

