-- ==== Sys2Proof/Certificates/Slice0/Obligations.lean ====
section
/-! DEFINITION. The statements about the block, each a proposition over the model's own step. The helpers in the namespace
Claims say when a command acts and what a frame leaves alone; the statements are the definitions under Obligations. -/

namespace Sys2Proof.Claims

open Sys2Proof Sys2Proof.Machine

/-! ### Tile engines (chapters 4 to 7) -/

/-- Does the engine exist and accept the opcode (Table 6.1)? -/
def accepts (t e op : Nat) : Bool :=
  match engineKind t e with
  | some k => opcodeAccepted k (isVectorTile t) op
  | none => false

/-- The state as cycle `cyc` of parcel `p`'s leg begins: the work in flight of every earlier cycle has been done (R76, R82,
R142, R250). -/
abbrev begun (s : State) (p cyc : Nat) : State := s.settle p cyc

/-- The engine as cycle `cyc` begins, its queue filled by the fetch unit up to it (R106). -/
abbrev engineBegun (s : State) (t e p cyc : Nat) : Engine :=
  Machine.fetched ((begun s p cyc).tile t) ((begun s p cyc).engine t e) cyc

/-- In cycle `cyc`, engine `e` of tile `t`, in a parcel whose leg issues, may issue its next instruction; that instruction's
word has been fetched, can be read and carries opcode `op`, which the engine accepts (R105, R106, R127, R133, R140). -/
abbrev Ready (s : State) (t : TileId) (e : EngineId) (cyc p op : Nat) : Prop :=
  s.tileParcel t = some p ∧ (begun s p cyc).legIssues p cyc = true ∧
  canIssue ((begun s p cyc).tile t) (engineBegun s t e p cyc) e cyc = true ∧
  (fetchQueue ((begun s p cyc).tile t) ((begun s p cyc).engine t e) cyc).2 = false ∧
  TCtx.slotsBad ((begun s p cyc).tile t) (engineBegun s t e p cyc).pc.toNat 1 = false ∧
  (issueWord ((begun s p cyc).tile t) (engineBegun s t e p cyc)).map (fun w => w.toNat % 256) = some op ∧
  accepts t e op = true

/-- The state in which the instruction issues: its word is fetched, the leg is Running (R31), and a corrected bit of the word
is counted (R351). -/
def atIssue (s : State) (t e cyc p : Nat) : State :=
  let b := ((begun s p cyc).setEngine t e (engineBegun s t e p cyc)).beginLeg p
  if slotsCorr ((begun s p cyc).tile t) (engineBegun s t e p cyc).pc.toNat 1 then b.bucketEvent 1 t (some p) else b

/-- The instruction at its issue. -/
def issued (s : State) (t e cyc p : Nat) : TCtx :=
  { s0 := s, s := atIssue s t e cyc p, t := t, e := e, cyc := cyc, p := p, T := (atIssue s t e cyc p).tile t
    E := engineBegun s t e p cyc
    w := ((issueWord ((begun s p cyc).tile t) (engineBegun s t e p cyc)).getD 0).toNat }

/-- In state `s` an instruction of opcode `op` may issue on engine `e` of tile `t` in cycle `cyc`, and it issues as `c`. -/
abbrev Issues (s : State) (t : TileId) (e : EngineId) (cyc p op : Nat) (c : TCtx) : Prop :=
  Ready s t e cyc p op ∧ c = issued s t e cyc p

/-- The tile's other engines are as they were, save that a fault record of theirs may have lost its PRIMARY bit to a fault that
ranks before it (R123). -/
abbrev SiblingsKept (s s' : State) (t e : Nat) : Prop :=
  ∀ i, i ≠ e → s'.engine t i = { s.engine t i with faultRecord := (s'.engine t i).faultRecord }

/-- The engine has retired one more instruction, goes on as its open loops say, may issue again `occ` cycles after its
issue, 8 more at a refetching back edge, and its queue has moved on (R106, R107, R126, R140, R145);
the tile's other engines are as they were. -/
abbrev RetiredOne (c : TCtx) (s' : State) (occ ret : Nat) : Prop :=
  let next := afterInstr c.E.pc.toNat c.E.loops
  let E' := s'.engine c.t c.e
  E'.retired = c.E.retired + 1 ∧ E'.loops = next.2.1 ∧
  E'.nextIssue = c.cyc + occ + (if next.2.2 then 8 else 0) ∧ E'.retireAt = max c.E.retireAt (c.cyc + ret) ∧
  E'.queue = queueAfter c.T c.E next.1 c.E.pc.toNat next.2.2 ∧ SiblingsKept c.s s' c.t c.e ∧
  (next.1 < 4096 → E'.mode = .issuing ∧ E'.pc = BitVec.ofNat 12 next.1) ∧
  (4096 ≤ next.1 → E'.mode = .faulted ∧ fld E'.faultRecord.toNat 0 8 = 4)

/-- The engine's offset registers, copy channels and launches are as they were at the issue. -/
abbrev EngineKept (c : TCtx) (s' : State) : Prop :=
  (s'.engine c.t c.e).offs = c.E.offs ∧ (s'.engine c.t c.e).chans = c.E.chans ∧
  (s'.engine c.t c.e).launches = c.E.launches

/-- No tile but `t` has changed, save that a fault record of parcel `p`'s leg may have lost its PRIMARY bit to a fault that
ranks before it (R123). -/
abbrev OthersKept (s s' : State) (t p : Nat) : Prop :=
  (∀ i, i ≠ t → s'.tile i = { s.tile i with engines := (s'.tile i).engines } ∧
    ∀ e, s'.engine i e = { s.engine i e with faultRecord := (s'.engine i e).faultRecord }) ∧
  ((s.parcel p).primary = none → ∀ i, i ≠ t → s'.tile i = s.tile i)

/-- Nothing outside tile `t`, parcel `p`'s accounts, leg and work in flight, the error log and the interrupts waiting has
changed. -/
abbrev WithinTile (s s' : State) (t p : Nat) : Prop :=
  s' = { s with tiles := s'.tiles, parcels := s'.parcels, log := s'.log, irq := s'.irq } ∧ OthersKept s s' t p

/-- The tile's storage, cairns, planes and closure state are as they were. -/
abbrev TileDataKept (s s' : State) (t : Nat) : Prop := s'.tile t = { s.tile t with engines := (s'.tile t).engines }

/-- The instruction completed, `occ` and `ret` cycles after its issue, and changed no storage of its tile. -/
abbrev RetiredQuietly (c : TCtx) (s' : State) (occ ret : Nat) : Prop :=
  RetiredOne c s' occ ret ∧ WithinTile c.s s' c.t c.p ∧ TileDataKept c.s s' c.t

/-- The engine has faulted with a cause of Table 5.4 at the instruction, which is not retired; its offset registers,
loops, copy channels and launches, the tile's other engines and its storage are as they were (R121). -/
abbrev FaultedBy (c : TCtx) (s' : State) (cause : Cause) : Prop :=
  let E' := s'.engine c.t c.e
  E'.mode = .faulted ∧ fld E'.faultRecord.toNat 0 8 = cause.code ∧ E'.pc = c.E.pc ∧ E'.retired = c.E.retired ∧
  EngineKept c s' ∧ E'.loops = c.E.loops ∧ TileDataKept c.s s' c.t ∧
  SiblingsKept c.s s' c.t c.e ∧ WithinTile c.s s' c.t c.p

/-- The value SETO writes (R149). -/
def setoValue (c : TCtx) : Nat :=
  if bitAt c.w 11 then c.param (fld c.w 12 4) * 2 ^ fld c.w 16 4 else fld c.w 20 40

/-- The trip count of LOOP (R145). -/
def loopTrips (c : TCtx) : Nat := if bitAt c.w 20 then c.param (fld c.w 21 4) else fld c.w 25 20 + 1

/-- The target of WAIT (R147). -/
def waitTarget (c : TCtx) : Int := sfld c.w 14 17 + c.soff (fld c.w 31 3)

/-- None of LOOP's faults (R146) applies. -/
abbrev LoopAllowed (c : TCtx) : Prop :=
  fld c.w 8 12 ≠ 0 ∧ 1 ≤ loopTrips c ∧ loopTrips c ≤ 2 ^ 20 ∧
  (∀ f, c.E.loops.head? = some f → c.E.pc.toNat + fld c.w 8 12 ≤ f.last) ∧
  c.E.pc.toNat + fld c.w 8 12 ≤ 4095 ∧ c.E.loops.length < 4

end Sys2Proof.Claims

open Sys2Proof Sys2Proof.Machine Sys2Proof.Claims

/-- R144: NOP and END. -/
def Obligations.NopWaitsAndEndDiscardsLoops : Prop :=
  (∀ (s : State) (t : TileId) (e : EngineId) (cyc p : Nat) (c : TCtx), Issues s t e cyc p 0x00 c →
    ∃ s', exec (.tileNop t e cyc) s = .next s' ∧ RetiredQuietly c s' (fld c.w 8 16 + 1) (fld c.w 8 16 + 1) ∧
      EngineKept c s') ∧
  (∀ (s : State) (t : TileId) (e : EngineId) (cyc p : Nat) (c : TCtx), Issues s t e cyc p 0x01 c →
    ∃ s', exec (.tileEnd t e cyc) s = .next s' ∧
      s'.engine t e = { c.E with ending := true, loops := [], nextIssue := cyc, busyFrom := cyc } ∧
      WithinTile c.s s' t p ∧ TileDataKept c.s s' t ∧ SiblingsKept c.s s' t e)

/-- R149: SETO and ADDO. -/
def Obligations.OffsetRegisterWrites : Prop :=
  (∀ (s : State) (t : TileId) (e : EngineId) (cyc p : Nat) (c : TCtx), Issues s t e cyc p 0x05 c →
    fld c.w 8 3 ≠ 0 → setoValue c < 2 ^ 40 →
    ∃ s', exec (.tileSeto t e cyc) s = .next s' ∧ RetiredQuietly c s' 1 1 ∧
      Tab.get 0 (s'.engine t e).offs (fld c.w 8 3) = BitVec.ofNat 40 (setoValue c) ∧
      (∀ r, r ≠ fld c.w 8 3 → Tab.get 0 (s'.engine t e).offs r = Tab.get 0 c.E.offs r) ∧
      EngineKept { c with E := { c.E with offs := (s'.engine t e).offs } } s') ∧
  (∀ (s : State) (t : TileId) (e : EngineId) (cyc p : Nat) (c : TCtx), Issues s t e cyc p 0x06 c → fld c.w 8 3 ≠ 0 →
    ∃ s', exec (.tileAddo t e cyc) s = .next s' ∧ RetiredQuietly c s' 1 1 ∧
      Tab.get 0 (s'.engine t e).offs (fld c.w 8 3) =
        addoValue (Tab.get 0 c.E.offs (fld c.w 8 3)) (BitVec.ofNat 40 (fld c.w 11 40)) (BitVec.ofNat 40 (fld c.w 51 40)) ∧
      (∀ r, r ≠ fld c.w 8 3 → Tab.get 0 (s'.engine t e).offs r = Tab.get 0 c.E.offs r) ∧
      EngineKept { c with E := { c.E with offs := (s'.engine t e).offs } } s') ∧
  (∀ (s : State) (t : TileId) (e : EngineId) (cyc p : Nat) (c : TCtx), Issues s t e cyc p 0x05 c →
    fld c.w 8 3 = 0 ∨ 2 ^ 40 ≤ setoValue c →
    ∃ s', exec (.tileSeto t e cyc) s = .next s' ∧ FaultedBy c s' .illegalField) ∧
  (∀ (s : State) (t : TileId) (e : EngineId) (cyc p : Nat) (c : TCtx), Issues s t e cyc p 0x06 c → fld c.w 8 3 = 0 →
    ∃ s', exec (.tileAddo t e cyc) s = .next s' ∧ FaultedBy c s' .illegalField)

/-- R112, R114, R118, R145 to R148, R152. -/
def Obligations.LoopWaitAndPostComplete : Prop :=
  (∀ (s : State) (t : TileId) (e : EngineId) (cyc p : Nat) (c : TCtx), Issues s t e cyc p 0x02 c → LoopAllowed c →
    ∃ s', exec (.tileLoop t e cyc) s = .next s' ∧ WithinTile c.s s' t p ∧ TileDataKept c.s s' t ∧ SiblingsKept c.s s' t e ∧
      (s'.engine t e).loops =
        { first := c.E.pc.toNat + 1, last := c.E.pc.toNat + fld c.w 8 12, trips := loopTrips c, done := 0 } :: c.E.loops ∧
      (s'.engine t e).retired = c.E.retired + 1 ∧ (s'.engine t e).nextIssue = cyc + 1 ∧
      (s'.engine t e).pc = BitVec.ofNat 12 (c.E.pc.toNat + 1) ∧ EngineKept c s') ∧
  (∀ (s : State) (t : TileId) (e : EngineId) (cyc p : Nat) (c : TCtx), Issues s t e cyc p 0x03 c → waitTarget c ≤ 65535 →
    ∃ s', exec (.tileWait t e cyc) s = .next s' ∧ WithinTile c.s s' t p ∧ TileDataKept c.s s' t ∧ SiblingsKept c.s s' t e ∧
      (if waitTarget c ≤ (cairnAt c.T (fld c.w 8 6) cyc : Int) then RetiredOne c s' 1 0 ∧ EngineKept c s'
      else
        s'.engine t e = { c.E with
          mode := .waitCairn
          waitCairn := BitVec.ofNat 6 (fld c.w 8 6)
          waitTarget := (waitTarget c).toNat
          waitSince := cyc })) ∧
  (∀ (s : State) (t : TileId) (e : EngineId) (cyc p : Nat) (c : TCtx), Issues s t e cyc p 0x11 c →
    1 ≤ fld c.w 10 5 → fld c.w 10 5 ≤ 16 →
    ∃ s', exec (.tileWaitq t e cyc) s = .next s' ∧ WithinTile c.s s' t p ∧ TileDataKept c.s s' t ∧ SiblingsKept c.s s' t e ∧
      (if fld c.w 10 5 ≤ queueFree (c.s.copyChan t e (fld c.w 8 2)) cyc then RetiredOne c s' 1 0 ∧ EngineKept c s'
      else
        s'.engine t e = { c.E with
          mode := .waitQueue
          waitChannel := BitVec.ofNat 2 (fld c.w 8 2)
          waitTarget := fld c.w 10 5
          waitSince := cyc })) ∧
  (∀ (s : State) (t : TileId) (e : EngineId) (cyc p g : Nat) (c : TCtx), Issues s t e cyc p 0x04 c → c.E.retireAt < cyc →
    (postField c.w 8).en = true → (postField c.w 8).inc ≠ 0 →
    (if (postField c.w 8).self then some t.val else c.s.globalTile p (postField c.w 8).tile) = some g →
    ∃ s', exec (.tilePost t e cyc) s = .next s' ∧ RetiredOne c s' 1 0 ∧ EngineKept c s' ∧ TileDataKept c.s s' t ∧
      s'.posts = s.posts ++ [⟨t, e, ⟨g, (postField c.w 8).cairn, (postField c.w 8).inc⟩⟩] ∧
      s'.stack = s.stack ∧ s'.channels = s.channels ∧ OthersKept c.s s' t p)

namespace Sys2Proof.Claims

open Sys2Proof Sys2Proof.Machine

/-- The post field of the instruction is one that R139 and R113 accept, and stands for `post`. -/
abbrev PostStands (c : TCtx) (lo : Nat) (post : Option Post) : Prop :=
  c.resolvePost (postField c.w lo) = .ok post ∧ TCtx.postIllegal (postField c.w lo) = false

/-- A far run that the parcel's network reaches (R169, R176, R366). -/
def runReaches (c : TCtx) (d : BitVec 512) (i : Nat) : Bool :=
  let a := Desc.addrs d (copyBases c d).1 (copyBases c d).2 i
  match farPlace c.s c.p (Desc.kind d) a.2 with
  | .outside => false
  | .stack ch o => !c.s.rangeRetired ch o (Desc.run d)
  | .tile t o => !TCtx.scratchOver t o (Desc.run d)
  | .unit _ _ => true

/-- None of the faults of R151 and R175 to R179 applies to the COPY's descriptor `d`, and its queue has room (R118). -/
abbrev CopyAllowed (c : TCtx) (d : BitVec 512) : Prop :=
  fld c.w 10 12 + 3 ≤ 4095 ∧ TCtx.slotsBad c.T (fld c.w 10 12) 4 = false ∧
  Desc.kind d ≠ 3 ∧ (Desc.kind d = 0 ∨ (isVectorTile c.t = true ∧ c.e = 3)) ∧
  (Desc.kind d = 0 → Desc.targets d = 1) ∧ sideAligned d (copyBases c d).1 16 true = true ∧
  (if c.e ≠ 0 ∧ Desc.kind d = 0 then sideAligned d (copyBases c d).2 64 false = true ∧ Desc.run d % 64 = 0
    else sideAligned d (copyBases c d).2 16 false = true) ∧
  destOk d (c.e = 0) = true ∧
  (∀ i, i < Desc.runs d →
    runCrosses (Desc.kind d) (Desc.run d) (Desc.addrs d (copyBases c d).1 (copyBases c d).2 i).2 = false ∧
    runReaches c d i = true ∧ 0 ≤ (Desc.addrs d (copyBases c d).1 (copyBases c d).2 i).1 ∧
    TCtx.scratchOver c.t (Desc.addrs d (copyBases c d).1 (copyBases c d).2 i).1.toNat (Desc.run d) = false) ∧
  queueFree (c.s.copyChan c.t c.e (fld c.w 8 2)) c.cyc ≠ 0

/-- None of WLOAD's faults (R79, R156) applies, for a plane of format `f`. -/
abbrev WloadAllowed (c : TCtx) (f : Fmt) : Prop :=
  let n := fld c.w 76 9 + 1
  let j := wloadReads f n
  let src := c.ea 13 20 1 33
  let scl := c.ea 49 17 8 66
  Fmt.ofCode (fld c.w 9 4) = some f ∧ f.weightOk = true ∧ (f = .tern2 → bitAt c.w 48 = true) ∧
  (f.is16f = true → bitAt c.w 48 = false) ∧ n ≤ outputColumns f ∧ (1 < j → 8 ≤ fld c.w 36 12) ∧ src % 16 = 0 ∧
  TCtx.scratchOver c.t src ((j - 1) * (fld c.w 36 12) * 16 + 128) = false ∧
  (bitAt c.w 48 = true → scl % 8 = 0 ∧ TCtx.scratchOver c.t scl (4 * n) = false) ∧
  (plane c.T (fld c.w 8 1)).freeAt ≤ c.cyc

/-- The WLOAD that the instruction starts (Table 6.9). -/
def wloadOp (c : TCtx) (f : Fmt) : WloadOp :=
  { pc := c.E.pc, index := c.E.retired, plane := fld c.w 8 1, fmt := fld c.w 9 4, src := c.ea 13 20 1 33
    stride := fld c.w 36 12 * 16, reads := wloadReads f (fld c.w 76 9 + 1), kUsed := fld c.w 69 7 + 1
    nUsed := fld c.w 76 9 + 1, scl := if bitAt c.w 48 then some (c.ea 49 17 8 66) else none }

/-- Every byte that the WLOAD reads is good. -/
abbrev WloadGood (T : Tile) (x : WloadOp) : Prop :=
  (∀ j, j < x.reads → TCtx.scratchBad T (x.src + j * x.stride) 128 = false) ∧
  ∀ q, x.scl = some q → TCtx.scratchBad T q (4 * x.nUsed) = false

/-- The weight code of lane `k` of output column `n` in the scratchpad (R154). -/
def weightCode (m : Mem) (f : Fmt) (x : WloadOp) (n k : Nat) : Nat :=
  let w := weightsPerCell f
  if f.is16f then elemCode m f (x.src + (2 * n + k / 64) * x.stride) (k % 64)
  else elemCode m f (x.src + n / w * x.stride + n % w * (128 / w)) k

/-- None of STREAM's faults at issue (R79, R83, R159) applies, for activations of format `af` on a plane of format `wf`. -/
abbrev StreamAllowed (c : TCtx) (af wf : Fmt) : Prop :=
  let P := plane c.T (fld c.w 8 1)
  let n := fld c.w 48 12 + 1
  let src := c.ea 13 20 1 33
  let base := c.ea 60 16 1 76
  let pitch := fld c.w 79 10
  let ascl := c.ea 93 17 8 110
  Fmt.ofCode (fld c.w 9 4) = some af ∧ Fmt.ofCode P.fmt = some wf ∧ P.mode ≠ .empty ∧ P.readyAt ≤ c.cyc ∧
  af.activationOk = true ∧ pairsOk wf af = true ∧ (bitAt c.w 92 = true → af.is16f = false) ∧ fld c.w 90 2 ≠ 3 ∧
  (integerPath wf af P.scaled (bitAt c.w 92) = false → fld c.w 90 2 = 0) ∧ src % 16 = 0 ∧
  TCtx.scratchOver c.t src ((n - 1) * fld c.w 36 12 * 16 + streamRowBytes af P.kUsed) = false ∧
  (bitAt c.w 92 = true → ascl % 8 = 0 ∧ TCtx.scratchOver c.t ascl (4 * n) = false) ∧
  base + (n - 1) * pitch + P.nUsed ≤ accEntries ∧ P.nUsed ≤ pitch

/-- The STREAM that the instruction starts (Table 6.13). -/
def streamOp (c : TCtx) : StreamOp :=
  { pc := c.E.pc, index := c.E.retired, template := c.s.templateNow (some c.p), plane := fld c.w 8 1, fmt := fld c.w 9 4
    src := c.ea 13 20 1 33, stride := fld c.w 36 12 * 16, rows := fld c.w 48 12 + 1
    scl := if bitAt c.w 92 then some (c.ea 93 17 8 110) else none, base := c.ea 60 16 1 76, pitch := fld c.w 79 10
    set := bitAt c.w 89, shift := 8 * fld c.w 90 2, start := c.cyc }

/-- None of DRAIN's faults at issue (R134, R162) applies: its rows land in tile `g` in format `f` with rounding `r`. -/
abbrev DrainAllowed (c : TCtx) (f : Fmt) (r : Rnd) (g : Nat) : Prop :=
  let rows := fld c.w 37 9 + 1
  let cols := fld c.w 46 9 + 1
  let base := c.ea 8 16 1 24
  let dst := c.ea 68 17 8 85
  let scl := c.ea 108 17 8 125
  let len := (rows - 1) * fld c.w 88 10 * 16 + f.rowBytes cols
  Fmt.ofCode (fld c.w 56 4) = some f ∧ Rnd.ofField (fld c.w 60 2) = some r ∧ f ≠ .e8m0 ∧
  (f = .tern2 → bitAt c.w 107 = true) ∧ (bitAt c.w 107 = true → f.scalable = true ∧ scl % 8 = 0 ∧
    TCtx.scratchOver g scl (16 * (rows - 1) + (cols + 31) / 32) = false) ∧
  (bitAt c.w 55 = true → fld c.w 63 5 = 0) ∧ cols ≤ fld c.w 27 10 ∧ f.rowBytes cols ≤ fld c.w 88 10 * 16 ∧ dst % 8 = 0 ∧
  c.s.globalTile c.p (fld c.w 98 9) = some g ∧
  (g = c.t ∨ (isVectorTile g = true ∧ tileSector g = tileSector c.t)) ∧ TCtx.scratchOver g dst len = false ∧
  base + (rows - 1) * fld c.w 27 10 + cols ≤ accEntries

/-- Cycles per row of a DRAIN (R160: p). -/
def drainRowCycles (c : TCtx) (f : Fmt) (g : Nat) : Nat :=
  max ((fld c.w 46 9 + 1 + 63) / 64)
    (if g = c.t then (f.rowBytes (fld c.w 46 9 + 1) + 255) / 256 else (f.rowBytes (fld c.w 46 9 + 1) + 127) / 128)

/-- The DRAIN that the instruction starts (Table 6.15). -/
def drainOp (c : TCtx) (f : Fmt) (g : Nat) : DrainOp :=
  { pc := c.E.pc, index := c.E.retired, base := c.ea 8 16 1 24, pitch := fld c.w 27 10, cols := fld c.w 46 9 + 1
    fp := bitAt c.w 55, fmt := fld c.w 56 4, rnd := fld c.w 60 2, sat := bitAt c.w 62, shift := fld c.w 63 5, tile := g
    dst := c.ea 68 17 8 85, stride := fld c.w 88 10 * 16, scl := if bitAt c.w 107 then some (c.ea 108 17 8 125) else none
    perRow := drainRowCycles c f g, start := c.cyc }

/-- The pieces of work are in flight, in the order in which they happen, beside those that were. -/
abbrev NowFlying (s s' : State) (p : Nat) (work : List Flight) : Prop :=
  (s'.parcel p).flight = work.foldl (fun l f => placeFlight f l) (s.parcel p).flight

/-- Piece `f` is the next of parcel `p`'s work in flight, and alone in its cycle; `rest` follows. -/
abbrev NextWork (s : State) (p : Nat) (f : Flight) (rest : List Flight) : Prop :=
  (s.parcel p).flight = f :: rest ∧ ∀ g ∈ rest, f.cyc < g.cyc

/-- The flights that reading row `m` of a DRAIN of tile `t` leaves: the row, and its generated scales (R160, R161). -/
def drainLandings (s : State) (p t : Nat) (x : DrainOp) (f : Fmt) (r : Rnd) (m : Nat) : List Flight :=
  let row := drainRow f r x.sat x.scl.isSome x.fp x.shift
    ((List.range x.cols).map fun j => Tab.get 0 (s.tile t).acc (x.base + m * x.pitch + j))
  let bytes := f.packRow row.1 (Config.padBits s.fresh m)
  let cyc := x.start + x.perRow * (m + 1) + (if x.tile = t then 20 else 32)
  let rank := if x.tile = t then rankLocal 3 0 else rankRemote (s.logicalTile p t)
  (if x.tile = t then [⟨cyc, rank, .scratch t (x.dst + m * x.stride) bytes⟩]
    else rowPieces 128 cyc rank x.tile (x.dst + m * x.stride) bytes) ++
  (match x.scl with | some q => [⟨cyc, rank, .scratch x.tile (q + 16 * m) (row.2.1.map (BitVec.ofNat 8))⟩] | none => [])

end Sys2Proof.Claims

/-- R150, R151, R153, R175 to R179. -/
def Obligations.CopyAndClaunchEnqueue : Prop :=
  (∀ (s : State) (t : TileId) (e : EngineId) (cyc p : Nat) (c : TCtx) (post : Option Post), Issues s t e cyc p 0x10 c →
    PostStands c 28 post → CopyAllowed c (copyDescriptor c) →
    ∃ s', exec (.tileCopy t e cyc) s = .next s' ∧ RetiredQuietly c s' 4 4 ∧
      EngineKept { c with E := { c.E with chans := (s'.engine t e).chans } } s' ∧
      (∀ ch, ch ≠ fld c.w 8 2 → s'.copyChan t e ch = c.s.copyChan t e ch) ∧
      (s'.copyChan t e (fld c.w 8 2)).queue = (c.s.copyChan t e (fld c.w 8 2)).queue ++
        [⟨copyDescriptor c, (copyBases c (copyDescriptor c)).1, (copyBases c (copyDescriptor c)).2, post, 0, 0, cyc⟩]) ∧
  (∀ (s : State) (t : TileId) (e : EngineId) (cyc p : Nat) (c : TCtx) (post : Option Post) (us : List Nat),
    Issues s t e cyc p 0x50 c → PostStands c 86 post → fld c.w 26 6 + fld c.w 32 6 ≤ 63 → claunchUnits c = some us →
    c.E.launches.length < 8 →
    ∃ s', exec (.tileClaunch t e cyc) s = .next s' ∧ TileDataKept c.s s' t ∧
      RetiredOne c s' (4 + (fld c.w 17 9 + 8) / 8) (4 + (fld c.w 17 9 + 8) / 8) ∧
      (s'.engine t e).launches = c.E.launches ++ [⟨c.E.retired, us, post⟩] ∧
      EngineKept { c with E := { c.E with launches := (s'.engine t e).launches } } s' ∧
      s'.launches = s.launches ++ us.map (fun u =>
        ⟨u, BitVec.ofNat 11 (fld c.w 38 11),
          BitVec.ofNat 32 (if bitAt c.w 49 then c.param (fld c.w 50 4) else fld c.w 54 32), t, c.E.retired⟩) ∧
      s'.units = c.s.units ∧ s'.stack = s.stack)

/-- R77, R78, R154, R155. -/
def Obligations.WloadFillsPlane : Prop :=
  ∀ (s : State) (t : TileId) (e : EngineId) (cyc p : Nat) (c : TCtx) (f : Fmt), Issues s t e cyc p 0x20 c →
    WloadAllowed c f →
    ∃ s', exec (.tileWload t e cyc) s = .next s' ∧ RetiredOne c s' 128 132 ∧ EngineKept c s' ∧ WithinTile c.s s' t p ∧
      s'.tile t = { setPlane c.T (fld c.w 8 1)
          { Plane.empty with
              mode := .loading, readyAt := cyc + 132, freeAt := (plane c.T (fld c.w 8 1)).freeAt, fmt := fld c.w 9 4
              kUsed := fld c.w 69 7 + 1, nUsed := fld c.w 76 9 + 1, scaled := bitAt c.w 48 } with
        engines := (s'.tile t).engines } ∧
      NowFlying c.s s' p (weightReads t cyc (wloadOp c f)) ∧
      ((c.s.parcel p).flight = [] → WloadGood c.T (wloadOp c f) →
        ∀ n, n < fld c.w 76 9 + 1 →
          (plane ((s'.settle p (cyc + 128)).tile t) (fld c.w 8 1)).weights.getD n [] =
            (List.range (fld c.w 69 7 + 1)).map (weightCode c.T.scratch f (wloadOp c f) n))

/-- R76, R79, R83, R84, R157 to R159. -/
def Obligations.StreamPutsItsSlotsInFlight : Prop :=
  ∀ (s : State) (t : TileId) (e : EngineId) (cyc p : Nat) (c : TCtx) (af wf : Fmt), Issues s t e cyc p 0x30 c →
    StreamAllowed c af wf →
    ∃ s', exec (.tileStream t e cyc) s = .next s' ∧
      (let P := plane c.T (fld c.w 8 1)
       let int := integerPath wf af P.scaled (bitAt c.w 92)
       let last := (streamSlots int (fld c.w 48 12 + 1) - 1) * slotCycles wf
       RetiredOne c s' (streamSlots int (fld c.w 48 12 + 1) * slotCycles wf) (last + 262 + slotExtra wf) ∧
       EngineKept c s' ∧ WithinTile c.s s' t p ∧
       s'.tile t = { setPlane c.T (fld c.w 8 1)
           { P with mode := .ready, freeAt := max P.freeAt (cyc + last + 256 + slotExtra wf) } with
         engines := (s'.tile t).engines } ∧
       NowFlying c.s s' p (streamWork t (streamOp c) int (slotCycles wf)))

/-- R160 to R162. -/
def Obligations.DrainPutsItsRowsInFlight : Prop :=
  ∀ (s : State) (t : TileId) (e : EngineId) (cyc p : Nat) (c : TCtx) (f : Fmt) (r : Rnd) (g : Nat),
    Issues s t e cyc p 0x40 c → DrainAllowed c f r g →
    ∃ s', exec (.tileDrain t e cyc) s = .next s' ∧
      RetiredQuietly c s' ((fld c.w 37 9 + 1) * drainRowCycles c f g)
        ((fld c.w 37 9 + 1) * drainRowCycles c f g + 20 + (if g = t.val then 0 else 12)) ∧
      EngineKept c s' ∧ NowFlying c.s s' p (drainWork t (fld c.w 37 9 + 1) (drainOp c f g))

/-- R74, R76, R82, R85, R142, R160, R161, R180, R237, R250. -/
def Obligations.WorkInFlightLandsInItsCycle : Prop :=
  (∀ (s : State) (p upto : Nat), s.settle p upto =
    { s with
        tiles := (s.settle p upto).tiles, units := (s.settle p upto).units, log := (s.settle p upto).log
        irq := (s.settle p upto).irq, parcels := (s.settle p upto).parcels, fresh := (s.settle p upto).fresh }) ∧
  (∀ (s : State) (p upto : Nat), (s.parcel p).flight = [] →
    s.settle p upto = s.modParcel p fun P => { P with clock := max P.clock upto }) ∧
  (∀ (s : State) (p cyc rank t a : Nat) (bytes : List Byte) (rest : List Flight),
    NextWork s p ⟨cyc, rank, .scratch t a bytes⟩ rest →
    ((s.settle p (cyc + 1)).parcel p).flight = rest ∧
    ((s.settle p (cyc + 1)).tile t).scratch = Mem.writeBytes (s.tile t).scratch a bytes ∧
    ∀ i, i ≠ t → (s.settle p (cyc + 1)).tile i = s.tile i) ∧
  (∀ (s : State) (p cyc rank u o : Nat) (bytes : List Byte) (rest : List Flight),
    NextWork s p ⟨cyc, rank, .sram u o bytes⟩ rest →
    ((s.settle p (cyc + 1)).parcel p).flight = rest ∧ (s.settle p (cyc + 1)).tiles = s.tiles ∧
    ((s.settle p (cyc + 1)).cunit u).data =
      (if (s.cunit u).halt = .lock then (s.cunit u).data else Mem.writeBytes (s.cunit u).data o bytes) ∧
    ∀ i, i ≠ u → (s.settle p (cyc + 1)).cunit i = s.cunit i) ∧
  (∀ (s : State) (p cyc rank t m : Nat) (x : StreamOp) (af wf : Fmt) (rest : List Flight),
    NextWork s p ⟨cyc, rank, .streamRow t x m⟩ rest →
    Fmt.ofCode x.fmt = some af → Fmt.ofCode (plane (s.tile t) x.plane).fmt = some wf →
    TCtx.scratchBad (s.tile t) (x.src + m * x.stride) (streamRowBytes af (plane (s.tile t) x.plane).kUsed) = false →
    (∀ q, x.scl = some q → TCtx.scratchBad (s.tile t) (q + 4 * m) 4 = false) →
    (let P := plane (s.tile t) x.plane
     let int := integerPath wf af P.scaled x.scl.isSome
     let codes := rowCodes (s.tile t) af (x.src + m * x.stride) P.kUsed
     let scales := x.scl.map fun q => (List.range 4).map fun b => (Mem.read (s.tile t).scratch (q + 4 * m + b)).toNat
     let sums : List Word := (List.range P.nUsed).map fun n =>
       if int then intDot (columnInts P wf n) (rowInts af codes)
       else (floatDot (columnVals P wf n) (rowVals af codes scales)).1
     ((s.settle p (cyc + 1)).parcel p).flight =
       placeFlight ⟨cyc + 259 + slotExtra wf, 1, .accRow t x m int sums⟩ rest) ∧
    ((s.settle p (cyc + 1)).tile t).acc = (s.tile t).acc ∧
    ((s.settle p (cyc + 1)).tile t).scratch = (s.tile t).scratch ∧
    ∀ i, i ≠ t → (s.settle p (cyc + 1)).tile i = s.tile i) ∧
  (∀ (s : State) (p cyc rank t m : Nat) (x : StreamOp) (int : Bool) (vals : List Word) (rest : List Flight),
    NextWork s p ⟨cyc, rank, .accRow t x m int vals⟩ rest →
    (x.set = false → TCtx.accBad (s.tile t) (x.base + m * x.pitch) vals.length = false) →
    ((s.settle p (cyc + 1)).parcel p).flight = rest ∧
    ((s.settle p (cyc + 1)).tile t).acc =
      (writeRow (s.tile t).acc (x.base + m * x.pitch) int x.set x.shift vals).1 ∧
    ((s.settle p (cyc + 1)).tile t).scratch = (s.tile t).scratch ∧
    ∀ i, i ≠ t → (s.settle p (cyc + 1)).tile i = s.tile i) ∧
  (∀ (s : State) (p cyc rank t m : Nat) (x : DrainOp) (f : Fmt) (r : Rnd) (rest : List Flight),
    NextWork s p ⟨cyc, rank, .drainRow t x m⟩ rest → cyc ≤ x.start + x.perRow * (m + 1) →
    Fmt.ofCode x.fmt = some f → Rnd.ofField x.rnd = some r →
    TCtx.accBad (s.tile t) (x.base + m * x.pitch) x.cols = false → f.rowBytes x.cols ≤ 2048 →
    ((s.settle p (cyc + 1)).parcel p).flight =
      (drainLandings s p t x f r m).foldl (fun l g => placeFlight g l) rest ∧
    ((s.settle p (cyc + 1)).tile t).acc = (s.tile t).acc ∧
    ∀ i, (((s.settle p (cyc + 1)).tile i).scratch = (s.tile i).scratch))

namespace Sys2Proof.Claims

open Sys2Proof Sys2Proof.Machine

/-- The rows of Table 6.12 by opcode. -/
def vectorRow (op : Nat) (t : TileId) (e : EngineId) (cyc : Nat) : Option Instr :=
  match op with
  | 0x60 => some (.tileVadd t e cyc) | 0x61 => some (.tileVsub t e cyc) | 0x62 => some (.tileVmul t e cyc)
  | 0x63 => some (.tileVfma t e cyc) | 0x64 => some (.tileVmax t e cyc) | 0x65 => some (.tileVmin t e cyc)
  | 0x66 => some (.tileVabs t e cyc) | 0x67 => some (.tileVneg t e cyc) | 0x68 => some (.tileVcvt t e cyc)
  | 0x69 => some (.tileVexp2 t e cyc) | 0x6A => some (.tileVlog2 t e cyc) | 0x6B => some (.tileVrcp t e cyc)
  | 0x6C => some (.tileVrsqrt t e cyc) | 0x6D => some (.tileVsig t e cyc)
  | 0x70 => some (.tileVrsum t e cyc) | 0x71 => some (.tileVrmax t e cyc) | 0x72 => some (.tileVrssq t e cyc)
  | 0x78 => some (.tileVrot t e cyc)
  | 0x7C => some (.tileVsplit32 t e cyc) | 0x7D => some (.tileVsplit16 t e cyc)
  | _ => none

/-- Does the operation read its B operand, or (a split) write it? -/
def usesB (op : Nat) : Bool := vecTwo op || vecSplit op

/-- Elements of B: 1 (2 for VROT) where it is broadcast. -/
def vecNB (c : TCtx) (op : Nat) : Nat :=
  if bitAt c.w 104 && !vecSplit op then (if op = 0x78 then 2 else 1) else fld c.w 77 12 + 1

/-- Elements of the destination. -/
def vecND (c : TCtx) (op : Nat) : Nat := if vecReduce op then 1 else fld c.w 77 12 + 1

/-- The effective addresses of A, B, D and the scales. -/
def vecA (c : TCtx) : Nat := c.ea 8 20 1 28
def vecB (c : TCtx) : Nat := c.ea 31 20 1 51
def vecD (c : TCtx) : Nat := c.ea 54 20 1 74
def vecS (c : TCtx) : Nat := c.ea 107 17 8 124

/-- Does the operation use block scales, and how many? -/
def vecScaled (c : TCtx) (op : Nat) : Bool := fld c.w 105 2 = 1 || fld c.w 105 2 = 3 || (fld c.w 105 2 = 2 && vecTwo op)
def vecNS (c : TCtx) (op : Nat) : Nat := (if fld c.w 105 2 = 2 then vecNB c op + 31 else fld c.w 77 12 + 1 + 31) / 32

/-- The source ranges, the ranges read, and the destination ranges of the operation. -/
def vecSources (c : TCtx) (op : Nat) (fa fb : Fmt) : List VRange :=
  [⟨vecA c, vecBytes fa (fld c.w 77 12 + 1), fa.bits⟩] ++ (if vecTwo op then [⟨vecB c, vecBytes fb (vecNB c op), fb.bits⟩] else []) ++
  (if vecScaled c op && fld c.w 105 2 ≠ 3 then [⟨vecS c, vecNS c op, 8⟩] else [])
def vecReads (c : TCtx) (op : Nat) (fa fb fd : Fmt) : List VRange :=
  vecSources c op fa fb ++ (if op = 0x63 then [⟨vecD c, vecBytes fd (vecND c op), fd.bits⟩] else [])
def vecDests (c : TCtx) (op : Nat) (fb fd : Fmt) : List VRange :=
  [⟨vecD c, vecBytes fd (vecND c op), fd.bits⟩] ++
  (if vecSplit op then [⟨vecB c, vecBytes fb (vecNB c op), fb.bits⟩] else []) ++
  (if fld c.w 105 2 = 3 then [⟨vecS c, vecNS c op, 8⟩] else [])

/-- Nothing holds the operation back (R141), and none of the faults of R163 and R164 applies. -/
abbrev VectorAllowed (c : TCtx) (op : Nat) (fa fb fd : Fmt) (r : Rnd) : Prop :=
  Fmt.ofCode (fld c.w 89 4) = some fa ∧ (if usesB op then Fmt.ofCode (fld c.w 93 4) = some fb else fb = .fp32) ∧
  Fmt.ofCode (fld c.w 97 4) = some fd ∧ Rnd.ofField (fld c.w 101 2) = some r ∧
  hazard c.E c.cyc ((vecReads c op fa fb fd).map fun x => (x.lo, x.n)) = false ∧
  vecFormatBad op fa fb fd (fld c.w 105 2) = false ∧
  vecA c % 4 = 0 ∧ vecD c % 4 = 0 ∧ (usesB op = true → vecB c % 4 = 0) ∧ (vecScaled c op = true → vecS c % 8 = 0) ∧
  lenRagged fa (fld c.w 77 12 + 1) = false ∧
  (vecTwo op = true → bitAt c.w 104 = false → lenRagged fb (fld c.w 77 12 + 1) = false) ∧
  (vecReduce op = false → lenRagged fd (fld c.w 77 12 + 1) = false) ∧ (op = 0x78 → (fld c.w 77 12 + 1) % 2 = 0) ∧
  (∀ d ∈ vecDests c op fb fd, ∀ a ∈ vecSources c op fa fb, overlapBad d a = false) ∧
  (∀ x ∈ vecSources c op fa fb ++ vecDests c op fb fd, TCtx.scratchOver c.t x.lo x.n = false) ∧
  (∀ x ∈ vecReads c op fa fb fd, TCtx.scratchBad c.T x.lo x.n = false)

/-- The FP32 results of an operation that is no split (Table 6.12): each operand widened with its scale, B repeated where it
is broadcast. -/
def vecResults (c : TCtx) (op : Nat) (fa fb fd : Fmt) : List FW :=
  let n := fld c.w 77 12 + 1
  let xa := vecOperand c.T fa (vecA c) n (if fld c.w 105 2 = 1 then some (vecS c) else none)
  let xb0 := if vecTwo op then vecOperand c.T fb (vecB c) (vecNB c op) (if fld c.w 105 2 = 2 then some (vecS c) else none) else []
  let xb := if op = 0x78 then (if bitAt c.w 104 then (List.range n).map fun i => xb0.getD (i % 2) (0, 0) else xb0)
    else if bitAt c.w 104 then (List.range n).map fun _ => xb0.headD (0, 0) else xb0
  let xd := if op = 0x63 then vecOperand c.T fd (vecD c) n none else []
  if vecReduce op then [vecReduction op xa]
  else if op = 0x78 then vecRotate xa xb
  else xa.mapIdx fun i x => vecElem op x (xb.getD i (0, 0)) (xd.getD i (0, 0))

/-- The hi and lo parts of each element of a split (R67, R68). -/
def splitParts (c : TCtx) (op : Nat) (fa : Fmt) : List (Nat × Nat) :=
  (List.range (fld c.w 77 12 + 1)).map fun i =>
    if op = 0x7C then splitFp32 (BitVec.ofNat 32 (elemCode c.T.scratch fa (vecA c) i))
    else splitInt16 (BitVec.ofNat 16 (elemCode c.T.scratch fa (vecA c) i))

/-- What the operation writes, in order: its addresses and bytes. -/
def vecWrites (c : TCtx) (op : Nat) (fa fb fd : Fmt) (r : Rnd) : List (Nat × List Byte) :=
  if vecSplit op then
    [(vecD c, fd.packRow ((splitParts c op fa).map (·.1)) 0), (vecB c, fb.packRow ((splitParts c op fa).map (·.2)) 0)]
  else
    let y := vecConvert fd r (bitAt c.w 103) (fld c.w 105 2 = 3) ((vecResults c op fa fb fd).map (·.1))
    [(vecD c, fd.packRow y.1 0)] ++ (if fld c.w 105 2 = 3 then [(vecS c, y.2.1.map (BitVec.ofNat 8))] else [])

/-- The writes as work in flight: all of them land as the instruction retires, `ret` cycles after its issue (R250). -/
def landings (c : TCtx) (ret : Nat) (ws : List (Nat × List Byte)) : List Flight :=
  ws.map fun w => ⟨c.cyc + ret, rankLocal c.e 0, .scratch c.t w.1 w.2⟩

/-- A scratchpad with each write made in order. -/
def written (m : Mem) (ws : List (Nat × List Byte)) : Mem := ws.foldl (fun m w => Mem.writeBytes m w.1 w.2) m

/-- The instruction retires `ret` cycles after its issue and its writes are in flight for that cycle; nothing of the tile but
its engines and its format flags has changed, and, where nothing else was in flight, once the cycle is over the scratchpad
has the writes. -/
abbrev WritesAtRetirement (c : TCtx) (s' : State) (occ ret : Nat) (ws : List (Nat × List Byte)) : Prop :=
  RetiredOne c s' occ ret ∧ EngineKept c s' ∧ WithinTile c.s s' c.t c.p ∧
  s'.tile c.t = { c.T with engines := (s'.tile c.t).engines, formatStatus := (s'.tile c.t).formatStatus } ∧
  NowFlying c.s s' c.p (landings c ret ws) ∧
  ((c.s.parcel c.p).flight = [] →
    ((s'.settle c.p (c.cyc + ret + 1)).tile c.t).scratch = written c.T.scratch ws)

/-- None of GXPOSE's faults (R167) applies. -/
abbrev GxposeAllowed (c : TCtx) : Prop :=
  let w := elemWidth (fld c.w 94 2)
  let rows := fld c.w 78 8 + 1
  let cols := fld c.w 86 8 + 1
  let src := c.ea 8 20 1 28
  let dst := c.ea 43 20 1 63
  let slen := (rows - 1) * fld c.w 31 12 * 16 + cols * w
  let dlen := (cols - 1) * fld c.w 66 12 * 16 + rows * w
  hazard c.E c.cyc [(src, slen)] = false ∧ fld c.w 94 2 ≠ 3 ∧ rows * cols * w ≤ 65536 ∧ cols * w ≤ fld c.w 31 12 * 16 ∧
  rows * w ≤ fld c.w 66 12 * 16 ∧ src % 16 = 0 ∧ dst % 16 = 0 ∧ rangesMeet src slen dst dlen = false ∧
  TCtx.scratchOver c.t src slen = false ∧ TCtx.scratchOver c.t dst dlen = false ∧
  ∀ i, i < rows → TCtx.scratchBad c.T (src + i * fld c.w 31 12 * 16) (cols * w) = false

/-- None of GPERM's faults (R168, R186) applies. -/
abbrev GpermAllowed (c : TCtx) : Prop :=
  let src := c.ea 8 20 1 28
  let dst := c.ea 31 20 1 51
  let len := 256 * (fld c.w 54 8 + 1)
  fld c.w 62 12 + 15 ≤ 4095 ∧ TCtx.slotsBad c.T (fld c.w 62 12) 16 = false ∧ hazard c.E c.cyc [(src, len)] = false ∧
  fld c.w 74 2 ≠ 3 ∧ src % 16 = 0 ∧ dst % 16 = 0 ∧ rangesMeet src len dst len = false ∧
  programBad ((List.range 16).map fun i => (Tab.get 0 c.T.imem (fld c.w 62 12 + i)).toNat) (fld c.w 74 2) = false ∧
  TCtx.scratchOver c.t src len = false ∧ TCtx.scratchOver c.t dst len = false ∧ TCtx.scratchBad c.T src len = false

end Sys2Proof.Claims

/-- R141, R163 to R166, R250. -/
def Obligations.VectorOperationsWriteResults : Prop :=
  ∀ (s : State) (t : TileId) (e : EngineId) (cyc p op : Nat) (c : TCtx) (row : Instr) (fa fb fd : Fmt) (r : Rnd),
    vectorRow op t e cyc = some row → Issues s t e cyc p op c → VectorAllowed c op fa fb fd r →
    ∃ s', exec row s = .next s' ∧
      WritesAtRetirement c s' ((fld c.w 77 12 + 64) / 64 * vecRate op)
        ((fld c.w 77 12 + 64) / 64 * vecRate op + 10 + (if vecReduce op then 6 else 0)) (vecWrites c op fa fb fd r)

/-- R167, R168, R185, R186, R250. -/
def Obligations.GraticuleTransposesAndPermutes : Prop :=
  (∀ (s : State) (t : TileId) (e : EngineId) (cyc p : Nat) (c : TCtx), Issues s t e cyc p 0xA0 c → GxposeAllowed c →
    ∃ s', exec (.tileGxpose t e cyc) s = .next s' ∧
      (let q := subBlock (fld c.w 94 2)
       let occ := ((fld c.w 78 8 + q.1) / q.1) * ((fld c.w 86 8 + q.2) / q.2) + 8
       WritesAtRetirement c s' occ (occ + 24) ((List.range (fld c.w 86 8 + 1)).map fun k =>
         (c.ea 43 20 1 63 + k * fld c.w 66 12 * 16,
          transposed c.T.scratch (c.ea 8 20 1 28) (fld c.w 31 12) (fld c.w 78 8 + 1) (elemWidth (fld c.w 94 2)) k)))) ∧
  (∀ (s : State) (t : TileId) (e : EngineId) (cyc p : Nat) (c : TCtx), Issues s t e cyc p 0xA1 c → GpermAllowed c →
    ∃ s', exec (.tileGperm t e cyc) s = .next s' ∧
      (let ew := fld c.w 74 2
       let slots := (List.range 16).map fun i => (Tab.get 0 c.T.imem (fld c.w 62 12 + i)).toNat
       WritesAtRetirement c s' (fld c.w 54 8 + 9) (fld c.w 54 8 + 33) ((List.range (fld c.w 54 8 + 1)).map fun k =>
         (c.ea 31 20 1 51 + 256 * k,
          (applyStages (8 - ew) 0 (slots.take (2 * (8 - ew) - 1))
            ((List.range (256 / elemWidth ew)).map fun i =>
              Mem.readBytes c.T.scratch (c.ea 8 20 1 28 + 256 * k + i * elemWidth ew) (elemWidth ew))).flatten))))

namespace Sys2Proof.Claims

open Sys2Proof Sys2Proof.Machine

/-- Where the next run of descriptor `d` lies on its far side. -/
def nextFar (s : State) (p : Nat) (d : CopyDesc) : FarPlace :=
  farPlace s p (Desc.kind d.raw) (Desc.addrs d.raw d.localBase d.farBase d.started).2

/-- Its scratchpad address. -/
def nextLocal (d : CopyDesc) : Nat := (Desc.addrs d.raw d.localBase d.farBase d.started).1.toNat

/-- Its bytes. -/
def nextBytes (s : State) (t : Nat) (d : CopyDesc) : List Byte :=
  Mem.readBytes (s.tile t).scratch (nextLocal d) (Desc.run d.raw)

/-- In state `b`, in which cycle `cyc` begins, the copy channel may start the run of the descriptor `d` at place `i` of its
queue (R472). -/
abbrev MayStart (s b : State) (t : TileId) (e : EngineId) (ch : Fin 4) (cyc p i : Nat) (d : CopyDesc) : Prop :=
  s.tileParcel t = some p ∧ b = begun s p cyc ∧ nextToStart (b.copyChan t e ch).queue 0 = some (i, d) ∧
  (b.copyChan t e ch).halted = false ∧ (b.copyChan t e ch).runs.length < 8 ∧ b.legIssues p cyc = true

/-- Engine `e` of tile `t` has faulted with `cause`, at the instruction it had come to; nothing else of the tile has
changed. -/
abbrev EngineFaulted (b s' : State) (t e p : Nat) (cause : Cause) : Prop :=
  (s'.engine t e).mode = .faulted ∧ fld (s'.engine t e).faultRecord.toNat 0 8 = cause.code ∧
  (s'.engine t e).retired = (b.engine t e).retired ∧ (s'.engine t e).pc = (b.engine t e).pc ∧
  WithinTile b s' t p ∧ TileDataKept b s' t ∧ SiblingsKept b s' t e

end Sys2Proof.Claims

/-- R110, R111, R114, R116, R119, R125, R127. -/
def Obligations.EngineEventsComplete : Prop :=
  (∀ (s b : State) (t : TileId) (e : EngineId) (cyc : Nat), b = s.settleTile t cyc →
    (b.engine t e).mode = .issuing → (b.engine t e).ending = true →
    outstandingDone b t e = true → (b.engine t e).retireAt < cyc → (b.engine t e).nextIssue ≤ cyc →
    ∃ s', exec (.engineEndRetire t e cyc) s = .next s' ∧ WithinTile b s' t 0 ∧ TileDataKept b s' t ∧ SiblingsKept b s' t e ∧
      s'.engine t e = { b.engine t e with
        mode := .ended
        ending := false
        retired := (b.engine t e).retired + 1
        retireLast := BitVec.ofNat 32 ((b.engine t e).retired + 1)
        retireAt := cyc }) ∧
  (∀ (s b : State) (t : TileId) (e : EngineId) (cyc : Nat), b = s.settleTile t cyc →
    (b.engine t e).mode = .issuing → (b.engine t e).ending = false →
    launchHalt (b.tile t).launch e ≠ 0 → (b.engine t e).retired = launchHalt (b.tile t).launch e →
    outstandingDone b t e = true → (b.engine t e).retireAt ≤ cyc →
    ∃ s', exec (.engineHalt t e cyc) s = .next s' ∧ WithinTile b s' t 0 ∧ TileDataKept b s' t ∧ SiblingsKept b s' t e ∧
      s'.engine t e = { b.engine t e with mode := .halted, retireLast := BitVec.ofNat 32 (b.engine t e).retired }) ∧
  (∀ (s b : State) (t : TileId) (cairn : BitVec 6) (cyc : Nat) (q : PostFlight) (rest : List PostFlight),
    b = s.settleTile t cyc →
    takeFirst (fun x : PostFlight => x.dst.tile = t.val && x.dst.cairn = cairn.toNat) s.posts = some (q, rest) →
    Tab.get 0 (b.tile t).cairns cairn.toNat + q.dst.inc ≤ 65535 →
    ∃ s', exec (.postArrival t cairn cyc) s = .next s' ∧ s'.posts = rest ∧ s'.stack = s.stack ∧
      Tab.get 0 (s'.tile t).cairns cairn.toNat = Tab.get 0 (b.tile t).cairns cairn.toNat + q.dst.inc ∧
      (∀ j, j ≠ cairn.toNat → Tab.get 0 (s'.tile t).cairns j = Tab.get 0 (b.tile t).cairns j) ∧
      cairnAt (s'.tile t) cairn.toNat cyc ≤ Tab.get 0 (b.tile t).cairns cairn.toNat ∧
      (s'.tile t).scratch = (b.tile t).scratch ∧ OthersKept b s' t ((s.tileParcel t).getD 0)) ∧
  (∀ (s b : State) (t : TileId) (cairn : BitVec 6) (cyc : Nat) (q : PostFlight) (rest : List PostFlight),
    b = s.settleTile t cyc →
    takeFirst (fun x : PostFlight => x.dst.tile = t.val && x.dst.cairn = cairn.toNat) s.posts = some (q, rest) →
    65535 < Tab.get 0 (b.tile t).cairns cairn.toNat + q.dst.inc →
    ∃ s', exec (.postArrival t cairn cyc) s = .next s' ∧ s'.posts = rest ∧ s'.stack = s.stack ∧
      (s'.tile t).cairns = (b.tile t).cairns ∧ (s'.engine t 0).mode = .faulted ∧
      (if (b.engine t 0).mode = .faulted then s'.engine t 0 = b.engine t 0
      else fld (s'.engine t 0).faultRecord.toNat 0 8 = 6 ∧ fld (s'.engine t 0).faultRecord.toNat 12 6 = cairn.toNat)) ∧
  (∀ (s b : State) (t : TileId) (e : EngineId) (cyc : Nat), b = s.settleTile t cyc →
    (b.engine t e).mode = .waitCairn → (b.engine t e).waitSince + s.legBudget ≤ cyc →
    ∃ s', exec (.waitTimeout t e cyc) s = .next s' ∧ EngineFaulted b s' t e ((s.tileParcel t).getD 0) .waitTimeout ∧
      fld (s'.engine t e).faultRecord.toNat 12 6 = (b.engine t e).waitCairn.toNat) ∧
  (∀ (s b : State) (t : TileId) (e : EngineId) (cyc : Nat), b = s.settleTile t cyc →
    (b.engine t e).mode = .waitQueue → (b.engine t e).waitSince + s.legBudget ≤ cyc →
    ∃ s', exec (.waitqTimeout t e cyc) s = .next s' ∧ EngineFaulted b s' t e ((s.tileParcel t).getD 0) .waitTimeout)

/-- R117, R118, R174, R177, R180, R237, R472. -/
def Obligations.CopyRunsAndCompletion : Prop :=
  (∀ (s b : State) (t : TileId) (e : EngineId) (ch : Fin 4) (cyc p i c o : Nat) (d : CopyDesc),
    MayStart s b t e ch cyc p i d → nextFar b p d = .stack c o →
    ∃ s', exec (.copyRun t e ch cyc) s = .next s' ∧ s'.stack = s.stack ∧ (s'.tile t).scratch = (b.tile t).scratch ∧
      (s'.copyChan t e ch).runs = (b.copyChan t e ch).runs ++
        [⟨(b.copyChan t e ch).runSeq, (b.copyChan t e ch).completed + i, Desc.volatile d.raw && e = 0, nextLocal d, c, o,
          Desc.run d.raw, 0⟩]) ∧
  (∀ (s b : State) (t : TileId) (e : EngineId) (ch : Fin 4) (cyc p i t' o : Nat) (d : CopyDesc),
    MayStart s b t e ch cyc p i d → nextFar b p d = .tile t' o →
    TCtx.scratchBad (b.tile t) (nextLocal d) (Desc.run d.raw) = false →
    ∃ s', exec (.copyRun t e ch cyc) s = .next s' ∧ s'.stack = s.stack ∧
      NowFlying b s' p [⟨cyc, rankRemote (b.logicalTile p t), .scratch t' o (nextBytes b t d)⟩] ∧
      (∀ j, (s'.tile j).scratch = (b.tile j).scratch) ∧
      ((b.parcel p).flight = [] →
        ((s'.settle p (cyc + 1)).tile t').scratch = Mem.writeBytes (b.tile t').scratch o (nextBytes b t d))) ∧
  (∀ (s b : State) (t : TileId) (e : EngineId) (ch : Fin 4) (cyc p i u o : Nat) (d : CopyDesc),
    MayStart s b t e ch cyc p i d → nextFar b p d = .unit u o →
    TCtx.scratchBad (b.tile t) (nextLocal d) (Desc.run d.raw) = false →
    ∃ s', exec (.copyRun t e ch cyc) s = .next s' ∧ s'.stack = s.stack ∧ s'.units = b.units ∧
      NowFlying b s' p [⟨celuloEnd cyc, rankDescriptor, .sram u o (nextBytes b t d)⟩] ∧
      (∀ j, (s'.tile j).scratch = (b.tile j).scratch) ∧
      ((b.parcel p).flight = [] →
        ((s'.settle p (celuloEnd cyc + 1)).cunit u).data =
          (if (b.cunit u).halt = .lock then (b.cunit u).data
          else Mem.writeBytes (b.cunit u).data o (nextBytes b t d)))) ∧
  (∀ (s b : State) (t : TileId) (e : EngineId) (ch : Fin 4) (cyc : Nat) (d : CopyDesc) (ds : List CopyDesc),
    b = s.settleTile t cyc → (b.copyChan t e ch).queue = d :: ds → (b.copyChan t e ch).halted = false →
    Desc.runs d.raw ≤ d.started → d.inFlight = 0 → d.landAt ≤ cyc →
    ∃ s', exec (.descriptorComplete t e ch cyc) s = .next s' ∧ s'.stack = s.stack ∧
      (s'.copyChan t e ch).queue = ds ∧ (s'.copyChan t e ch).completed = (b.copyChan t e ch).completed + 1 ∧
      queueFree (s'.copyChan t e ch) cyc ≤ 16 - (b.copyChan t e ch).queue.length ∧
      s'.posts = s.posts ++ (match d.post with | some x => [⟨t, e, x⟩] | none => []) ∧
      (s'.tile t).scratch = (b.tile t).scratch)

namespace Sys2Proof.Claims

open Sys2Proof Sys2Proof.Machine

/-! ### Channels (chapters 8 and 10) -/

/-- No channel but `c` has changed. -/
abbrev OtherChannelsKept (s s' : State) (c : Nat) : Prop := ∀ i, i ≠ c → s'.channel i = s.channel i

/-- The pages that a clear slot takes from the queue (R206). -/
def slotPages (s : State) (c : Nat) : List Nat := (clearTake s.now 0 [] (s.channel c).clearQueue).1

/-- The key of byte `o` of channel `c`, and whether a key lies in page `g` of the channel. -/
def inPage (c g a : Nat) : Prop := stackKey c (g * 65536) ≤ a ∧ a < stackKey c (g * 65536) + 65536

/-- The rows of the atomic operations with the codes of Table 10.3. -/
def atomicRow (code : Nat) (p : ParcelId) (addr size : Nat) (op cmp : BitVec 64) : Option Instr :=
  match code with
  | 0x0 => some (.atomicAdd p addr size op) | 0x1 => some (.atomicAnd p addr size op)
  | 0x2 => some (.atomicOr p addr size op) | 0x3 => some (.atomicXor p addr size op)
  | 0x4 => some (.atomicMax p addr size op) | 0x5 => some (.atomicMin p addr size op)
  | 0x6 => some (.atomicMaxu p addr size op) | 0x7 => some (.atomicMinu p addr size op)
  | 0x8 => some (.atomicSwap p addr size op) | 0x9 => some (.atomicCas p addr size op cmp)
  | 0xA => some (.atomicFadd32 p addr size op) | 0xB => some (.atomicFadd16b p addr size op)
  | _ => none

/-- An object held at `index` answers `who`: the device takes the request and no crossing before the object is DISCONNECTED
(R321, R329, R405). -/
abbrev Answers (s : State) (who : Principal) (index : Nat) : Prop :=
  accessOpen s who = true ∧ cutDomain s index = none

/-- The state in which the controller of channel `c` serves the steward: the copy channels that the rotation puts before it
have had their turns (R191). -/
def atStewardTurn (s : State) (c : Nat) : State :=
  match s.channelParcel c with
  | some p => stewardTurn s p c true
  | none => s

/-- The traffic generator may start with the fields that a write of `v` gives it (R209, R212, R213). -/
abbrev TgMayStart (s : State) (c : ChannelId) (v : Nat) : Prop :=
  v < 2 ^ 32 ∧ bitAt v 0 = true ∧ tgBusy (s.channel c).tg = false ∧ tgMayRun s c = true ∧
  tgBad (BitVec.ofNat 32 (v % 2 ^ 24 / 4 * 4)) (s.channel c).tg.offset.toNat (s.channel c).tg.length.toNat
    (s.channel c).tg.seed = false

/-- In cycle `cyc` channel `c` of parcel `p`'s leg grants its next turn to run `r` of copy channel `ch` of engine `e` of tile
`t`; `b` is the state in which the cycle begins. -/
abbrev Grants (s b : State) (c : ChannelId) (cyc p key t e ch : Nat) (r : Run) : Prop :=
  (s.channel c).clearing = false ∧ (s.channel c).training = false ∧ tgActive (s.channel c).tg = false ∧
  s.channelParcel c = some p ∧ b = s.settle p cyc ∧
  nextRequester (b.channel c).lastGrant (requesters b c cyc) = some (key, (t, e, ch), r)

/-- The place of the run's turn and its length: to the end of the segment (R190). -/
def turnAt (r : Run) : Nat := r.offset + r.pos
def turnLen (r : Run) : Nat := turnBytes (turnAt r) (r.len - r.pos)

/-- No granule of the turn arrives with two lanes in error (R197). -/
abbrev LanesGood (c : Nat) (errs : List (Nat × Nat)) (r : Run) : Prop :=
  laneBadAt errs ((granulesOf c (turnAt r) (turnLen r)).map (· % 32)) = none

end Sys2Proof.Claims

/-- R193, R203, R205, R206. -/
def Obligations.FixedSlots : Prop :=
  (∀ (s : State) (c : ChannelId), ∃ s', exec (.refreshSlot c) s = .next s' ∧ s'.stack = s.stack ∧
    (s'.channel c).refreshRow = ((s.channel c).refreshRow + refreshCommands s c) % 6144 ∧ OtherChannelsKept s s' c ∧
    ∀ u, u / 64 = c.val → (s'.cunit u).frame = 0) ∧
  (∀ (s : State) (c : ChannelId), ∃ s', exec (.scrubSlot c) s = .next s' ∧ s'.stack = s.stack ∧
    (s'.channel c).scrubRow = ((s.channel c).scrubRow + 1) % 6144 ∧
    (s'.channel c).scrubPasses = (s.channel c).scrubPasses + (if (s.channel c).scrubRow = 6143 then 1 else 0) ∧
    (∀ g, (g, 1) ∈ s.stackErr → stackKey c 0 / 64 ≤ g → g < stackKey c 0 / 64 + channelBytes / 64 →
      rowOf (g * 64 - stackKey c 0) = (s.channel c).scrubRow → Tab.get 0 s'.stackErr g = 0) ∧
    OtherChannelsKept s s' c ∧ ∀ u, u / 64 = c.val → (s'.cunit u).frame = 0) ∧
  (∀ (s : State) (c : ChannelId) (p : Nat), s.channelParcel c = some p → (s.parcel p).ctl.mode = .sealed →
    ∃ s', exec (.clearSlot c) s = .next s' ∧
      (∀ g ∈ slotPages s c, ∀ a, inPage c g a → Mem.read s'.stack a = 0) ∧
      (∀ a, (∀ g ∈ slotPages s c, ¬ inPage c g a) → Mem.read s'.stack a = Mem.read s.stack a) ∧
      (s'.channel c).clearQueue = (clearTake s.now 0 [] (s.channel c).clearQueue).2 ∧
      (s'.channel c).pagesCleared = (s.channel c).pagesCleared + (slotPages s c).length ∧
      OtherChannelsKept s s' c ∧ ∀ u, u / 64 = c.val → (s'.cunit u).frame = 0)

/-- R206, R207, R209, R211. -/
def Obligations.ChannelClearingAndTraining : Prop :=
  (∀ (s : State) (c : ChannelId) (page : Nat), (s.channelParcel c).isSome = true → page < 24576 →
    (s.channel c).clearQueue.length < 256 →
    ∃ s', exec (.clearEnqueue c page) s = .next s' ∧
      s'.channel c = { s.channel c with clearQueue := (s.channel c).clearQueue ++ [(page, s.now)] } ∧
      OtherChannelsKept s s' c ∧ s' = { s with channels := s'.channels }) ∧
  (∀ (s : State) (c : ChannelId), (s.channel c).clearing = true →
    ∃ s', exec (.channelClearDone c) s = .next s' ∧
      (∀ o, o < channelBytes → Mem.read s'.stack (stackKey c o) = 0) ∧
      (∀ a, a < stackKey c 0 ∨ stackKey c channelBytes ≤ a → Mem.read s'.stack a = Mem.read s.stack a) ∧
      (s'.channel c).clearing = false ∧
      (s'.channel c).channelClears = min ((s.channel c).channelClears + 1) 0xFFFFFFFF ∧ OtherChannelsKept s s' c) ∧
  (∀ (s : State) (c : ChannelId), s.channelParcel c = none → (s.channel c).clearing = false →
    tgBusy (s.channel c).tg = false → Answers s .operator (0x4000 + c) →
    ∃ s', exec (.retrain .operator c 1) s = .next s' ∧ s'.channel c = { s.channel c with training := true } ∧
      OtherChannelsKept s s' c ∧ s'.sent = s.sent ++ [.status .operator (0x4000 + c) 0x04 .ok] ∧
      s' = { s with channels := s'.channels, sent := s'.sent }) ∧
  (∀ (s : State) (c : ChannelId) (failing : List Nat) (failed : Bool) (w h x : Nat), (s.channel c).training = true →
    ∃ s', exec (.trainingComplete c failing failed w h x) s = .next s' ∧ (s'.channel c).training = false ∧
      (s'.channel c).trained = ((trainMap failing).2.1 && !failed) ∧ (s'.channel c).laneMap = (trainMap failing).1 ∧
      (s'.channel c).clearing = true ∧
      (sectorOwner s (channelSector c) = none →
        (s'.channel c).clearQueue = [] ∧ OtherChannelsKept s s' c ∧ s'.stack = s.stack))

/-- R191, R255 to R257, Table 10.3. -/
def Obligations.AtomicsReplaceTheirBytes : Prop :=
  (∀ (s b : State) (p : ParcelId) (addr size code c o : Nat) (op cmp : BitVec 64) (row : Instr),
    atomicRow code p addr size op cmp = some row → atomicSizeOk code size = true → o % size = 0 →
    s.stackPlace p addr = some (c, o) → s.rangeRetired c o size = false →
    (domain s (0x20 + channelStack c)).disconnected = false → b = atStewardTurn s c →
    granuleErr b (stackKey c o / 64) ≠ 2 →
    ∃ s', exec row s = .next s' ∧
      (let old := natOfBytes (bankRead b c o size)
       s'.sent = b.sent ++ [.atomicReply p (some old)] ∧
       bankRead s' c o size = bytesOfNat (atomicNew code size old (op.toNat % 2 ^ (8 * size))
         ((if code = 0x9 then cmp.toNat else 0) % 2 ^ (8 * size))) size) ∧
      (∀ a, a < stackKey c o ∨ stackKey c o + size ≤ a → Mem.read s'.stack a = Mem.read b.stack a) ∧
      s'.tiles = b.tiles ∧ s'.units = b.units ∧ OtherChannelsKept b s' c) ∧
  (∀ (s : State) (c p : Nat), s.channelParcel c = some p → requesters s c (s.parcel p).clock = [] →
    atStewardTurn s c = s.modChannel c fun K => { K with lastGrant := stewardKey, lastWrite := true })

/-- R190, R197, R209, R212, R213. -/
def Obligations.TrafficGeneratorRuns : Prop :=
  (∀ (s : State) (c : ChannelId) (v : Nat), TgMayStart s c v → Answers s .operator (0x4000 + c) →
    ∃ s', exec (.tgStart .operator c v) s = .next s' ∧ (s'.channel c).tg.state = .waiting ∧
      (s'.channel c).tg.control = BitVec.ofNat 32 (v % 2 ^ 24 / 4 * 4) ∧ (s'.channel c).tg.startTick = s.now ∧
      s'.sent = s.sent ++ [.status .operator (0x4000 + c) 0x10 .ok] ∧ OtherChannelsKept s s' c ∧ s'.stack = s.stack) ∧
  (∀ (s : State) (c : ChannelId) (v : Nat), v < 2 ^ 32 → bitAt v 0 = false → bitAt v 1 = true →
    tgBusy (s.channel c).tg = true → Answers s .operator (0x4000 + c) →
    ∃ s', exec (.tgStop .operator c v) s = .next s' ∧ (s'.channel c).tg.stopping = true ∧
      (s'.channel c).tg.state = (s.channel c).tg.state ∧ OtherChannelsKept s s' c ∧ s'.stack = s.stack) ∧
  (∀ (s : State) (c : ChannelId), (s.channel c).tg.state = .waiting → (s.channel c).tg.startTick < s.now →
    tgMayRun s c = true →
    tgBad (s.channel c).tg.control (s.channel c).tg.offset.toNat (s.channel c).tg.length.toNat (s.channel c).tg.seed = false →
    ∃ s', exec (.tgRunBegin c) s = .next s' ∧
      (s'.channel c).tg.state = (if tgMode (s.channel c).tg.control ≤ 1 then .writing else .reading) ∧
      (s'.channel c).tg.pos = 0 ∧ (s'.channel c).tg.runControl = (s.channel c).tg.control ∧
      (s'.channel c).tg.runOffset = (s.channel c).tg.offset.toNat ∧
      (s'.channel c).tg.runLength = (s.channel c).tg.length.toNat ∧ OtherChannelsKept s s' c ∧ s'.stack = s.stack) ∧
  (∀ (s : State) (c : ChannelId), (s.channel c).tg.state = .waiting → (s.channel c).tg.startTick < s.now →
    tgMayRun s c = false →
    ∃ s', exec (.tgRunBegin c) s = .next s' ∧
      (s'.channel c).tg = { (s.channel c).tg with state := .refused } ∧ OtherChannelsKept s s' c ∧ s'.stack = s.stack) ∧
  (∀ (s : State) (c : ChannelId), tgBusy (s.channel c).tg = true →
    ((s.channel c).tg.finished = true ∨ (s.channel c).tg.stopping = true) →
    ∃ s', exec (.tgRunEnd c) s = .next s' ∧
      (s'.channel c).tg.state = (if (s.channel c).tg.finished then .done else .stopped) ∧
      (s'.channel c).clearing = ((s.channel c).clearing || (s.channel c).tg.wrote) ∧ OtherChannelsKept s s' c ∧
      s'.stack = s.stack) ∧
  (∀ (s : State) (c : ChannelId) (cyc : Nat) (errs : List (Nat × Nat)), (s.channel c).clearing = false →
    (s.channel c).training = false → (s.channel c).tg.state = .writing → (s.channel c).tg.stopping = false →
    (s.channel c).tg.finished = false → tgMode (s.channel c).tg.runControl ≤ 1 →
    ∃ s', exec (.segmentTurn c cyc errs) s = .next s' ∧
      (let g := (s.channel c).tg
       let o := tgOffsetAt g.runControl g.runOffset g.runLength g.pos
       let n := min (turnBytes o (tgRun g.runControl - g.pos % tgRun g.runControl)) (g.runLength - g.pos)
       (∀ k i, k < n / 64 → i < 64 → Mem.read s'.stack (stackKey c (o + 64 * k) + i) =
         (if 2 ≤ (lanesOf errs ((o + 64 * k) / 64 % 32)).length then Mem.read s.stack (stackKey c (o + 64 * k) + i)
         else tgByte g (o + 64 * k + i))) ∧
       (∀ a, a < stackKey c o ∨ stackKey c o + n ≤ a → Mem.read s'.stack a = Mem.read s.stack a) ∧
       (s'.channel c).tg.wrote = true) ∧ OtherChannelsKept s s' c) ∧
  (∀ (s : State) (c : ChannelId) (cyc : Nat) (errs : List (Nat × Nat)), tgActive (s.channel c).tg = false →
    s.channelParcel c = none → exec (.segmentTurn c cyc errs) s = .next s) ∧
  (∀ (s : State) (c : ChannelId) (cyc p : Nat) (errs : List (Nat × Nat)), (s.channel c).clearing = false →
    (s.channel c).training = false → tgActive (s.channel c).tg = false → s.channelParcel c = some p →
    requesters (s.settle p cyc) c cyc = [] → exec (.segmentTurn c cyc errs) s = .next (s.settle p cyc))

/-- R190, R191, R197, R199, R200: the turn of a copy channel. -/
def Obligations.SegmentTurnMovesBytes : Prop :=
  (∀ (s b : State) (c : ChannelId) (cyc p key t e ch : Nat) (r : Run) (errs : List (Nat × Nat)),
    Grants s b c cyc p key t e ch r → e ≠ 0 →
    TCtx.scratchBad (b.tile t) (r.scratch + r.pos) (turnLen r) = false → LanesGood c errs r →
    ∃ s', exec (.segmentTurn c cyc errs) s = .next s' ∧
      s'.stack = Mem.writeBytes b.stack (stackKey c (turnAt r))
        (Mem.readBytes (b.tile t).scratch (r.scratch + r.pos) (turnLen r)) ∧
      (lineOf s' c (segOf (turnAt r))).isSome = true ∧
      (s'.channel c).lastGrant = key ∧ (s'.channel c).lastWrite = true ∧ OtherChannelsKept b s' c ∧
      ∀ i, (s'.tile i).scratch = (b.tile i).scratch) ∧
  (∀ (s b : State) (c : ChannelId) (cyc p key t ch : Nat) (r : Run) (errs : List (Nat × Nat)),
    Grants s b c cyc p key t 0 ch r → r.volatile = true ∨ lineOf b c (segOf (turnAt r)) = none →
    (∀ g ∈ granulesOf c (turnAt r) (turnLen r), granuleErr b g ≠ 2) → LanesGood c errs r →
    ∃ s', exec (.segmentTurn c cyc errs) s = .next s' ∧ s'.stack = b.stack ∧
      NowFlying b s' p [⟨cyc, rankLocal 0 ch, .scratch t (r.scratch + r.pos) (bankRead b c (turnAt r) (turnLen r))⟩] ∧
      (lineOf s' c (segOf (turnAt r))).isSome = true ∧
      (s'.channel c).lastGrant = key ∧ (s'.channel c).lastWrite = false ∧ OtherChannelsKept b s' c ∧
      ∀ i, (s'.tile i).scratch = (b.tile i).scratch) ∧
  (∀ (s b : State) (c : ChannelId) (cyc p key t ch : Nat) (r : Run) (l : Line) (errs : List (Nat × Nat)),
    Grants s b c cyc p key t 0 ch r → r.volatile = false → lineOf b c (segOf (turnAt r)) = some l →
    (∀ g ∈ granulesOf c (turnAt r) (turnLen r), Tab.get 0 l.errs (g % 32) ≠ 2) → LanesGood c errs r →
    ∃ s', exec (.segmentTurn c cyc errs) s = .next s' ∧ s'.stack = b.stack ∧ s'.lines = b.lines ∧
      NowFlying b s' p [⟨cyc, rankLocal 0 ch, .scratch t (r.scratch + r.pos)
        (Mem.readBytes l.data (turnAt r % 2048) (turnLen r))⟩] ∧
      (s'.channel c).lastGrant = key ∧ (s'.channel c).lastWrite = false ∧ OtherChannelsKept b s' c ∧
      ∀ i, (s'.tile i).scratch = (b.tile i).scratch)

namespace Sys2Proof.Claims

open Sys2Proof Sys2Proof.Machine

/-! ### Celulo units (chapter 9) -/

/-- What an instruction of opcode `op` waits for (R229): the registers and the data SRAM line that it reads, and the
accumulator of a VDOT, which does not wait for another VDOT. -/
def readsOf (op : Nat) (c : CCtx) : List Nat × Option Nat :=
  match op with
  | 0x01 => ([c.a, c.b], none) | 0x02 => ([c.a], none) | 0x03 => ([c.a], none) | 0x04 => ([c.a], none)
  | 0x06 => ([c.a, c.b], none) | 0x07 => ([c.a, c.b, c.d], none) | 0x08 => ([c.a, CCtx.keyM (c.addr 4)], none)
  | 0x09 => ([c.a, c.d], none) | 0x0A => ([c.a, CCtx.keyM (c.addr 16)], none) | 0x0B => ([c.a, CCtx.keyV c.d], none)
  | 0x0D => ([CCtx.keyV c.d], none) | 0x0E => ([c.a, c.b], none) | 0x0F => ([c.a, c.b], none)
  | 0x11 => ([c.a, CCtx.keyM (c.addr 16), CCtx.keyV c.b], if bitAt c.w 28 then none else some c.d)
  | 0x12 => ([c.a, c.b, CCtx.keyM (c.addr 64), CCtx.keyV c.d], none)
  | 0x13 => ([if c.fn = 10 then CCtx.keyS c.a else CCtx.keyV c.a, CCtx.keyV c.b, CCtx.keyV c.d], none)
  | 0x14 => ([CCtx.keyV c.a, CCtx.keyV c.d], none) | 0x15 => ([c.a], none) | 0x16 => ([c.a, c.b], none)
  | 0x18 => ([c.d], none) | 0x1A => ([c.a], none) | 0x1B => ([15, CCtx.keyM (sreg c.U 15).toNat], none)
  | _ => ([], none)

/-- The state as the Celulo cycle that holds tile cycle `cyc` begins (R216): what was in flight for earlier cycles has
landed. -/
abbrev celuloBegun (s : State) (p cyc : Nat) : State := s.settle p (cyc / 3 * 3)

/-- The instruction at its issue in parcel `p`: a corrected bit of its word has been counted (R351). -/
def cissued (s : State) (u cyc p : Nat) : CCtx :=
  let b := celuloBegun s p cyc
  let U := b.cunit u
  { s0 := s, s := if Tab.get 0 U.instrErr U.pc.toNat = 1 then b.bucketEvent 2 (u / 64) (some p) else b
    u := u, cyc := cyc, U := U, pc := U.pc.toNat, w := (Tab.get 0 (b.channel (u / 64)).image U.pc.toNat).toNat }

/-- In tile cycle `cyc` unit `u` of parcel `p` runs a program and issues, as `c`, its next instruction: its word can be read
and carries opcode `op` of Table 9.7, no instruction has issued in the Celulo cycle, and what it reads is usable (R216, R227,
R229). -/
abbrev CIssues (s : State) (u : UnitId) (cyc p op : Nat) (c : CCtx) : Prop :=
  c = cissued s u cyc p ∧ s.channelParcel (u / 64) = some p ∧ c.U.running.isSome = true ∧ c.U.halt = .none ∧
  (c.U.finishing = false ∨ op = 0x19) ∧ c.U.nextIssue ≤ celuloCycle cyc ∧ c.pc < 2048 ∧ Tab.get 0 c.U.instrErr c.pc ≠ 2 ∧
  c.w % 64 = op ∧ celuloOp op = true ∧ celuloWaits c (readsOf op c).1 (readsOf op c).2 = false

/-- The unit `U` once the instruction has retired: the next index follows its loops (R231), and it may issue again in the next
Celulo cycle. -/
def stepped (c : CCtx) (U : CUnit) : CUnit :=
  { U with
      pc := BitVec.ofNat 32 (afterInstr c.pc U.loops).1
      loops := (afterInstr c.pc U.loops).2.1
      nextIssue := c.k + 1 }

/-- No other unit and no other channel has changed. -/
abbrev OtherUnitsKept (s s' : State) (u : Nat) : Prop :=
  (∀ i, i ≠ u → s'.cunit i = s.cunit i) ∧ ∀ i, i ≠ u / 64 → s'.channel i = s.channel i

/-- The unit is now `U`; no other unit and nothing outside the units, the channel's flags, the error log and the interrupts
has changed. -/
abbrev UnitBecomes (c : CCtx) (s' : State) (U : CUnit) : Prop :=
  s'.cunit c.u = U ∧ OtherUnitsKept c.s s' c.u ∧
  s' = { c.s with units := s'.units, channels := s'.channels, log := s'.log, irq := s'.irq, fresh := s'.fresh }

/-- The unit is now `U`, and `bytes` are on their way to its data SRAM at `a`: they land as the Celulo cycle ends (R237,
R250), and lie there then where nothing else is in flight. -/
abbrev UnitStores (c : CCtx) (s' : State) (p : Nat) (U : CUnit) (a : Nat) (bytes : List Byte) : Prop :=
  s'.cunit c.u = U ∧ OtherUnitsKept c.s s' c.u ∧
  s' = { c.s with units := s'.units, channels := s'.channels, log := s'.log, irq := s'.irq, parcels := s'.parcels } ∧
  NowFlying c.s s' p [⟨celuloEnd c.cyc, rankUnit, .sram c.u a bytes⟩] ∧
  ((c.s.parcel p).flight = [] →
    ((s'.settle p (celuloEnd c.cyc + 1)).cunit c.u).data = Mem.writeBytes U.data a bytes)

/-- The unit's data SRAM can be accessed: `n` bytes at `a`, a multiple of `n` (R228). -/
abbrev DataAt (a n : Nat) : Prop := a % n = 0 ∧ a + n ≤ dataBytes

/-- None of the bytes is uncorrectable. -/
abbrev DataGood (U : CUnit) (a n : Nat) : Prop := errAt U.dataErr 2 a n = none

/-- SHI's result (Table 9.7). -/
def shiResult (c : CCtx) : Word :=
  if fld c.w 19 2 = 0 then c.sA <<< fld c.w 14 5
  else if fld c.w 19 2 = 1 then c.sA >>> fld c.w 14 5
  else c.sA.sshiftRight (fld c.w 14 5)

/-- A stream that RSTR or WSTR may open (R219, R221). -/
abbrev StreamFits (base n : Nat) : Prop := base % 64 = 0 ∧ n ≠ 0 ∧ base + 64 * n ≤ pairBytes

/-- VDOT's formats are a pair that Table 9.4 allows, with a scale where TERN2 needs one, and its operand is a part of a
vector register or the stream's next bytes (R224, R225, R230). -/
abbrev VdotAllowed (c : CCtx) (fv fm : Fmt) (xs : List Nat) (U : CUnit) : Prop :=
  fmtV c.U.fcw = some fv ∧ fmtM c.U.fcw = some fm ∧ c.b ≤ 8 ∧ (c.b < 8 → c.part < celuloParts fv) ∧ (c.b = 8 → c.part = 0) ∧
  celuloPair fv fm = true ∧ (fv = .tern2 → (scaleV c.U.fcw).isSome = true) ∧ DataAt (c.addr 16) 16 ∧
  DataGood c.U (c.addr 16) 16 ∧ vectorOperand c fv c.b c.part = .ok (some (xs, U))

/-- The same of VMACM, whose line lies in the data SRAM. -/
abbrev VmacmAllowed (c : CCtx) (fv : Fmt) (xs : List Nat) (U : CUnit) : Prop :=
  fmtV c.U.fcw = some fv ∧ c.d ≤ 8 ∧ (c.d < 8 → c.part < celuloParts fv) ∧ (c.d = 8 → c.part = 0) ∧ fv ≠ .int32 ∧
  fv ≠ .e8m0 ∧ (fv = .tern2 → (scaleV c.U.fcw).isSome = true) ∧ DataAt (c.addr 64) 64 ∧
  DataGood c.U (c.addr 64) (4 * celuloElems fv) ∧ vectorOperand c fv c.d c.part = .ok (some (xs, U))

/-- VMACM's line after it: each product rounded once, each sum once (R230). -/
def vmacmLine (c : CCtx) (fv : Fmt) (xs : List Nat) : List FW :=
  macLine c.sB (celuloVals fv xs (scaleV c.U.fcw)).1
    ((unpackCodes 32 (celuloElems fv)
      (natOfBytes (Mem.readBytes c.U.data (c.addr 64) (4 * celuloElems fv)))).map (BitVec.ofNat 32))

/-- Lane `i` of the vector register that field A names, exact. -/
def laneA (c : CCtx) (i : Nat) : FW := (lane (vreg c.U c.a) i, 0)

/-- What VF with a function of Table 9.8 leaves, where its register fields name vector registers as it needs them. -/
def vfUnit (c : CCtx) : Option CUnit :=
  if c.fn ≤ 7 then
    if c.a < 8 ∧ c.d < 8 ∧ (c.fn ≤ 5 → c.b < 8) then
      some (c.usable (setVreg c.U c.d (ofLanes (((List.range 4).filterMap fun i =>
        vfLane c.fn (lane (vreg c.U c.a) i) (lane (vreg c.U c.b) i) (lane (vreg c.U c.d) i)).map (·.1))))
        (CCtx.keyV c.d) (if 6 ≤ c.fn then 3 else 1) false)
    else none
  else if c.fn = 8 then
    if c.a < 8 then some (setSreg c.U c.d (fwAdd (fwAdd (laneA c 0) (laneA c 1)) (fwAdd (laneA c 2) (laneA c 3))).1) else none
  else if c.fn = 9 then
    if c.a < 8 then some (setSreg c.U c.d (fwMax (fwMax (laneA c 0) (laneA c 1)) (fwMax (laneA c 2) (laneA c 3))).1) else none
  else if c.fn = 10 then
    if c.d < 8 then some (setVreg c.U c.d (ofLanes [c.sA, c.sA, c.sA, c.sA])) else none
  else if c.fn = 11 then
    if c.a < 8 then some (setSreg c.U c.d (lane (vreg c.U c.a) (c.b % 4))) else none
  else none

/-- VCVT's formats and parts are allowed (R225, R230). -/
abbrev VcvtAllowed (c : CCtx) (fv fd : Fmt) (r : Rnd) : Prop :=
  c.a < 8 ∧ c.d < 8 ∧ fmtV c.U.fcw = some fv ∧ Fmt.ofCode (fld c.w 18 4) = some fd ∧
  Rnd.ofField (fld c.U.fcw.toNat 26 2) = some r ∧ fld c.w 22 2 < celuloParts fv ∧ fld c.w 24 2 < celuloParts fd ∧
  fd ≠ .tern2 ∧ fd ≠ .e8m0 ∧ fv ≠ .e8m0 ∧ (fv = .tern2 → (scaleV c.U.fcw).isSome = true)

/-- The codes that VCVT writes: each element widened with its scale and converted (R61, R62, R230). -/
def vcvtCodes (c : CCtx) (fv fd : Fmt) (r : Rnd) : List Nat :=
  let n := celuloElems fv
  let src := fld (vreg c.U c.a).toNat (n * fv.bits * fld c.w 22 2) (n * fv.bits)
  (vecConvert fd r (bitAt c.U.fcw.toNat 28) false
    (((unpackCodes fv.bits n src).map fun x => widen fv x (scaleV c.U.fcw)).map (·.1))).1

/-- None of LOOP's refusals (R231) applies. -/
abbrev CLoopAllowed (c : CCtx) : Prop :=
  c.U.inHandler = false ∧ fld c.w 10 12 ≠ 0 ∧ c.sD.toNat ≤ 2 ^ 20 ∧ c.pc + fld c.w 10 12 ≤ 2047 ∧
  (∀ f, c.U.loops.head? = some f → c.pc + fld c.w 10 12 ≤ f.last) ∧ c.U.loops.length < 4

/-- The state in which a launch reaches unit `u` in tile cycle `cyc`. -/
abbrev launchBegun (s : State) (u cyc : Nat) : State :=
  match s.channelParcel (u / 64) with | some p => s.settle p cyc | none => s

/-- The launches on their way, without `f`, the oldest for unit `u`. -/
abbrev OldestLaunch (s : State) (u : Nat) (f : LaunchFlight) (rest : List LaunchFlight) : Prop :=
  takeFirst (fun x : LaunchFlight => x.unit = u) s.launches = some (f, rest)

/-- A granule that the port reads of pair address `a`. -/
def portGranule (s : State) (u a : Nat) : FifoGranule :=
  ⟨a, bankRead s (u / 64) (pairOffset (u % 64) a) 64,
    granuleErr s (stackKey (u / 64) (pairOffset (u % 64) a) / 64) = 2, false⟩

/-- The unit's two oldest queued granules have been written. -/
def portWritten (s : State) (u : Nat) (gs : List QueuedGranule) : Mem :=
  gs.foldl (fun m g => Mem.writeBytes m (stackKey (u / 64) (pairOffset (u % 64) g.addr)) g.bytes) s.stack

end Sys2Proof.Claims

/-- Tables 9.7 and 9.8, R226. -/
def Obligations.CeluloScalarsWriteResults : Prop :=
  (∀ (s : State) (u : UnitId) (cyc p : Nat) (c : CCtx) (v : Word), CIssues s u cyc p 0x01 c →
    aluFn c.fn c.sA c.sB = some v →
    ∃ s', exec (.celuloAlu u cyc) s = .next s' ∧
      UnitBecomes c s' (stepped c (setSreg c.U c.d v))) ∧
  (∀ (s : State) (u : UnitId) (cyc p : Nat) (c : CCtx), CIssues s u cyc p 0x02 c →
    ∃ s', exec (.celuloAddi u cyc) s = .next s' ∧
      UnitBecomes c s' (stepped c (setSreg c.U c.d (c.sA + c.imm18)))) ∧
  (∀ (s : State) (u : UnitId) (cyc p : Nat) (c : CCtx), CIssues s u cyc p 0x03 c →
    ∃ s', exec (.celuloAndi u cyc) s = .next s' ∧
      UnitBecomes c s' (stepped c (setSreg c.U c.d (c.sA &&& c.imm18)))) ∧
  (∀ (s : State) (u : UnitId) (cyc p : Nat) (c : CCtx), CIssues s u cyc p 0x04 c →
    fld c.w 21 11 = 0 →
    fld c.w 19 2 ≠ 3 →
    ∃ s', exec (.celuloShi u cyc) s = .next s' ∧
      UnitBecomes c s' (stepped c (setSreg c.U c.d (shiResult c)))) ∧
  (∀ (s : State) (u : UnitId) (cyc p : Nat) (c : CCtx), CIssues s u cyc p 0x05 c →
    ∃ s', exec (.celuloLui u cyc) s = .next s' ∧
      UnitBecomes c s' (stepped c (setSreg c.U c.d (BitVec.ofNat 32 (fld c.w 10 22 * 1024))))) ∧
  (∀ (s : State) (u : UnitId) (cyc p : Nat) (c : CCtx) (v : Word) (fl : FFlags), CIssues s u cyc p 0x06 c →
    faluFn c.fn c.sA c.sB = some (v, fl) →
    ∃ s', exec (.celuloFalu u cyc) s = .next s' ∧
      UnitBecomes c s' (stepped c 
        (c.usable (setSreg c.U c.d v) c.d (if c.fn = 5 || c.fn = 6 then 3 else 1) false))) ∧
  (∀ (s : State) (u : UnitId) (cyc p : Nat) (c : CCtx), CIssues s u cyc p 0x07 c →
    ∃ s', exec (.celuloSel u cyc) s = .next s' ∧
      UnitBecomes c s' (stepped c (setSreg c.U c.d (if c.sD ≠ 0 then c.sA else c.sB)))) ∧
  (∀ (s : State) (u : UnitId) (cyc p : Nat) (c : CCtx), CIssues s u cyc p 0x1C c →
    ∃ s', exec (.celuloNop u cyc) s = .next s' ∧
      UnitBecomes c s' (stepped c c.U)) ∧
  (∀ (s : State) (u : UnitId) (cyc p : Nat) (c : CCtx), CIssues s u cyc p 0x15 c →
    fcwOk c.sA = true →
    ∃ s', exec (.celuloSetf u cyc) s = .next s' ∧
      UnitBecomes c s' (stepped c { c.U with fcw := c.sA })) ∧
  (∀ (s : State) (u : UnitId) (cyc p : Nat) (c : CCtx), CIssues s u cyc p 0x16 c →
    ∃ s', exec (.celuloSets u cyc) s = .next s' ∧
      UnitBecomes c s' (stepped c { c.U with
        fcw := c.U.fcw &&& 0xFF0000FF ||| (c.sA &&& 0xFF) <<< 8 ||| (c.sB &&& 0xFF) <<< 16 }))

/-- R228, R237: data SRAM accesses. -/
def Obligations.CeluloDataAccesses : Prop :=
  (∀ (s : State) (u : UnitId) (cyc p : Nat) (c : CCtx), CIssues s u cyc p 0x08 c →
    DataAt (c.addr 4) 4 →
    DataGood c.U (c.addr 4) 4 →
    ∃ s', exec (.celuloLdw u cyc) s = .next s' ∧
      UnitBecomes c s' (stepped c 
        (setSreg c.U c.d (BitVec.ofNat 32 (natOfBytes (Mem.readBytes c.U.data (c.addr 4) 4)))))) ∧
  (∀ (s : State) (u : UnitId) (cyc p : Nat) (c : CCtx), CIssues s u cyc p 0x0A c →
    c.d < 8 →
    DataAt (c.addr 16) 16 →
    DataGood c.U (c.addr 16) 16 →
    ∃ s', exec (.celuloVld u cyc) s = .next s' ∧
      UnitBecomes c s' (stepped c 
        (setVreg c.U c.d (BitVec.ofNat 128 (natOfBytes (Mem.readBytes c.U.data (c.addr 16) 16)))))) ∧
  (∀ (s : State) (u : UnitId) (cyc p : Nat) (c : CCtx), CIssues s u cyc p 0x09 c →
    DataAt (c.addr 4) 4 →
    ∃ s', exec (.celuloStw u cyc) s = .next s' ∧
      UnitStores c s' p (stepped c c.U) (c.addr 4) (bytesOfNat c.sD.toNat 4)) ∧
  (∀ (s : State) (u : UnitId) (cyc p : Nat) (c : CCtx), CIssues s u cyc p 0x0B c →
    c.d < 8 →
    DataAt (c.addr 16) 16 →
    ∃ s', exec (.celuloVst u cyc) s = .next s' ∧
      UnitStores c s' p (stepped c c.U) (c.addr 16) (bytesOfNat (vreg c.U c.d).toNat 16))

/-- R219, R221. -/
def Obligations.CeluloStreams : Prop :=
  (∀ (s : State) (u : UnitId) (cyc p : Nat) (c : CCtx), CIssues s u cyc p 0x0E c →
    StreamFits c.sA.toNat c.sB.toNat →
    c.U.openRead = none →
    ∃ s', exec (.celuloRstr u cyc) s = .next s' ∧
      UnitBecomes c s' (stepped c { c.U with openRead := some ⟨c.sA.toNat, c.sB.toNat⟩ })) ∧
  (∀ (s : State) (u : UnitId) (cyc p : Nat) (c : CCtx) (o : Machine.Stream), CIssues s u cyc p 0x0E c →
    StreamFits c.sA.toNat c.sB.toNat →
    c.U.openRead = some o →
    c.U.pendingRead = none →
    ∃ s', exec (.celuloRstr u cyc) s = .next s' ∧
      UnitBecomes c s' (stepped c { c.U with pendingRead := some ⟨c.sA.toNat, c.sB.toNat⟩ })) ∧
  (∀ (s : State) (u : UnitId) (cyc p : Nat) (c : CCtx), CIssues s u cyc p 0x0F c →
    StreamFits c.sA.toNat c.sB.toNat →
    partlyAppended c.U = false →
    ∃ s', exec (.celuloWstr u cyc) s = .next s' ∧
      UnitBecomes c s' (stepped c { c.U with writeStream := some ⟨c.sA.toNat, c.sB.toNat⟩ })) ∧
  (∀ (s : State) (u : UnitId) (cyc p : Nat) (c : CCtx) (bs : List Byte) (r : List FifoGranule), CIssues s u cyc p 0x0C c →
    c.d < 8 →
    16 ≤ fifoBytes c.U.fifo →
    (∀ g ∈ fifoTouched 16 c.U.fifo, g.bad = false) →
    takeFifo 16 c.U.fifo = some (bs, r) →
    ∃ s', exec (.celuloVlds u cyc) s = .next s' ∧
      UnitBecomes c s' (stepped c (setVreg { c.U with fifo := r } c.d (BitVec.ofNat 128 (natOfBytes bs))))) ∧
  (∀ (s : State) (u : UnitId) (cyc p : Nat) (c : CCtx), CIssues s u cyc p 0x0D c →
    c.d < 8 →
    partlyAppended c.U = true →
    ∃ s', exec (.celuloVstw u cyc) s = .next s' ∧
      UnitBecomes c s' (stepped c { c.U with
        writeQueue := appendTail (bytesOfNat (vreg c.U c.d).toNat 16) c.U.writeQueue })) ∧
  (∀ (s : State) (u : UnitId) (cyc p : Nat) (c : CCtx) (w : Machine.Stream), CIssues s u cyc p 0x0D c →
    c.d < 8 →
    partlyAppended c.U = false →
    c.U.writeStream = some w →
    w.left ≠ 0 →
    c.U.writeQueue.length < 8 →
    ∃ s', exec (.celuloVstw u cyc) s = .next s' ∧
      UnitBecomes c s' (stepped c { c.U with
        writeStream := some ⟨w.addr + 64, w.left - 1⟩
        writeQueue := c.U.writeQueue ++ [⟨w.addr, bytesOfNat (vreg c.U c.d).toNat 16⟩] })) ∧
  (∀ (s : State) (u : UnitId) (cyc p : Nat) (c : CCtx), CIssues s u cyc p 0x10 c →
    sfld c.w 14 18 ≤ ((8 - c.U.writeQueue.length : Nat) : Int) →
    ∃ s', exec (.celuloWaitw u cyc) s = .next s' ∧
      UnitBecomes c s' (stepped c c.U))

/-- R224, R225, R230. -/
def Obligations.CeluloVectorsWriteResults : Prop :=
  (∀ (s : State) (u : UnitId) (cyc p : Nat) (c : CCtx) (fv fm : Fmt) (xs : List Nat) (U : CUnit), CIssues s u cyc p 0x11 c →
    VdotAllowed c fv fm xs U →
    ∃ s', exec (.celuloVdot u cyc) s = .next s' ∧
      UnitBecomes c s' (stepped c (c.usable (setSreg U c.d (celuloDot c.U.fcw fv fm xs
        (unpackCodes fm.bits (celuloElems fv) (natOfBytes (Mem.readBytes c.U.data (c.addr 16) 16)))
        (if bitAt c.w 28 then 0 else c.sD)).1) c.d 2 true))) ∧
  (∀ (s : State) (u : UnitId) (cyc p : Nat) (c : CCtx) (fv : Fmt) (xs : List Nat) (U : CUnit), CIssues s u cyc p 0x12 c →
    VmacmAllowed c fv xs U →
    ∃ s', exec (.celuloVmacm u cyc) s = .next s' ∧
      UnitStores c s' p (stepped c (c.usable U (CCtx.keyM (c.addr 64)) 3 false)) (c.addr 64)
        ((vmacmLine c fv xs).flatMap fun r => bytesOfNat r.1.toNat 4)) ∧
  (∀ (s : State) (u : UnitId) (cyc p : Nat) (c : CCtx) (U : CUnit), CIssues s u cyc p 0x13 c →
    vfUnit c = some U →
    ∃ s', exec (.celuloVf u cyc) s = .next s' ∧
      UnitBecomes c s' (stepped c U)) ∧
  (∀ (s : State) (u : UnitId) (cyc p : Nat) (c : CCtx) (fv fd : Fmt) (r : Rnd), CIssues s u cyc p 0x14 c →
    VcvtAllowed c fv fd r →
    ∃ s', exec (.celuloVcvt u cyc) s = .next s' ∧
      UnitBecomes c s' (stepped c (setVreg c.U c.d (BitVec.ofNat 128 (putPart (vreg c.U c.d).toNat
        (celuloElems fd * fd.bits) (fld c.w 24 2) fd.bits (vcvtCodes c fv fd r) (Config.vcvtRest c.s.fresh))))))

/-- R231, R234, R235, R238, R244, R245. -/
def Obligations.CeluloControl : Prop :=
  (∀ (s : State) (u : UnitId) (cyc p : Nat) (c : CCtx), CIssues s u cyc p 0x18 c →
    CLoopAllowed c →
    ∃ s', exec (.celuloLoop u cyc) s = .next s' ∧
      UnitBecomes c s' (if c.sD = 0 then
          { c.U with
              pc := BitVec.ofNat 32 (afterInstr (c.pc + fld c.w 10 12) c.U.loops).1
              loops := (afterInstr (c.pc + fld c.w 10 12) c.U.loops).2.1
              nextIssue := c.k + 1 }
        else
          { c.U with
              pc := BitVec.ofNat 32 (c.pc + 1)
              loops := ⟨c.pc + 1, c.pc + fld c.w 10 12, c.sD.toNat, 0⟩ :: c.U.loops
              nextIssue := c.k + 1 })) ∧
  (∀ (s : State) (u : UnitId) (cyc p : Nat) (c : CCtx), CIssues s u cyc p 0x19 c →
    c.U.writeQueue = [] →
    c.U.pendingLaunch = none →
    ∃ s', exec (.celuloDone u cyc) s = .next s' ∧
      s'.stack = s.stack ∧ OtherUnitsKept c.s s' u ∧
      s'.cunit u = { c.U with
        openRead := none, pendingRead := none, fifo := [], running := none, finishing := false, loops := [],
        writeStream := none }) ∧
  (∀ (s : State) (u : UnitId) (cyc p : Nat) (c : CCtx) (L : UnitLaunch), CIssues s u cyc p 0x19 c →
    c.U.writeQueue = [] →
    c.U.pendingLaunch = some L →
    ∃ s', exec (.celuloDone u cyc) s = .next s' ∧
      s'.stack = s.stack ∧ OtherUnitsKept c.s s' u ∧
      (s'.cunit u).running = some L ∧ (s'.cunit u).pendingLaunch = none ∧ (s'.cunit u).pc = L.entry.setWidth 32 ∧
      (s'.cunit u).nextIssue = c.k + 1 ∧ (s'.cunit u).data = c.U.data ∧ sreg (s'.cunit u) 0 = L.arg ∧
      (s'.cunit u).fcw = 0x007F7F55) ∧
  (∀ (s : State) (u : UnitId) (cyc p : Nat) (c : CCtx), CIssues s u cyc p 0x19 c →
    c.U.writeQueue ≠ [] →
    partlyAppended c.U = false →
    ∃ s', exec (.celuloDone u cyc) s = .next s' ∧
      s'.stack = s.stack ∧ OtherUnitsKept c.s s' u ∧
      s'.cunit u = { c.U with openRead := none, pendingRead := none, fifo := [], finishing := true }) ∧
  (∀ (s : State) (u : UnitId) (cyc p : Nat) (c : CCtx), CIssues s u cyc p 0x1A c →
    ∃ s', exec (.celuloFail u cyc) s = .next s' ∧
      s'.stack = s.stack ∧ OtherUnitsKept c.s s' u ∧
      (s'.cunit u).halt = .direct 0x12 c.pc (BitVec.ofNat 32 (c.sA.toNat % 256)) ∧
      (s'.cunit u).s = c.U.s ∧ (s'.cunit u).v = c.U.v ∧ (s'.cunit u).data = c.U.data) ∧
  (∀ (s : State) (u : UnitId) (cyc p : Nat) (c : CCtx), CIssues s u cyc p 0x1B c →
    c.U.inHandler = true →
    DataAt (sreg c.U 15).toNat 16 →
    DataGood c.U (sreg c.U 15).toNat 16 →
    ∃ s', exec (.celuloEret u cyc) s = .next s' ∧
      (let f := natOfBytes (Mem.readBytes c.U.data (sreg c.U 15).toNat 16)
       UnitBecomes c s' { setSreg c.U 15 (BitVec.ofNat 32 ((sreg c.U 15).toNat + 16)) with
         pc := BitVec.ofNat 32 (fld f 0 32)
         inHandler := bitAt f 40
         nextIssue := c.k + 1 }))

/-- R241 to R243, shown at a misaligned LDW. -/
def Obligations.CeluloExceptionEntry : Prop :=
  (∀ (s : State) (u : UnitId) (cyc p : Nat) (c : CCtx), CIssues s u cyc p 0x08 c →
    c.addr 4 % 4 ≠ 0 →
    (sreg c.U 15).toNat % 16 = 0 →
    16 ≤ (sreg c.U 15).toNat →
    (sreg c.U 15).toNat ≤ 16384 →
    ∃ s', exec (.celuloLdw u cyc) s = .next s' ∧
      (let sp := (sreg c.U 15).toNat
       UnitStores c s' p
         { setSreg c.U 15 (BitVec.ofNat 32 (sp - 16)) with inHandler := true, pc := 2032, nextIssue := c.k + 1 } (sp - 16)
         (bytesOfNat (c.pc + 2 ^ 32 * (3 + (if c.U.inHandler then 256 else 0) + c.U.loops.length * 512) +
           2 ^ 64 * c.addr 4 + 2 ^ 96 * c.w) 16))) ∧
  (∀ (s : State) (u : UnitId) (cyc p : Nat) (c : CCtx), CIssues s u cyc p 0x08 c →
    c.addr 4 % 4 ≠ 0 →
    ((sreg c.U 15).toNat % 16 ≠ 0 ∨ (sreg c.U 15).toNat < 16 ∨ 16384 < (sreg c.U 15).toNat) →
    ∃ s', exec (.celuloLdw u cyc) s = .next s' ∧
      s'.stack = s.stack ∧ (s'.cunit u).halt = .lock ∧
      (s'.cunit u).shadowCause = 3 ∧ (s'.cunit u).shadowPc = c.U.pc.setWidth 11 ∧ OtherUnitsKept c.s s' u ∧
      (s'.cunit u).s = c.U.s ∧ (s'.cunit u).v = c.U.v ∧ (s'.cunit u).data = c.U.data)

/-- R194, R219, R221, R233 to R236. -/
def Obligations.CeluloLaunchAndPort : Prop :=
  (∀ (s b : State) (u : UnitId) (cyc : Nat) (f : LaunchFlight) (rest : List LaunchFlight), b = launchBegun s u cyc →
    OldestLaunch s u f rest → (b.channel (u / 64)).retiredPairs.contains (u % 64) = false → (b.cunit u).halt = .none →
    (b.cunit u).running = none →
    ∃ s', exec (.celuloLaunch u cyc) s = .next s' ∧ s' = { b with launches := rest, units := s'.units } ∧
      s'.cunit u = startUnit (b.cunit u) f.launch (logicalUnit b u) (celuloCycle cyc) ∧
      (s'.cunit u).running = some f.launch ∧ sreg (s'.cunit u) 0 = f.launch.arg ∧
      sreg (s'.cunit u) 1 = BitVec.ofNat 32 (logicalUnit b u) ∧ sreg (s'.cunit u) 15 = 0x4000 ∧
      (s'.cunit u).fcw = 0x007F7F55 ∧ (s'.cunit u).pc = f.launch.entry.setWidth 32 ∧ (s'.cunit u).fifo = [] ∧
      (s'.cunit u).data = (b.cunit u).data ∧ OtherUnitsKept b s' u) ∧
  (∀ (s b : State) (u : UnitId) (cyc : Nat) (f : LaunchFlight) (rest : List LaunchFlight) (L : UnitLaunch),
    b = launchBegun s u cyc → OldestLaunch s u f rest →
    (b.channel (u / 64)).retiredPairs.contains (u % 64) = false → (b.cunit u).halt = .none →
    (b.cunit u).running = some L → (b.cunit u).pendingLaunch = none →
    ∃ s', exec (.celuloLaunch u cyc) s = .next s' ∧ s' = { b with launches := rest, units := s'.units } ∧
      s'.cunit u = { b.cunit u with pendingLaunch := some f.launch } ∧ OtherUnitsKept b s' u) ∧
  (∀ (s b : State) (u : UnitId) (cyc : Nat) (f : LaunchFlight) (rest : List LaunchFlight) (L L' : UnitLaunch),
    b = launchBegun s u cyc → OldestLaunch s u f rest →
    (b.channel (u / 64)).retiredPairs.contains (u % 64) = false → (b.cunit u).halt = .none →
    (b.cunit u).running = some L → (b.cunit u).pendingLaunch = some L' →
    ∃ s', exec (.celuloLaunch u cyc) s = .next s' ∧ s'.launches = rest ∧ s'.stack = s.stack ∧
      (s'.cunit u).halt = .direct 0x11 (b.cunit u).pc.toNat 0 ∧ OtherUnitsKept b s' u) ∧
  (∀ (s : State) (u : UnitId) (gs rest : List QueuedGranule), (s.cunit u).frame % 5 = 4 →
    (s.cunit u).writeQueue = gs ++ rest → gs.length ≤ 2 → (∀ g ∈ gs, g.bytes.length = 64) →
    (gs.length < 2 → ∀ g, rest.head? = some g → g.bytes.length ≠ 64) →
    ∃ s', exec (.portFrame u) s = .next s' ∧ s'.stack = portWritten s u gs ∧ s'.tiles = s.tiles ∧
      s'.cunit u = { s.cunit u with frame := 0, writeQueue := rest } ∧ OtherUnitsKept s s' u) ∧
  (∀ (s : State) (u : UnitId), (s.cunit u).frame % 5 ≠ 4 → (s.cunit u).openRead = none ∨ (s.cunit u).halt ≠ .none →
    ∃ s', exec (.portFrame u) s = .next s' ∧ s' = { s with units := s'.units } ∧
      s'.cunit u = { s.cunit u with frame := ((s.cunit u).frame + 1) % 5 } ∧ OtherUnitsKept s s' u) ∧
  (∀ (s : State) (u : UnitId) (r : Machine.Stream), (s.cunit u).frame % 5 ≠ 4 → (s.cunit u).openRead = some r →
    (s.cunit u).halt = .none → 2 ≤ r.left → (s.cunit u).fifo.length ≤ 14 →
    ∃ s', exec (.portFrame u) s = .next s' ∧ s'.stack = s.stack ∧ s'.tiles = s.tiles ∧
      s'.cunit u = { s.cunit u with
        frame := ((s.cunit u).frame + 1) % 5
        fifo := (s.cunit u).fifo ++ [portGranule s u r.addr, portGranule s u (r.addr + 64)]
        openRead := if r.left = 2 then (s.cunit u).pendingRead else some ⟨r.addr + 128, r.left - 2⟩
        pendingRead := if r.left = 2 then none else (s.cunit u).pendingRead } ∧ OtherUnitsKept s s' u) ∧
  (∀ (s : State) (u : UnitId) (r : Machine.Stream), (s.cunit u).frame % 5 ≠ 4 → (s.cunit u).openRead = some r →
    (s.cunit u).halt = .none → r.left = 1 → (s.cunit u).fifo.length ≤ 15 →
    ∃ s', exec (.portFrame u) s = .next s' ∧ s'.stack = s.stack ∧ s'.tiles = s.tiles ∧
      s'.cunit u = { s.cunit u with
        frame := ((s.cunit u).frame + 1) % 5
        fifo := (s.cunit u).fifo ++ [portGranule s u r.addr]
        openRead := (s.cunit u).pendingRead
        pendingRead := none } ∧ OtherUnitsKept s s' u) ∧
  (∀ (s b : State) (t : TileId) (e : EngineId) (cyc : Nat) (l : Launch) (rest : List Launch), b = s.settleTile t cyc →
    takeFirst (fun l : Launch => l.remaining.isEmpty) (b.engine t e).launches = some (l, rest) →
    ∃ s', exec (.launchCompletionPost t e cyc) s = .next s' ∧
      s'.engine t e = { b.engine t e with launches := rest } ∧
      s'.posts = s.posts ++ (match l.post with | some d => [⟨t, e, d⟩] | none => []) ∧ s'.stack = s.stack ∧
      TileDataKept b s' t ∧ OthersKept b s' t 0)

/-- R122, R246, R304, R305. -/
def Obligations.FaultsStopAndTearDown : Prop :=
  (∀ (s : State) (u : UnitId) (p : Nat), s.channelParcel (u / 64) = some p → (s.cunit u).halt ≠ .none →
    jobLive (s.parcel p) = true →
    ∃ s', exec (.celuloFaultReport u) s = .next s' ∧ (s'.parcel p).legs = [] ∧ (s'.parcel p).nextPlan = none ∧
      (s'.parcel p).flight = [] ∧ (s'.parcel p).ctl.tearingDown = some .tornDown ∧ (s'.parcel p).remote.out = [] ∧
      fld (s'.parcel p).ctl.teardownRecord.toNat 48 8 =
        (if inMove (s.parcel p) then 0x07 else if (unitPrimary (s.parcel p)).isSome then 0x02 else 0x01) ∧
      fld (s'.parcel p).ctl.teardownRecord.toNat 0 48 = s.now % 2 ^ 48) ∧
  (∀ (s : State) (p : ParcelId), s.noFaultYet p = false → jobLive (s.parcel p) = true →
    ∃ s', exec (.contextTeardown p) s = .next s' ∧ (s'.parcel p).legs = [] ∧ (s'.parcel p).nextPlan = none ∧
      (s'.parcel p).flight = [] ∧ (s'.parcel p).ctl.tearingDown = some .tornDown ∧ (s'.parcel p).remote.queue = [] ∧
      fld (s'.parcel p).ctl.teardownRecord.toNat 48 8 =
        (if inMove (s.parcel p) then 0x07 else if (unitPrimary (s.parcel p)).isSome then 0x02 else 0x01) ∧
      fld (s'.parcel p).ctl.teardownRecord.toNat 0 48 = s.now % 2 ^ 48) ∧
  (∀ (s b : State) (p : ParcelId) (cyc : Nat), b = s.settle p cyc → b.noFaultYet p = false →
    ∃ s', exec (.faultStop p cyc) s = .next s' ∧ s'.stack = s.stack ∧ (s'.parcel p).legs = (b.parcel p).legs ∧
      ∀ t ∈ b.tilesOf p, ∀ e, engineRuns (b.engine t e) = true → (s'.engine t e).mode = .peerHalted)

namespace Sys2Proof.Claims

open Sys2Proof Sys2Proof.Machine

/-! ### The tick boundary and what it makes due (chapters 2, 8, 12, 14, 17) -/

/-- The average power drawn over the window, in W (R425). -/
def averageWatts (T : Thermal) (energyUJ : Nat) : Nat :=
  if T.wall64 = 0 then 0 else min (energyUJ * 1000 / T.wall64) 0xFFFF

/-- The power demand after a window of `w` W: one level up above the limit, to at most 2; one down below three quarters of
it; else as it was (R425). -/
def nextPowerDemand (T : Thermal) (w : Nat) : Nat :=
  if T.powerLimit.toNat < w then min (T.powerDemand + 1) 2
  else if 4 * w < 3 * T.powerLimit.toNat then T.powerDemand - 1 else T.powerDemand

/-- The level one step nearer to the demand (R45). -/
def stretchTowards (level demand : Nat) : Nat := if level < demand then level + 1 else level - 1

/-- A bucket with 1 leaked out of it (R352). -/
def leaked (b : Bucket) : Bucket := { b with level := b.level - 1 }

end Sys2Proof.Claims

/-- R19, R20, R26, R354, R395. -/
def Obligations.BoundaryAdvancesTick : Prop :=
  (∀ (s : State) (cycles : Nat), s.mer.started = true → s.mer.opened = none → s.cart.activation = false → s.cart.memErr ≠ 2 →
    ∃ s', exec (.tickBoundary cycles) s = .next s' ∧
      s'.mer.tick = s.mer.tick + 1 ∧ s'.mer.snapTick = s.mer.tick ∧ s'.mer.started = true ∧ s'.mer.level = s.mer.level ∧
      s'.mer.steps = s.mer.pendingSteps.getD s.mer.steps ∧ s'.mer.pendingSteps = none ∧
      (s'.mer.dueStretch = true ↔ s'.mer.tick % 64 = 0 ∧ s.thermal.demand ≠ s.mer.level) ∧
      (s'.mer.dueDemand = true ↔ s'.mer.tick % 64 = 0) ∧ (s'.mer.duePower = true ↔ s'.mer.tick % 64 = 0) ∧
      (s'.mer.dueLeak = true ↔ s'.mer.tick % 256 = 0) ∧ (s'.mer.dueLane = true ↔ s'.mer.tick % 4096 = 0) ∧
      (s'.mer.opened.isSome = true ↔ s'.mer.dueStretch = true ∨ s'.mer.dueLeak = true) ∧
      s'.log.depth = s.log.pendingDepth.getD s.log.depth ∧ s'.log.pendingDepth = none ∧
      s'.clocks.ssc = s.clocks.pendingSsc.getD s.clocks.ssc ∧ s'.clocks.pendingSsc = none ∧ s'.pending = s.pending) ∧
  (∀ (s : State) (cycles : Nat), s.mer.started = false → exec (.tickBoundary cycles) s = .next s)

/-- R26, R45, R210, R310, R352, R424, R425. -/
def Obligations.BoundaryDueEvents : Prop :=
  (∀ s : State, s.mer.dueStretch = true → s.thermal.demand ≠ s.mer.level →
    ∃ s', exec .stretchChange s = .next (closeIfDone s') ∧ (s.mer.opened = none → closeIfDone s' = s') ∧
      s'.mer = { s.mer with level := stretchTowards s.mer.level s.thermal.demand, dueStretch := false } ∧
      (∀ p, p < 16 → s'.parcel p = { s.parcel p with tick := { (s.parcel p).tick with stretchChanged := true } }) ∧
      s' = { s with mer := s'.mer, parcels := s'.parcels, irq := s'.irq, thermal := s'.thermal, log := s'.log }) ∧
  (∀ s : State, s.mer.dueLeak = true → s.mer.dueStretch = false →
    ∃ s', exec .bucketLeak s = .next (closeIfDone s') ∧ (s.mer.opened = none → closeIfDone s' = s') ∧
      (∀ i, Tab.get Bucket.init s'.log.tileBuckets i = leaked (Tab.get Bucket.init s.log.tileBuckets i) ∧
        Tab.get Bucket.init s'.log.chanBuckets i = leaked (Tab.get Bucket.init s.log.chanBuckets i) ∧
        Tab.get Bucket.init s'.log.stewBuckets i = leaked (Tab.get Bucket.init s.log.stewBuckets i)) ∧
      s'.mer = { s.mer with dueLeak := false } ∧ s'.log.slots = s.log.slots ∧ s'.log.queue = s.log.queue ∧
      s' = { s with mer := s'.mer, log := s'.log }) ∧
  (∀ s : State, s.mer.dueLeak = true → s.mer.dueStretch = true →
    ∃ s', exec .stretchChange s = .next s' ∧ s'.mer.dueStretch = false ∧ s'.mer.dueLeak = true ∧
      exec .bucketLeak s = exec .bucketLeak s') ∧
  (∀ s : State, s.mer.dueLane = true →
    ∃ s', exec .laneCountRestart s = .next s' ∧ (∀ c, s'.channel c = { s.channel c with laneWindow := [] }) ∧
      s'.mer = { s.mer with dueLane := false } ∧ s' = { s with mer := s'.mer, channels := s'.channels }) ∧
  (∀ (s : State) (e : Nat), s.mer.dueDemand = true →
    ∃ s', exec (.powerDemandUpdate e) s = .next s' ∧ s'.mer = { s.mer with dueDemand := false } ∧
      s'.thermal.inputPower = averageWatts s.thermal e ∧
      s'.thermal.powerDemand = nextPowerDemand s.thermal (averageWatts s.thermal e) ∧ s'.thermal.wall64 = 0 ∧
      s'.thermal.demand = max (thermalDemand s.thermal.demanded) s'.thermal.powerDemand ∧
      s'.thermal.demanded = s.thermal.demanded ∧ s'.thermal.rung = s.thermal.rung ∧
      s'.thermal.powerLimit = s.thermal.powerLimit ∧
      s' = { s with mer := s'.mer, thermal := s'.thermal, log := s'.log, irq := s'.irq, sent := s'.sent }) ∧
  (∀ s : State, s.mer.duePower = true →
    ∃ s', exec .powerWUpdate s = .next s' ∧ s'.mer = { s.mer with duePower := false } ∧
      (∀ p, p < 16 → s'.parcel p = { s.parcel p with acct := { (s.parcel p).acct with
        powerW := (if (s.parcel p).acct.wall64 = 0 then 0
          else min ((s.parcel p).acct.energy64 / ((s.parcel p).acct.wall64 * 10 ^ 9)) 0xFFFF / 8 * 8)
        energy64 := 0
        wall64 := 0 } }) ∧
      s' = { s with mer := s'.mer, parcels := s'.parcels })

namespace Sys2Proof.Claims

open Sys2Proof Sys2Proof.Machine

/-! ### The steward's work within a tick (chapters 2, 5, 11, 12) -/

/-- Nothing but the parcels has changed, and of them only parcel `p`. -/
abbrev WithinParcel (s s' : State) (p : Nat) : Prop :=
  s' = { s with parcels := s'.parcels } ∧ ∀ q, q ≠ p → s'.parcel q = s.parcel q

/-- The same, and the interrupts waiting. -/
abbrev WithinParcelIrq (s s' : State) (p : Nat) : Prop :=
  s' = { s with parcels := s'.parcels, irq := s'.irq } ∧ ∀ q, q ≠ p → s'.parcel q = s.parcel q

/-- A REFUSED completion as it is held for its ring: judged by no bound (Table 11.6, R268). -/
def refusal (reason : Nat) (tag : BitVec 32) (tick : Nat) : HeldComp :=
  { entry := (Comp.plain 0x04 reason tag tick).bits, token := 0, judged := false, first := false, bound := 0, prev := 0 }

/-- The pending request has waited longer than its limit and is not the one already admitted (R271, R275). -/
def expired (V : Serving) (q : PendReq) : Bool :=
  q.since.isSome && pendLimit q.raw < q.waited && admittedBuf V ≠ some q.buf

/-- What R36 allows: with one more active request and `pos` positions, the quotas' decode and prefill legs fit the budget
of a tick. -/
def budgetAllows (s : State) (V : Serving) (c : Chart) (pos : Nat) : Prop :=
  ∃ b dec, bucketOf ((activeList V).length + 1) = some b ∧ admitDec c b pos = some dec ∧
    V.qd * dec + V.qp * admitPre c ≤ s.mer.steps * 142200

/-- The steward composes parcel `p`'s next plan in this tick (R38). -/
abbrev Composes (s : State) (p : Nat) (c : Chart) : Prop :=
  (s.parcel p).chart = some c ∧
  ((s.parcel p).ctl.job = .running ∨ (s.parcel p).ctl.job = .draining ∨ (s.parcel p).ctl.job = .starting ∨
    (s.parcel p).ctl.job = .preempted ∧ (s.parcel p).ctl.sampled = 0x11) ∧
  (s.parcel p).tick.late = false ∧ (s.parcel p).nextPlan = none

/-- The total cost of a list of legs, in cycles. -/
def costOf (ls : List Leg) : Nat := (ls.map (·.cost)).sum

/-- `whole` is the plan with the legs to recompute first: of the ordinary legs a first part stays, and the last ones that
wait cost at least as much as the recomputation, unless none stays (R34). -/
abbrev Amended (again ordinary whole : List Leg) : Prop :=
  ∃ kept, whole = again ++ kept ∧ kept <+: ordinary ∧ (kept = [] ∨ costOf again ≤ costOf (ordinary.drop kept.length))

/-- No template of these legs carries a remote list or remote needs. -/
abbrev LocalOnly (c : Chart) (ls : List Leg) : Prop :=
  ∀ l, l ∈ ls → ∀ T, findTemplate c l.template = some T → T.remoteList = [] ∧ T.needs = []

/-- A preemption can be applied: it is pending and no remote operation is under way (R302). -/
def preemptReady (P : Parcel) : Bool := P.tick.preemptPending && P.remote.queue.isEmpty && P.remote.out.isEmpty

/-- What COMMAND_SAMPLE answers a held command of code `c` with: 0 keeps it for the boundary (R294, R426). -/
def sampleOutcome (s : State) (P : Parcel) (c : BitVec 8) : Nat :=
  if commandListed c.toNat = false then 4
  else if principalFits P.ctl.heldBy c.toNat = false then 3
  else if commandValid P c.toNat = false then 2
  else if s.thermal.stopped = true ∧ (c = 0x01 ∨ c = 0x02 ∨ c = 0x11) then 6 else 0

end Sys2Proof.Claims

/-- R36, R271, R275, R284. -/
def Obligations.AdmissionAndExpiry : Prop :=
  (∀ (s : State) (p : ParcelId) (q : PendReq), (s.parcel p).ctl.job = .running → admissionHeld (s.parcel p) = false →
    (s.parcel p).serving.eval = .none → oldestPending (s.parcel p).serving s.now = some q →
    ∃ s', exec (.admissionEvaluate p) s = .next s' ∧ WithinParcel s s' p ∧
      s'.parcel p = { s.parcel p with serving := { (s.parcel p).serving with eval := (s'.parcel p).serving.eval } } ∧
      (∀ r, handleReason (s.parcel p).serving s.now q.raw = some r → (s'.parcel p).serving.eval = .refuse q.buf r) ∧
      (∀ b e cols h, (s'.parcel p).serving.eval = .admission b e cols h → b = q.buf ∧
        handleReason (s.parcel p).serving s.now q.raw = none ∧
        (s.gaz p e).state = .free ∧ e < 1024 * s.sectorCount p ∧ (activeList (s.parcel p).serving).length + 1 ≤ 512 ∧
        cols.length = columnsNeeded (s.parcel p).serving (Sub.len q.raw) (Sub.gen q.raw) h ∧
        ∃ c pos, (s.parcel p).chart = some c ∧
          activePositions (s.parcel p).serving + Sub.len q.raw + Sub.gen q.raw ≤ pos ∧
          budgetAllows s (s.parcel p).serving c pos)) ∧
  (∀ (s : State) (p : ParcelId),
    ∃ s', exec (.pendingExpired p) s = .next s' ∧ WithinParcel s s' p ∧
      (s'.parcel p).serving.pending = (s.parcel p).serving.pending.filter (fun q => !expired (s.parcel p).serving q) ∧
      (s'.parcel p).serving.refusedTotal =
        (s.parcel p).serving.refusedTotal + ((s.parcel p).serving.pending.filter (expired (s.parcel p).serving)).length ∧
      (s'.parcel p).serving.gaz = (s.parcel p).serving.gaz ∧
      ∀ r, (Tab.get Ring.init (s'.parcel p).serving.compRings r).held =
        (Tab.get Ring.init (s.parcel p).serving.compRings r).held ++
          (((s.parcel p).serving.pending.filter (expired (s.parcel p).serving)).filter fun q => Sub.ring q.raw = r).map
            fun q => refusal 0x05 (Sub.tag q.raw) s.now)

/-- R34, R38, R43, R276, R302, R303, R378. -/
def Obligations.PlanIsComposed : Prop :=
  ∀ (s : State) (p : ParcelId) (c : Chart), Composes s p c →
    ∃ s', exec (.planCompose p) s = .next s' ∧ WithinParcel s s' p ∧
      (s'.parcel p).legs = (s.parcel p).legs ∧ (s'.parcel p).serving.pending = (s.parcel p).serving.pending ∧
      (s'.parcel p).serving.compRings = (s.parcel p).serving.compRings ∧
      if preemptReady (s.parcel p) then
        s'.parcel p = { s.parcel p with nextPlan := some [moveLeg s (s.parcel p) .save] }
      else
        ∃ whole ls, Amended (s.parcel p).serving.recompute (ordinaryLegs s (s.parcel p) c p) whole ∧ ls <+: whole ∧
          if (s.parcel p).ctl.job = .preempted then
            (s'.parcel p).nextPlan = some (moveLeg s (s.parcel p) .restore :: ls) ∧
            costOf ls ≤ s.legBudget - (moveLeg s (s.parcel p) .restore).cost
          else
            (s'.parcel p).nextPlan = some ls ∧ (LocalOnly c whole → ls = whole) ∧
            (s'.parcel p).remote.deferred = decide (ls.length < whole.length)

/-- R294, R302, R426. -/
def Obligations.CommandIsSampled : Prop :=
  ∀ (s : State) (p : ParcelId) (c : BitVec 8), (s.parcel p).ctl.held = some c →
    ∃ s', exec (.commandSample p) s = .next s' ∧ WithinParcelIrq s s' p ∧ (s'.parcel p).ctl.held = none ∧
      if sampleOutcome s (s.parcel p) c ≠ 0 then
        (s'.parcel p).ctl =
          { (s.parcel p).ctl with held := none, resultOutcome := sampleOutcome s (s.parcel p) c, resultTick := s.now } ∧
        (s'.parcel p).tick = (s.parcel p).tick
      else if c = 0x10 then
        (s'.parcel p).tick = { (s.parcel p).tick with preemptPending := true } ∧
        (s'.parcel p).ctl = { (s.parcel p).ctl with held := none, sampledLast := true }
      else (s'.parcel p).ctl = { (s.parcel p).ctl with held := none, sampled := c, sampledLast := true } ∧
        (s'.parcel p).tick = (s.parcel p).tick

namespace Sys2Proof.Claims

open Sys2Proof Sys2Proof.Machine

/-! ### Legs (chapters 2, 5, 12, 15) -/

/-- The leg at the head of parcel `p`'s plan may be launched: committed and not launched yet, in a job that runs, with no
teardown under way (R32). -/
abbrev MayLaunch (s : State) (p : Nat) (l : Leg) (ls : List Leg) : Prop :=
  (s.parcel p).legs = l :: ls ∧ l.state = .committed ∧ l.launched = false ∧
  ((s.parcel p).ctl.job = .running ∨ (s.parcel p).ctl.job = .draining ∨ (s.parcel p).ctl.job = .saving) ∧
  (s.parcel p).ctl.tearingDown = none

/-- The leg saves or restores (R301). -/
abbrev Moves (l : Leg) : Prop := l.kind = .save ∨ l.kind = .restore

/-- The leg runs template `T` of the parcel's chart. -/
abbrev RunsTemplate (s : State) (p : Nat) (l : Leg) (T : LegTemplate) : Prop :=
  ¬ Moves l ∧ ∃ c, (s.parcel p).chart = some c ∧ findTemplate c l.template = some T

/-- What the needs of a leg post to cairn `j` of tile `t` (R381). -/
def needsPosted (s : State) (p : Nat) (needs : List RemoteNeed) (t j : Nat) : Nat :=
  ((needs.filter fun n => s.globalTile p n.tile = some t && n.cairn = j).map (·.amount)).sum

/-- What they take from counter `k`. -/
def needsTaken (needs : List RemoteNeed) (k : Nat) : Nat := ((needs.filter fun n => n.counter = k).map (·.amount)).sum

/-- Engine `e` of tile `t` stands at its launch: at its entry, its queue empty, its first issue and fetch in cycle 8, no loop
open, offset registers 0, nothing retired (R106, R109). -/
abbrev AtLaunch (s : State) (t e entry : Nat) (run : Bool) : Prop :=
  (s.engine t e).mode = (if run then .issuing else .idle) ∧ (s.engine t e).pc.toNat = entry ∧ (s.engine t e).nextIssue = 8 ∧
  (s.engine t e).fetchAt = 8 ∧ (s.engine t e).queue = [] ∧ (s.engine t e).loops = [] ∧ (s.engine t e).offs = [] ∧
  (s.engine t e).chans = [] ∧ (s.engine t e).retired = 0

/-- The running leg can complete: every engine has ended or halted with nothing under way, and its dump, if its launch record
asks for one, is written (R31, R110, R128). -/
abbrev MayComplete (s : State) (p : Nat) (l : Leg) : Prop :=
  s.runningLeg p = some l ∧ enginesDone s p = true ∧ (launchDump (legRecord s p) = true → l.dumped = true)

/-- The remote operations that a leg of template `T` hands over at its completion (R378). -/
def handedOver (s : State) (p : Nat) (T : LegTemplate) : List RemoteOp :=
  T.remoteList.zipIdx.map fun x =>
    { entry := withParams (legRecord s p) x.1, seq := (s.parcel p).remote.nextSeq + x.2 }

/-- Every dump record of parcel `p` can be read and written: its memories hold no uncorrectable byte where the scope takes
them, and its place in the dump area is stack memory that serves. -/
abbrev DumpGood (s : State) (p : Nat) (l : Leg) : Prop :=
  ∀ x, x ∈ (s.tilesOf p).zipIdx →
    ((s.parcel p).bisect.scope = 1 → scratchBadAt (s.tile x.1) 0 (scratchBytes x.1) = none ∧
      (isVectorTile x.1 = false → accBadAt (s.tile x.1) 0 accEntries = none)) ∧
    stackPieces s p ((s.parcel p).bisect.base.toNat + x.2 * dumpStride (s.parcel p).bisect)
      (dumpRecord s p x.2 x.1 l.tick l.template).length ≠ none

end Sys2Proof.Claims

/-- R31, R32, R81, R106, R108, R109, R114, R131, R301, R381. -/
def Obligations.LegsLaunch : Prop :=
  (∀ (s : State) (p : ParcelId) (record : BitVec 1024) (cyc : Nat) (l : Leg) (ls : List Leg) (T : LegTemplate),
    MayLaunch s p l ls → RunsTemplate s p l T → (T.dump = true → dumpInside s p = true) →
    (∀ t j, needsPosted s p T.needs t j ≤ 65535) →
    ∃ s', exec (.legLaunch p record cyc) s = .next s' ∧ (s'.parcel p).legs = { l with launched := true } :: ls ∧
      (∀ t, t ∈ s.tilesOf p →
        launchDump (s'.tile t).launch = T.dump ∧ fld (s'.tile t).launch.toNat 64 960 = fld record.toNat 64 960 ∧
        (s'.tile t).plane0 = .empty ∧ (s'.tile t).plane1 = .empty ∧
        (s'.tile t).scratch = (s.tile t).scratch ∧ (s'.tile t).acc = (s.tile t).acc ∧
        (∀ e, e < engineCount t → AtLaunch s' t e (T.entry.getD e 0).toNat (chartUses s p t)) ∧
        ∀ j, Tab.get 0 (s'.tile t).cairns j = needsPosted s p T.needs t j) ∧
      (∀ k, Tab.get RemoteCounter.zero (s'.parcel p).remote.counters k =
        { Tab.get RemoteCounter.zero (s.parcel p).remote.counters k with
          consumed := (Tab.get RemoteCounter.zero (s.parcel p).remote.counters k).consumed + needsTaken T.needs k }) ∧
      (∀ t, t ∉ s.tilesOf p → s'.tile t = s.tile t) ∧ (∀ q, q ≠ p.val → s'.parcel q = s.parcel q) ∧
      s' = { s with tiles := s'.tiles, parcels := s'.parcels }) ∧
  (∀ (s : State) (p : ParcelId) (record : BitVec 1024) (cyc : Nat) (l : Leg) (ls : List Leg) (T : LegTemplate) (t j : Nat),
    MayLaunch s p l ls → RunsTemplate s p l T → (T.dump = true → dumpInside s p = true) →
    t ∈ s.tilesOf p → s.tileParcel t = some p.val → 65535 < needsPosted s p T.needs t j →
    ∃ s', exec (.legLaunch p record cyc) s = .next s' ∧ (s'.engine t 0).mode = .faulted ∧
      fld (s'.engine t 0).faultRecord.toNat 0 8 = Cause.cairnOverflow.code ∧
      (s'.parcel p).legs = { l with launched := true, state := .faulted } :: ls) ∧
  (∀ (s : State) (p : ParcelId) (record : BitVec 1024) (cyc : Nat) (l : Leg) (ls : List Leg), MayLaunch s p l ls → Moves l →
    ∃ L, exec (.legLaunch p record cyc) s = .next (moveRanges L p l.kind) ∧
      (L.parcel p).legs = { l with launched := true, state := .running } :: ls ∧
      (∀ t e, t ∈ s.tilesOf p → e < engineCount t → (L.engine t e).mode = .idle) ∧
      (∀ t, (L.tile t).scratch = (s.tile t).scratch ∧ (L.tile t).acc = (s.tile t).acc) ∧
      L = { s with tiles := L.tiles, parcels := L.parcels } ∧ (lastManifest (s.parcel p) = [] → moveRanges L p l.kind = L)) ∧
  (∀ (s : State) (p : ParcelId) (record : BitVec 1024) (cyc : Nat) (l : Leg) (ls : List Leg) (T : LegTemplate),
    MayLaunch s p l ls → RunsTemplate s p l T → T.dump = true → dumpInside s p = false →
    ∃ s', exec (.legLaunch p record cyc) s = .next s' ∧ (s'.parcel p).ctl.tearingDown = some .tornDown ∧
      (s'.parcel p).legs = [] ∧ (s'.parcel p).nextPlan = none)

/-- R31, R110, R128, R130, R276, R378. -/
def Obligations.LegsCompleteAndDump : Prop :=
  (∀ (s b : State) (p : ParcelId) (tokens : List (Nat × Nat)) (late : Nat) (l : Leg) (T : LegTemplate),
    b = s.settleAll p → MayComplete b p l → RunsTemplate b p l T →
    ∃ s', exec (.legComplete p tokens late) s = .next s' ∧ WithinParcel b s' p ∧
      (s'.parcel p).legs = commitHead ((b.parcel p).legs.drop 1) ∧ (s'.parcel p).lastLeg = some l.template ∧
      (s'.parcel p).serving.finished = (b.parcel p).serving.finished ++ [{ l with state := .complete }] ∧
      (s'.parcel p).serving.sampled = (b.parcel p).serving.sampled ++
        (samples (b.parcel p).serving l tokens).map (fun t => ((b.parcel p).serving.finished.length, t.1, t.2)) ∧
      (s'.parcel p).remote.queue = (b.parcel p).remote.queue ++ handedOver b p T ∧
      (s'.parcel p).serving.gaz = (b.parcel p).serving.gaz) ∧
  (∀ (s b : State) (p : ParcelId) (tokens : List (Nat × Nat)) (late : Nat) (l : Leg),
    b = s.settleAll p → MayComplete b p l → Moves l →
    ∃ s', exec (.legComplete p tokens late) s = .next s' ∧ WithinParcel b s' p ∧
      (s'.parcel p).legs = commitHead ((b.parcel p).legs.drop 1) ∧ (s'.parcel p).serving = (b.parcel p).serving ∧
      (s'.parcel p).remote = (b.parcel p).remote ∧ (s'.parcel p).lastLeg = (b.parcel p).lastLeg) ∧
  (∀ (s b : State) (p : ParcelId) (l : Leg), b = s.settleAll p →
    b.runningLeg p = some l → launchDump (legRecord b p) = true → l.dumped = false → enginesDone b p = true → DumpGood b p l →
    ∃ s', exec (.legDump p) s = .next s' ∧ s'.stack = (writeDumps b p l.tick l.template).stack ∧
      (s'.parcel p).bisect = { (b.parcel p).bisect with
        tick := l.tick
        template := l.template
        count := min ((b.parcel p).bisect.count + 1) 0xFFFFFFFF } ∧
      (s'.parcel p).legs = { l with dumped := true } :: (b.parcel p).legs.drop 1 ∧ s'.tiles = b.tiles)

namespace Sys2Proof.Claims

open Sys2Proof Sys2Proof.Machine

/-! ### Rings (chapter 11) -/

/-- The steward may take the next entry of ring `r` of parcel `p`: the job is RUNNING, the host can be reached, the ring
is enabled with an entry in it, and it is the ring's turn (R266, R270, R295). -/
abbrev MayTake (s : State) (p r : Nat) : Prop :=
  (s.parcel p).ctl.job = .running ∧ hostOpen s p = true ∧ ringReady (s.parcel p).serving r = true ∧
  ((freeBuffer s p).isSome = true → nextSubRing (s.parcel p).serving = some r)

/-- The parcel's serving state with the entry at the head of ring `r` consumed. -/
def headTaken (V : Serving) (r : Nat) : Serving :=
  { V with
      nextRing := (r + 1) % 8
      subRings := Tab.modify Ring.init V.subRings r fun R => { R with head := R.head + 1 } }

/-- The serving state after a REFUSED completion. -/
def refused (V : Serving) (r reason : Nat) (tag : BitVec 32) (tick : Nat) : Serving :=
  { V with
      compRings := Tab.modify Ring.init V.compRings r fun R => { R with held := R.held ++ [refusal reason tag tick] }
      refusedTotal := V.refusedTotal + 1 }

/-- Parcel `p` has the serving state `V`; of the rest of it only the account of host transfers has grown, by one. -/
abbrev Served (s s' : State) (p : Nat) (V : Serving) : Prop :=
  s'.parcel p = { s.parcel p with
    serving := V
    acct := { (s.parcel p).acct with cur := Tab.modify 0 (s.parcel p).acct.cur 0x14 (· + 1) } } ∧
  WithinParcel s s' p

/-- What a row's entry does where it is not bad: a change to the serving state after the head has been taken. -/
def entryEffect (s : State) (p : Nat) (op : Nat) (e : BitVec 512) (V : Serving) : Serving :=
  let change (arg : Nat) : Serving :=
    { V with changes := V.changes ++ [{ opcode := op, tick := s.now, ring := Sub.ring e, hostTag := Sub.tag e, arg := arg }] }
  match op with
  | 0x01 | 0x03 =>
    match freeBuffer s p with
    | none => V
    | some b =>
      if fitsAlone s p e then { V with pending := V.pending ++ [{ raw := e, buf := b, shared := sharedFrom V e, since := none, waited := 0 }] }
      else refused V (Sub.ring e) 0x06 (Sub.tag e) s.now
  | 0x02 => { V with cancelled := V.cancelled ++ [Sub.tag e] }
  | 0x04 => change (Sub.handle e)
  | 0x05 => change (Sub.inset e)
  | 0x06 => change (Sub.inset e)
  | _ => V

/-- The row of a submission opcode (Table 11.5). -/
def entryRow (op : Nat) (p : ParcelId) (r : Fin 8) (e : BitVec 512) : Option Instr :=
  match op with
  | 0x00 => some (.submitNop p r e) | 0x01 => some (.submit p r e) | 0x02 => some (.cancel p r e)
  | 0x03 => some (.registerDatum p r e) | 0x04 => some (.releaseDatum p r e) | 0x05 => some (.insetPublish p r e)
  | 0x06 => some (.insetRetire p r e)
  | _ => none

/-- The oldest held completion of ring `r` can be written: the ring is enabled, has room, and the host can be reached
(R266, R329). -/
abbrev MayWrite (s : State) (p r : Nat) (h : HeldComp) (rest : List HeldComp) : Prop :=
  (Tab.get Ring.init (s.parcel p).serving.compRings r).held = h :: rest ∧
  (Tab.get Ring.init (s.parcel p).serving.compRings r).enable = true ∧ hostOpen s p = true ∧
  ((Tab.get Ring.init (s.parcel p).serving.compRings r).tail -
    (Tab.get Ring.init (s.parcel p).serving.compRings r).head).toNat <
    2 ^ (Tab.get Ring.init (s.parcel p).serving.compRings r).sizeLog2

/-- `n` bytes of prompt buffer `buf`, filled up to whole granules, lie in stack memory that serves (R14, R269). -/
abbrev BufferServes (s : State) (p buf n : Nat) : Prop :=
  (s.parcel p).serving.promptArea.toNat % 64 = 0 ∧
  stackPieces s p ((s.parcel p).serving.promptArea.toNat + buf * 0x100000) ((n + 63) / 64 * 64) ≠ none

end Sys2Proof.Claims

/-- R266, R267, R269, R270, R272, R283. -/
def Obligations.SubmissionEntriesAreConsumed : Prop :=
  (∀ (s : State) (p : ParcelId) (r : Fin 8) (tail : BitVec 32), accessOpen s (.tenant p) = true →
    ∃ s', exec (.doorbell p r tail) s = .next s' ∧ WithinParcel s s' p ∧
      s'.parcel p = { s.parcel p with serving := { (s.parcel p).serving with
        subRings := Tab.modify Ring.init (s.parcel p).serving.subRings r fun R => { R with tail := tail } } }) ∧
  (∀ (s : State) (p : ParcelId) (r : Fin 8), MayTake s p r →
    ∃ s', exec (.entryRead p r) s = .next s' ∧
      Served s s' p (refused (headTaken (s.parcel p).serving r) r 0x0E 0 s.now)) ∧
  (∀ (s : State) (p : ParcelId) (r : Fin 8) (op : Nat) (e : BitVec 512) (row : Instr), entryRow op p r e = some row →
    Sub.opcode e = op → MayTake s p r → (op = 0x01 ∨ op = 0x03 → (freeBuffer s p).isSome = true) →
    ∃ s', exec row s = .next s' ∧
      Served s s' p
        (if entryBad (s.parcel p).serving e then
          refused (headTaken (s.parcel p).serving r) (Sub.ring e) 0x07 (Sub.tag e) s.now
        else entryEffect s p op e (headTaken (s.parcel p).serving r)))

/-- R266, R269, R277. -/
def Obligations.PromptsAndCompletions : Prop :=
  (∀ (s : State) (p : ParcelId) (buf : Nat) (ts : List (BitVec 32)) (q : PendReq),
    (s.parcel p).serving.pending.find? (fun q => q.buf = buf && q.since.isNone) = some q → hostOpen s p = true →
    BufferServes s p buf (4 * min ts.length (Sub.len q.raw - q.shared)) →
    ∃ s', exec (.promptReadDone p buf (some ts)) s = .next s' ∧
      (s'.parcel p).serving.pending = (s.parcel p).serving.pending.map
        (fun x => if x.buf = buf then { x with since := some (s.now + 1) } else x) ∧
      (s'.parcel p).serving.compRings = (s.parcel p).serving.compRings ∧ s'.tiles = s.tiles) ∧
  (∀ (s : State) (p : ParcelId) (buf : Nat) (q : PendReq),
    (s.parcel p).serving.pending.find? (fun q => q.buf = buf && q.since.isNone) = some q → hostOpen s p = true →
    ∃ s', exec (.promptReadDone p buf none) s = .next s' ∧ WithinParcel s s' p ∧
      (s'.parcel p).serving = refused { (s.parcel p).serving with
        pending := (s.parcel p).serving.pending.filter (fun x => x.buf ≠ buf) } (Sub.ring q.raw) 0x0C (Sub.tag q.raw) s.now) ∧
  (∀ (s : State) (p : ParcelId) (r : Fin 8) (h : HeldComp) (rest : List HeldComp), MayWrite s p r h rest →
    (let R := Tab.get Ring.init (s.parcel p).serving.compRings r
     let late := lateNow s p h
     ∃ s', exec (.completionWrite p r) s = .next s' ∧ s' = { s with parcels := s'.parcels, sent := s'.sent } ∧
       s'.sent = s.sent ++ [.completion p r (BitVec.ofNat 32 (R.tail.toNat % 2 ^ R.sizeLog2))
         (h.entry ||| (if R.tail.toNat / 2 ^ R.sizeLog2 % 2 = 0 then 0x100 else 0) ||| (if late then 0x200 else 0))
         ((s.parcel p).sec.tdi = .run)] ∧
       (Tab.get Ring.init (s'.parcel p).serving.compRings r).tail = R.tail + 1 ∧
       (Tab.get Ring.init (s'.parcel p).serving.compRings r).added = true ∧
       (Tab.get Ring.init (s'.parcel p).serving.compRings r).held.length = rest.length ∧
       (Tab.get Ring.init (s'.parcel p).serving.compRings r).head = R.head ∧
       (s'.parcel p).serving.tokensDelivered =
         (s.parcel p).serving.tokensDelivered + (if isToken h then 1 else 0) ∧
       (s'.parcel p).serving.lateDeliveries = (s.parcel p).serving.lateDeliveries + (if late then 1 else 0) ∧
       (s'.parcel p).serving.pending = (s.parcel p).serving.pending ∧ ∀ i, i ≠ p.val → s'.parcel i = s.parcel i))

namespace Sys2Proof.Claims

open Sys2Proof Sys2Proof.Machine

/-! ### Parcels, jobs, retirement and settings (chapters 2, 12, 14) -/

/-- The status sent for a write to an object, and nothing else sent. -/
abbrev Answered (s s' : State) (who : Principal) (index sub : Nat) (st : Status) : Prop :=
  s'.sent = s.sent ++ [.status who index sub st]

/-- A write that ends with status `st` and changes nothing. -/
abbrev NoEffect (s s' : State) (who : Principal) (index sub : Nat) (st : Status) : Prop :=
  s' = { s with sent := s.sent ++ [.status who index sub st] }

/-- The row of a job command (Table 12.3). -/
def jobRow (code : Nat) (who : Principal) (p : ParcelId) : Option Instr :=
  match code with
  | 0x01 => some (.seal who p) | 0x02 => some (.start who p) | 0x03 => some (.jobEnd who p) | 0x04 => some (.abort who p)
  | 0x10 => some (.preempt who p) | 0x11 => some (.resume who p) | 0x12 => some (.stop who p)
  | 0x13 => some (.release who p)
  | _ => none

/-- The command acts at the write, not at a boundary (R294). -/
def atOnce (code : Nat) : Bool := code = 0x04 || code = 0x12

/-- A mask that PARCEL_SECTORS of parcel `p` accepts (R293): the parcel is FREE with no mask waiting, the lowest sector is
the parcel's number, and every named sector is free, serviceable and has no channel CLEARING or under test; across the two
dies only over a sound bridge. -/
abbrev MaskAccepted (s : State) (p : Nat) (m : BitVec 16) : Prop :=
  (s.parcel p).ctl.mode = .free ∧ (s.parcel p).ctl.pendingMask = none ∧ (maskBits m).head? = some p ∧
  (∀ k, k ∈ maskBits m → sectorTaken s k = false ∧ unserviceable s k = false ∧
    ∀ c, c ∈ sectorChannels k → channelBusy s c = false) ∧
  (s.bridgeFailed = true → (∀ k, k ∈ maskBits m → k < 8) ∨ ∀ k, k ∈ maskBits m → 8 ≤ k)

/-- A retirement on channel `c` is done: R365's conditions hold, none of them refused. -/
abbrev RetireFits (s : State) (c : Nat) (known : Bool) (overlaps : Bool) : Prop :=
  retireAllowed s (channelSector c) = true ∧ known = false ∧ overlaps = false

/-- Sector `k` is now `K`, a record of it is offered, and nothing else has changed. -/
abbrev SectorRetires (s s' : State) (k : Nat) (K : Sector) : Prop :=
  s'.sector k = K ∧ (∀ j, j ≠ k → s'.sector j = s.sector j) ∧
  s' = { s with sectors := s'.sectors, log := s'.log, irq := s'.irq, sent := s'.sent } ∧ s'.sent = s.sent

/-- The sector is still serviceable, or no live job holds it (R314). -/
abbrev StaysUp (s : State) (k : Nat) : Prop :=
  unserviceable s k = false ∨ ∀ p, sectorOwner s k = some p → jobLive (s.parcel p) = false

end Sys2Proof.Claims

/-- R294, R305, R306. -/
def Obligations.JobCommandsAct : Prop :=
  ∀ (s : State) (who : Principal) (p : ParcelId) (code : Nat) (row : Instr), jobRow code who p = some row →
    reachesParcel who p = true → Answers s who (0x3060 + p) →
    ∃ s', exec row s = .next s' ∧ Answered s s' who (0x3060 + p) 0x03 .ok ∧
      (s'.parcel p).ctl.resultCommand = BitVec.ofNat 8 code ∧ (s'.parcel p).ctl.resultTick = s.now ∧
      if atOnce code = false then
        (s'.parcel p).ctl = { (s.parcel p).ctl with
          held := some (BitVec.ofNat 8 code)
          heldBy := who
          sampledLast := false
          resultCommand := BitVec.ofNat 8 code
          resultOutcome := 0
          resultTick := s.now } ∧
        s' = { s with parcels := s'.parcels, irq := s'.irq, sent := s'.sent }
      else if principalFits who code = false then
        (s'.parcel p).ctl.resultOutcome = 3 ∧ (s'.parcel p).legs = (s.parcel p).legs ∧ s'.tiles = s.tiles
      else if commandValid (s.parcel p) code = false then
        (s'.parcel p).ctl.resultOutcome = 2 ∧ (s'.parcel p).legs = (s.parcel p).legs ∧ s'.tiles = s.tiles
      else
        (s'.parcel p).ctl.resultOutcome = 1 ∧ (s'.parcel p).legs = [] ∧ (s'.parcel p).nextPlan = none ∧
        (s'.parcel p).ctl.tearingDown = some .tornDown ∧
        fld (s'.parcel p).ctl.teardownRecord.toNat 48 8 = (if code = 0x04 then 0x05 else 0x04)

/-- R293, R312 to R314, R365. -/
def Obligations.MasksAndRetirements : Prop :=
  (∀ (s : State) (p : ParcelId) (m : BitVec 16), m ≠ 0 → MaskAccepted s p m → Answers s .operator (0x3060 + p) →
    ∃ s', exec (.parcelSectors .operator p m.toNat) s = .next s' ∧ Answered s s' .operator (0x3060 + p) 0x01 .ok ∧
      (s'.parcel p).ctl = { (s.parcel p).ctl with pendingMask := some m } ∧
      s' = { s with parcels := s'.parcels, sent := s'.sent } ∧ ∀ q, q ≠ p.val → s'.parcel q = s.parcel q) ∧
  (∀ (s : State) (p : ParcelId) (m : BitVec 16), m ≠ 0 → ¬ MaskAccepted s p m → Answers s .operator (0x3060 + p) →
    ∃ s', exec (.parcelSectors .operator p m.toNat) s = .next s' ∧ NoEffect s s' .operator (0x3060 + p) 0x01 .refused) ∧
  (∀ (s : State) (p : ParcelId), (s.parcel p).ctl.mode = .defined → Answers s .operator (0x3060 + p) →
    ∃ s', exec (.parcelSectors .operator p 0) s = .next s' ∧ Answered s s' .operator (0x3060 + p) 0x01 .ok ∧
      (s'.parcel p).ctl = { (s.parcel p).ctl with pendingRelease := true }) ∧
  (∀ (s : State) (k : SectorId) (v : Nat), v < 32 → retireAllowed s k = true → Answers s .operator (0x3040 + k) →
    (s.sector k).retiredTiles.getLsbD v = false →
    ∃ s', exec (.retireTile .operator k v) s = .next ((dropUnserviceable s' k 0x01).send (.status .operator (0x3040 + k) 0x04 .ok)) ∧
      SectorRetires s s' k { s.sector k with retiredTiles := (s.sector k).retiredTiles ||| ((1 : BitVec 32) <<< v) } ∧
      (StaysUp s' k → dropUnserviceable s' k 0x01 = s')) ∧
  (∀ (s : State) (k : SectorId) (v : Nat), v < 24 → retireAllowed s k = true → Answers s .operator (0x3040 + k) →
    (s.sector k).retiredChannels.getLsbD v = false →
    ∃ s', exec (.retireChannel .operator k v) s =
        .next ((dropUnserviceable s' k 0x02).send (.status .operator (0x3040 + k) 0x05 .ok)) ∧
      SectorRetires s s' k { s.sector k with retiredChannels := (s.sector k).retiredChannels ||| ((1 : BitVec 24) <<< v) } ∧
      (StaysUp s' k → dropUnserviceable s' k 0x02 = s')) ∧
  (∀ (s : State) (k : SectorId), retireAllowed s k = true → (s.sector k).stewardRetired = false →
    Answers s .operator (0x3040 + k) →
    ∃ s', exec (.retireSteward .operator k 1) s = .next (s'.send (.status .operator (0x3040 + k) 0x06 .ok)) ∧
      SectorRetires s s' k { s.sector k with stewardRetired := true }) ∧
  (∀ (s : State) (c : ChannelId) (v : Nat),
    RetireFits s c ((s.channel c).retiredPages.contains v) (heldOverlap s c fun x => x / 32 = v) → v < 768 →
    (s.channel c).retiredPages.length < 256 → Answers s .operator (0x4000 + c) →
    ∃ s', exec (.retirePage .operator c v) s = .next s' ∧ Answered s s' .operator (0x4000 + c) 0x40 .ok ∧
      s'.channel c = { s.channel c with retiredPages := (s.channel c).retiredPages ++ [v], retireResult := 0 } ∧
      (∀ j, j ≠ c.val → s'.channel j = s.channel j) ∧
      s' = { s with channels := s'.channels, log := s'.log, irq := s'.irq, sent := s'.sent }) ∧
  (∀ (s : State) (c : ChannelId) (v : Nat),
    RetireFits s c ((s.channel c).retiredPairs.contains v) (heldOverlap s c fun x => x % 64 = v) → v < 64 → Answers s .operator (0x4000 + c) →
    ∃ s', exec (.retirePair .operator c v) s = .next s' ∧ Answered s s' .operator (0x4000 + c) 0x41 .ok ∧
      s'.channel c = { s.channel c with retiredPairs := (s.channel c).retiredPairs ++ [v], retireResult := 0 } ∧
      (∀ j, j ≠ c.val → s'.channel j = s.channel j) ∧
      s' = { s with channels := s'.channels, log := s'.log, irq := s'.irq, sent := s'.sent })

/-- R19, R40, R354, R360, R314. -/
def Obligations.SettingsLogAndFabricFailures : Prop :=
  (∀ (s : State) (v : Nat), v < 256 → Answers s .operator 0x3000 →
    ∃ s', exec (.intervalSteps .operator v) s = .next s' ∧
      if allFree s = true ∧ 2 ≤ v ∧ v ≤ 32 then
        s' = { s with
          mer := { s.mer with pendingSteps := some v }
          sent := s.sent ++ [.status .operator 0x3000 0x01 .ok] }
      else NoEffect s s' .operator 0x3000 0x01 .refused) ∧
  (∀ (s : State) (v : Nat), v < 256 → Answers s .operator 0x7000 →
    ∃ s', exec (.bucketDepth .operator v) s = .next s' ∧
      if 1 ≤ v ∧ v ≤ 64 then
        s' = { s with
          log := { s.log with pendingDepth := some v }
          sent := s.sent ++ [.status .operator 0x7000 0x08 .ok] }
      else NoEffect s s' .operator 0x7000 0x08 .refused) ∧
  (∀ (s : State) (p : ParcelId), (s.parcel p).tick.overrun = true → Answers s (.tenant p) (0x3020 + p) →
    ∃ s', exec (.overrunClear (.tenant p) p 1) s = .next s' ∧ Answered s s' (.tenant p) (0x3020 + p) 0x01 .ok ∧
      s' = { s with parcels := s'.parcels, sent := s'.sent } ∧
      if (s.parcel p).tick.late = true then s'.parcel p = s.parcel p
      else s'.parcel p = { s.parcel p with
        tick := { (s.parcel p).tick with overrun := false }
        serving := { (s.parcel p).serving with renew := true } }) ∧
  (∀ (s : State) (r : LogRec) (rest : List LogRec), s.log.queue = r :: rest →
    (let loses := match Tab.find s.log.slots (s.log.nextSeq % 4096) with
       | some x => decide (s.log.ackSeq < x.2)
       | none => false
     ∃ s', exec .logWrite s = .next s' ∧ Tab.find s'.log.slots (s.log.nextSeq % 4096) = some (r, s.log.nextSeq) ∧
       s'.log.nextSeq = s.log.nextSeq + 1 ∧ s'.log.queue = rest ∧
       s'.log.lost = s.log.lost + (if loses then 1 else 0) ∧ s'.log.ackSeq = s.log.ackSeq ∧
       s' = { s with log := s'.log, irq := s'.irq })) ∧
  (∀ (s : State) (d : DieId), ∃ s', exec (.spineFailure d) s = .next s' ∧ Tab.get false s'.spineFailed d = true ∧
    (∀ i, i ≠ d.val → Tab.get false s'.spineFailed i = Tab.get false s.spineFailed i) ∧
    s'.bridgeFailed = s.bridgeFailed ∧
    ∀ (p : ParcelId) (k : SectorId), sectorOwner s k = some p.val → dieOfSector k = d.val →
      jobLive (s.parcel p) = true →
      (s'.parcel p).legs = [] ∧ (s'.parcel p).nextPlan = none ∧ (s'.parcel p).ctl.tearingDown = some .tornDown) ∧
  (∀ (s : State) (d : DieId) (p : ParcelId),
    (∀ k : SectorId, sectorOwner s k = some p.val → dieOfSector k ≠ d.val ∧ unserviceable s k = false) →
    ∃ s', exec (.spineFailure d) s = .next s' ∧ s'.parcel p = { s.parcel p with acct := (s'.parcel p).acct }) ∧
  (∀ s : State, ∃ s', exec .bridgeFailure s = .next s' ∧ s'.bridgeFailed = true ∧ s'.spineFailed = s.spineFailed ∧
    ∀ (p : ParcelId) (k : SectorId), sectorOwner s k = some p.val → 8 ≤ k.val → jobLive (s.parcel p) = true →
      (s'.parcel p).legs = [] ∧ (s'.parcel p).nextPlan = none ∧ (s'.parcel p).ctl.tearingDown = some .tornDown)

namespace Sys2Proof.Claims

open Sys2Proof Sys2Proof.Machine

/-! ### The Cartouche (chapter 13) -/

/-- The content key that the header unwraps to under the parcel's delivery key, if there is one (R332). -/
def unwrapped (s : State) (p : Nat) (h : BitVec 2048) : Option (BitVec 256) :=
  if (s.parcel p).sec.dk = 0 then none else Config.unwrapKey (s.parcel p).sec.dk (s.parcel p).sec.sealNonce p h

/-- The delivery of parcel `p` has ended with a result of Table 13.8 in state `st`. -/
abbrev DeliveryEnded (s' : State) (p result st : Nat) : Prop :=
  (s'.parcel p).sec.delivery = none ∧ (s'.parcel p).sec.result = result ∧ (s'.parcel p).sec.state = st

/-- A chunk of delivery `d` that the Cartouche can judge: the bundle may go on, the chunk's descriptor is in range, its
ciphertext is whole, and the last chunk of a chart comes with the chart its bytes spell (R333, R334). -/
abbrev ChunkReady (s : State) (p : Nat) (d : Delivery) (x : BitVec 512) (bytes : List Byte) (chart : Option Chart) : Prop :=
  (s.parcel p).sec.delivery = some d ∧ hostOpen s p = true ∧ insetBarred (s.parcel p) d = false ∧ Chunk.ok d.kind x = true ∧
  bytes.length = Chunk.len x ∧ (d.kind = 0 → d.next + 1 = d.chunks → chart.isSome = true)

/-- The part of the chunk that moves now: where it goes, and its decrypted bytes (R334, R335). -/
def partAt (d : Delivery) (x : BitVec 512) : Nat := Chunk.dest x + d.moved
def partBytes (s : State) (p : Nat) (d : Delivery) (x : BitVec 512) (bytes : List Byte) : List Byte :=
  ((cryptChunk d.key d.next bytes).drop d.moved).take (chunkStep (s.parcel p) d (Chunk.len x))

/-- Nothing on the way to the part's place is DISCONNECTED, and its write is not refused (R14, R196, R405). -/
abbrev PartFits (s : State) (p : Nat) (d : Delivery) (x : BitVec 512) (bytes : List Byte) : Prop :=
  rangeCut s p (partAt d x) (chunkStep (s.parcel p) d (Chunk.len x)) = none ∧
  (stewardWrite s p 5 (partAt d x) (partBytes s p d x bytes)).2 = none

/-- The chunk's tag and its destination pass (R332, Table 13.7). -/
abbrev ChunkPasses (s : State) (p : Nat) (d : Delivery) (x : BitVec 512) (bytes : List Byte) : Prop :=
  Config.gcmTag d.key d.next
    [(s.parcel p).sec.sealNonce.toNat, d.bundleId.toNat, d.next, Chunk.tensor x, Chunk.dest x, Chunk.len x] bytes =
    Chunk.tag x ∧
  chunkDestOk s p d (Chunk.tensor x) (Chunk.dest x) (Chunk.len x) = true

/-- The tag that the chunk must carry (R332). -/
def wantedTag (s : State) (p : Nat) (d : Delivery) (x : BitVec 512) (bytes : List Byte) : BitVec 128 :=
  Config.gcmTag d.key d.next
    [(s.parcel p).sec.sealNonce.toNat, d.bundleId.toNat, d.next, Chunk.tensor x, Chunk.dest x, Chunk.len x] bytes

/-- The Cartouche may export for parcel `p` (R337). -/
abbrev MayExport (s : State) (p : Nat) (r : ExportRequest) : Prop :=
  (s.parcel p).ctl.job = .preempted ∧ (s.parcel p).sec.exporting = none ∧ exportOk s p r = true ∧
  s.cart.keysAlive = true

/-- Every key of the Cartouche is gone (R319, R346). -/
abbrev Zeroised (s' : State) : Prop :=
  s'.cart.keysAlive = false ∧ s'.cart.sessions = [] ∧ s'.cart.held = [] ∧ s'.cart.linkIde = false ∧ s'.cart.linkKey = 0 ∧
  ∀ p, p < 16 → (s'.parcel p).sec.dk = 0 ∧ (s'.parcel p).sec.ideSecure = false ∧ (s'.parcel p).sec.ideKey = 0 ∧
    (s'.parcel p).sec.exporting = none

end Sys2Proof.Claims

/-- R332 to R336. -/
def Obligations.DeliveriesRun : Prop :=
  (∀ (s : State) (p : ParcelId) (a : BitVec 64) (h : BitVec 2048), a.toNat % 4096 = 0 →
    (s.parcel p).sec.delivery = none → Answers s (.tenant p) (0x8010 + p) →
    ∃ s', exec (.deliveryStart (.tenant p) p a (some h)) s = .next s' ∧
      Answered s s' (.tenant p) (0x8010 + p) 0x05 .ok ∧ s'.stack = s.stack ∧
      (Hdr.kind h = 0 → (s'.parcel p).sec.chartVerified = false) ∧
      if headerResult (s.parcel p) h ≠ 0 then DeliveryEnded s' p (headerResult (s.parcel p) h) 4
      else match unwrapped s p h with
        | none => DeliveryEnded s' p 0x02 4
        | some k =>
          (s'.parcel p).sec.state = 2 ∧ (s'.parcel p).sec.bytesDelivered = 0 ∧
          (s'.parcel p).sec.usedIds = (s.parcel p).sec.usedIds ++ [Hdr.bundle h] ∧
          ∃ d, (s'.parcel p).sec.delivery = some d ∧ d.key = k ∧ d.kind = Hdr.kind h ∧ d.chunks = Hdr.chunks h ∧
            d.bundleId = Hdr.bundle h ∧ d.next = 0 ∧ d.moved = 0 ∧ d.plain = [] ∧ d.aborting = false) ∧
  (∀ (s : State) (p : ParcelId) (a : BitVec 64), a.toNat % 4096 = 0 → (s.parcel p).sec.delivery = none →
    Answers s (.tenant p) (0x8010 + p) →
    ∃ s', exec (.deliveryStart (.tenant p) p a none) s = .next s' ∧ DeliveryEnded s' p 0x06 4 ∧ s'.stack = s.stack) ∧
  (∀ (s : State) (p : ParcelId) (a : BitVec 64) (h : Option (BitVec 2048)),
    a.toNat % 4096 ≠ 0 ∨ (s.parcel p).sec.delivery.isSome = true → Answers s (.tenant p) (0x8010 + p) →
    ∃ s', exec (.deliveryStart (.tenant p) p a h) s = .next s' ∧ NoEffect s s' (.tenant p) (0x8010 + p) 0x05 .refused) ∧
  (∀ (s : State) (p : ParcelId) (d : Delivery) (x : BitVec 512) (bytes : List Byte) (chart : Option Chart),
    ChunkReady s p d x bytes chart → ¬ ChunkPasses s p d x bytes →
    ∃ s', exec (.deliveryChunk p (some x) (some bytes) chart) s = .next s' ∧ s'.stack = s.stack ∧
      if wantedTag s p d x bytes ≠ Chunk.tag x then DeliveryEnded s' p 0x01 4
      else DeliveryEnded s' p (if d.kind = 1 then 0x04 else 0x08) 4) ∧
  (∀ (s : State) (p : ParcelId) (d : Delivery) (x : BitVec 512) (bytes : List Byte) (chart : Option Chart),
    ChunkReady s p d x bytes chart → ChunkPasses s p d x bytes → PartFits s p d x bytes →
    (let n := chunkStep (s.parcel p) d (Chunk.len x)
     ∃ s', exec (.deliveryChunk p (some x) (some bytes) chart) s = .next s' ∧
       s'.stack = (stewardWrite s p 5 (partAt d x) (partBytes s p d x bytes)).1.stack ∧
       (s'.parcel p).sec.bytesDelivered = (s.parcel p).sec.bytesDelivered + n ∧
       if d.moved + n < Chunk.len x then
         (s'.parcel p).sec.delivery = some { d with moved := d.moved + n, credit := d.credit - n }
       else if d.next + 1 = d.chunks then
         DeliveryEnded s' p 0x00 3 ∧ (s'.parcel p).sec.bundles.length = (s.parcel p).sec.bundles.length + 1
       else if d.aborting = true then DeliveryEnded s' p 0x09 5
       else (s'.parcel p).sec.delivery = some { d with
         next := d.next + 1
         plain := d.plain ++ cryptChunk d.key d.next bytes
         credit := d.credit - n
         moved := 0 })) ∧
  (∀ (s : State) (p : ParcelId) (d : Delivery) (x : Option (BitVec 512)) (bytes : Option (List Byte)) (chart : Option Chart),
    (s.parcel p).sec.delivery = some d → hostOpen s p = true → insetBarred (s.parcel p) d = true →
    ∃ s', exec (.deliveryChunk p x bytes chart) s = .next s' ∧ s'.stack = s.stack ∧ DeliveryEnded s' p 0x05 4) ∧
  (∀ (s : State) (p : ParcelId) (d : Delivery), (s.parcel p).sec.delivery = some d → Answers s (.tenant p) (0x8010 + p) →
    ∃ s', exec (.deliveryAbort (.tenant p) p 1) s = .next s' ∧ Answered s s' (.tenant p) (0x8010 + p) 0x06 .ok ∧
      (s'.parcel p).sec = { (s.parcel p).sec with delivery := some { d with aborting := true } } ∧
      s' = { s with parcels := s'.parcels, sent := s'.sent })

/-- R319, R337, R345 to R347. -/
def Obligations.ExportsAndTamper : Prop :=
  (∀ (s : State) (p : ParcelId) (r : ExportRequest), MayExport s p r → Answers s (.tenant p) (0x8010 + p) →
    (let key := Config.random256 s.fresh
     let eph := s.fresh + 1
     ∃ s', exec (.exportAuth (.tenant p) p r) s = .next s' ∧
       s'.sent = s.sent ++ [.exportHeader p r.address (exportHeader r (Config.publicPoint eph)
         (Config.wrapKey r.dkPublic r.nonce r.serial r.parcel r.bundleId eph key))
           ((s.parcel p).sec.tdi = .run),
         .status (.tenant p) (0x8010 + p) 0x08 .ok] ∧
       (s'.parcel p).sec.exporting = (if r.regions = [] then none else some ⟨r, key, 0, 0, 0⟩) ∧
       s'.fresh = s.fresh + 2 ∧ s'.stack = s.stack ∧ s' = { s with parcels := s'.parcels, sent := s'.sent, fresh := s'.fresh })) ∧
  (∀ (s : State) (p : ParcelId) (x : Export) (base len : Nat), (s.parcel p).sec.exporting = some x → hostOpen s p = true →
    x.request.regions[x.region]? = some (base, len) → rangeCut s p (base + x.pos) (min 0x100000 (len - x.pos)) = none →
    (let n := min 0x100000 (len - x.pos)
     let r := stewardRead s p 5 (base + x.pos) n false
     ∃ s', exec (.exportChunk p) s = .next s' ∧ s' = { r.1 with parcels := s'.parcels, sent := s'.sent } ∧
       match r.2 with
       | .error _ => (s'.parcel p).sec.exporting = none ∧ s'.sent = s.sent
       | .ok plain =>
         s'.sent = s.sent ++ [.exportChunk p x.chunk (base + x.pos) n (cryptChunk x.key x.chunk plain)
           (Config.gcmTag x.key x.chunk [x.request.nonce.toNat, x.request.bundleId.toNat, x.chunk, 0, base + x.pos, n]
             (cryptChunk x.key x.chunk plain)) ((s.parcel p).sec.tdi = .run)] ∧
         (s'.parcel p).sec.exporting =
           if x.pos + n < len then some { x with chunk := x.chunk + 1, pos := x.pos + n }
           else if x.request.regions.length ≤ x.region + 1 then none
           else some { x with chunk := x.chunk + 1, region := x.region + 1, pos := 0 })) ∧
  (∀ (s : State) (sources : List TamperSource) (keyOp : Bool), sources ≠ [] → s.supply.v3p3 = true →
    ∃ s', exec (.tamperEvent sources keyOp) s = .next s' ∧ Zeroised s' ∧ s'.cart.tamperSeen = true ∧
      (∀ i, s.cart.tamper.getLsbD i = true → s'.cart.tamper.getLsbD i = true) ∧
      (∀ x, x ∈ sources → s'.cart.tamper.getLsbD (tamperBit x) = true) ∧
      (∀ i, i ∈ tamperWhere s keyOp → s'.cart.tamper.getLsbD i = true) ∧
      (s.cart.tamperSeen = true → s'.cart.tamperTick = s.cart.tamperTick) ∧
      (isReleased s = true → s.supply.v48 = true →
        s'.cart.result = 4 ∧ ∀ p, p < 16 → (s'.parcel p).sec.tdi = .error ∧
          ((s.parcel p).ctl.mode ≠ .free → (s'.parcel p).ctl.pendingRelease = true)))

namespace Sys2Proof.Claims

open Sys2Proof Sys2Proof.Machine

/-! ### The SPDM responder (chapter 13) -/

/-- The answer `r` is held for its latency, behind the others; nothing else has changed but the count of draws. -/
abbrev Held (s s' : State) (tr ms : Nat) (r : Spdm) : Prop :=
  s' = { s with
    cart := { s.cart with held := s.cart.held ++ [⟨tr, ms, r⟩] }
    fresh := s'.fresh }

/-- The answer `r` is held, and the sessions are `xs`. -/
abbrev HeldSessions (s s' : State) (tr ms : Nat) (r : Spdm) (xs : List Session) : Prop :=
  s' = { s with
    cart := { s.cart with held := s.cart.held ++ [⟨tr, ms, r⟩], sessions := xs, nextSession := s'.cart.nextSession }
    fresh := s'.fresh }

/-- The sessions with one of them changed. -/
def changed (s : State) (n : Nat) (f : Session → Session) : List Session :=
  s.cart.sessions.map fun x => if x.id = n then f x else x

/-- The answer `r` is held, and parcel `p`'s security state is `c`. -/
abbrev HeldSec (s s' : State) (tr ms : Nat) (r : Spdm) (p : Nat) (c : ParcelSec) : Prop :=
  s'.cart = { s.cart with held := s.cart.held ++ [⟨tr, ms, r⟩] } ∧ s'.parcel p = { s.parcel p with sec := c } ∧
  (∀ q, q ≠ p → s'.parcel q = s.parcel q) ∧
  s' = { s with cart := s'.cart, parcels := s'.parcels, fresh := s'.fresh }

end Sys2Proof.Claims

/-- R323 to R326. -/
def Obligations.SpdmRequestsAreAnswered : Prop :=
  (∀ (s : State) (tr : Nat), spdmOpen s tr = true →
    (∃ s', exec (.getVersion tr) s = .next s' ∧ Held s s' tr 1 (.version [(1, 3), (1, 2)]) ∧ s'.fresh = s.fresh) ∧
    (∃ s' names, exec (.getCapabilities tr) s = .next s' ∧ Held s s' tr 1 (.capabilities names 13) ∧
      "CHUNK" ∈ names ∧ "HBEAT" ∈ names ∧ s'.fresh = s.fresh) ∧
    (∃ s' names, exec (.negotiateAlgorithms tr) s = .next s' ∧ Held s s' tr 1 (.algorithms names) ∧
      "SHA-384" ∈ names ∧ s'.fresh = s.fresh) ∧
    (∃ s', exec (.getDigests tr) s = .next s' ∧
      Held s s' tr 1 (.digests [(0, Config.sha384 (Config.certChain 0 0 0)),
        (1, Config.sha384 (Config.certChain 1 s.cart.aliasEpoch (aliasDigest s)))]) ∧ s'.fresh = s.fresh) ∧
    (∀ code, ∃ s', exec (.spdmUnsupported tr code) s = .next s' ∧ Held s s' tr 1 (.errorUnsupported code)) ∧
    (∀ slot offset length c, chainOf s slot = some c →
      ∃ s', exec (.getCertificate tr slot offset length) s = .next s' ∧
        if c.length < offset then Held s s' tr 1 .errorInvalid
        else Held s s' tr 1 (.certificate slot ((c.drop offset).take length) (c.length - offset - min length (c.length - offset)))) ∧
    (∀ slot nonce c, chainOf s slot = some c →
      ∃ s' own sig, exec (.challenge tr slot nonce) s = .next s' ∧ Held s s' tr 4 (.challengeAuth slot own sig) ∧
        own = Config.random256 s.fresh ∧ s'.fresh = s.fresh + 2) ∧
    (∀ block fn, blocksFor s tr fn block ≠ [] →
      (∃ s', exec (.getMeasurements tr block false fn) s = .next s' ∧
        Held s s' tr 1 (.measurements (blocksFor s tr fn block) none)) ∧
      (∃ s' sig, exec (.getMeasurements tr block true fn) s = .next s' ∧
        Held s s' tr 4 (.measurements (blocksFor s tr fn block) (some sig)))) ∧
    (∀ seq, ∃ s' portion, exec (.chunkGet tr seq) s = .next s' ∧ Held s s' tr 1 (.chunkResponse seq portion)) ∧
    (∀ seq data last, ∃ s', exec (.chunkSend tr seq last data) s = .next s' ∧
      s'.cart.held = s.cart.held ++ [⟨tr, 1, .chunkSendAck seq⟩] ∧
      Tab.get [] s'.cart.chunks tr = (if last then [] else Tab.get [] s.cart.chunks tr ++ data) ∧
      (∀ j, j ≠ tr → Tab.get [] s'.cart.chunks j = Tab.get [] s.cart.chunks j) ∧ s' = { s with cart := s'.cart })) ∧
  (∀ (s : State) (k : Nat) (h : SpdmHeld), s.cart.held[k]? = some h →
    (∀ x, x ∈ s.cart.held.take k → h.latencyMs < x.latencyMs) →
    ∃ s', exec (.spdmResponseRelease k) s = .next s' ∧ s'.sent = s.sent ++ [.spdm h.transport h.response] ∧
      s'.cart = { s.cart with held := s.cart.held.eraseIdx k } ∧ s'.parcels = s.parcels ∧
      ∀ p, mailboxOf h.transport = some p →
        (Tab.get VFun.init s'.vfs p).mailbox.ready = true ∧ (Tab.get VFun.init s'.vfs p).mailbox.busy = false)

/-- R327, R328, R330. -/
def Obligations.SessionsInterfacesAndStreams : Prop :=
  (∀ (s : State) (tr : Nat) (point : BitVec 776), spdmOpen s tr = true →
    ∃ s', exec (.keyExchange tr point) s = .next s' ∧
      if sessionsFull s tr = true then Held s s' tr 1 .errorSessionLimit
      else ∃ sig, HeldSessions s s' tr 8 (.keyExchangeRsp s.cart.nextSession (Config.publicPoint s.fresh) sig)
          (s.cart.sessions ++ [⟨s.cart.nextSession, tr, false, Config.random256 (s.fresh + 2)⟩]) ∧
        s'.cart.nextSession = s.cart.nextSession + 1) ∧
  (∀ (s : State) (tr n : Nat) (x : Session), spdmOpen s tr = true → findSession s tr n = some x →
    ∃ s', exec (.finish tr n) s = .next s' ∧
      HeldSessions s s' tr 2 (.finishRsp n) (changed s n fun x => { x with established := true }) ∧
      s'.cart.nextSession = s.cart.nextSession) ∧
  (∀ (s : State) (tr n : Nat) (x : Session), spdmOpen s tr = true → findSession s tr n = some x → x.established = true →
    (∃ s', exec (.keyUpdate tr n) s = .next s' ∧
      HeldSessions s s' tr 1 (.keyUpdateAck n) (changed s n fun x => { x with key := Config.random256 s.fresh })) ∧
    (∃ s', exec (.heartbeat tr n) s = .next s' ∧ Held s s' tr 1 (.heartbeatAck n) ∧ s'.fresh = s.fresh) ∧
    (∃ s', exec (.endSession tr n) s = .next s' ∧
      HeldSessions s s' tr 1 (.endSessionAck n) (s.cart.sessions.filter fun x => x.id ≠ n)) ∧
    (∀ (p : ParcelId) (key : BitVec 256) (go : Bool), tdispReach tr p = true →
      ∃ s', exec (.ideKm tr n (some p) key go) s = .next s' ∧
        HeldSec s s' tr 2 (.ideKmAck (p + 1)) p { (s.parcel p).sec with
          ideKey := key
          ideSecure := (s.parcel p).sec.ideSecure || go }) ∧
    (∀ key go, mailboxOf tr = none →
      ∃ s', exec (.ideKm tr n none key go) s = .next s' ∧ s'.cart.linkIde = (s.cart.linkIde || go) ∧ s'.cart.linkKey = key ∧
        s'.cart.held = s.cart.held ++ [⟨tr, 2, .ideKmAck 0⟩] ∧ s' = { s with cart := s'.cart })) ∧
  (∀ (s : State) (tr : Nat) (p : ParcelId), spdmOpen s tr = true → tdispReach tr p = true →
    (∃ s', exec (.lockInterfaceRequest tr p) s = .next s' ∧
      if (s.parcel p).ctl.mode = .sealed ∧ (s.parcel p).sec.ideSecure = true ∧ (s.parcel p).sec.tdi = .unlocked then
        HeldSec s s' tr 1 (.tdisp p 1 (some (Config.random256 s.fresh))) p { (s.parcel p).sec with tdi := .locked }
      else Held s s' tr 1 (.tdispError p)) ∧
    (∃ s', exec (.startInterfaceRequest tr p) s = .next s' ∧
      if (s.parcel p).sec.tdi = .locked then HeldSec s s' tr 1 (.tdisp p 2 none) p { (s.parcel p).sec with tdi := .run }
      else Held s s' tr 1 (.tdispError p)) ∧
    (∃ s', exec (.stopInterfaceRequest tr p) s = .next s' ∧
      HeldSec s s' tr 1 (.tdisp p 0 none) p { (s.parcel p).sec with tdi := .unlocked }) ∧
    (∃ s', exec (.getDeviceInterfaceReport tr p) s = .next s' ∧
      if (s.parcel p).sec.tdi = .locked ∨ (s.parcel p).sec.tdi = .run then
        ∃ ranges, Held s s' tr 1 (.interfaceReport p ranges) ∧ (0x0, 0x1000) ∈ ranges
      else Held s s' tr 1 (.tdispError p)))

namespace Sys2Proof.Claims

open Sys2Proof Sys2Proof.Machine

/-! ### Resets, supplies, boot and the host's functions (chapters 13, 16, 18, 19) -/

/-- What a reset leaves (Table 16.5): memory, tiles, units and parcels as at power-on, the meridian stopped at TICK 0; the
retirements, the tamper record and the flash banks stay, and the commands that wait. -/
abbrev Wiped (s s' : State) : Prop :=
  s'.stack = [] ∧ s'.stackErr = [] ∧ s'.tiles = [] ∧ s'.units = [] ∧ s'.posts = [] ∧ s'.launches = [] ∧ s'.lines = [] ∧
  s'.mer = Meridian.init ∧ s'.legend = Legend.init ∧ (∀ p, (s'.parcel p).ctl = ParcelCtl.init) ∧
  s'.sectors = s.sectors ∧
  (∀ c, c < 384 → (s'.channel c).retiredPages = (s.channel c).retiredPages ∧
    (s'.channel c).retiredPairs = (s.channel c).retiredPairs) ∧
  s'.cart.tamper = s.cart.tamper ∧ s'.cart.active = s.cart.active ∧ s'.cart.inactive = s.cart.inactive ∧
  s'.cart.securityVersion = s.cart.securityVersion ∧ s'.cart.keysAlive = false ∧ s'.cart.result = 0 ∧
  s'.pending = s.pending

/-- Boot may begin: both supplies are in range, the converters are on, nothing holds the module in reset, and it has not begun
(R320, R460). -/
abbrev MayBoot (s : State) : Prop :=
  s.supply.v48 = true ∧ s.supply.v3p3 = true ∧ s.supply.converters = true ∧ s.supply.inReset = false ∧ s.cart.result = 0 ∧
  s.cart.stage = 0

/-- Boot has come through stage 5 with no channel still in training (R411). -/
abbrev MayRelease (s : State) : Prop :=
  s.supply.v48 = true ∧ s.supply.v3p3 = true ∧ s.supply.converters = true ∧ s.supply.inReset = false ∧ s.cart.result = 0 ∧
  s.cart.stage = 5 ∧ ∀ x, x ∈ s.channels → x.2.training = false

/-- The epoch after a boot stage that derives the alias key (R322). -/
def nextEpoch (e : BitVec 32) : BitVec 32 := if e = 0xFFFFFFFF then e else e + 1

/-- The registers of every ring of parcel `p` are at their reset values (Table 11.3). -/
abbrev RingsReset (s' : State) (p : Nat) : Prop :=
  ∀ r, { Tab.get Ring.init (s'.parcel p).serving.subRings r with held := [] } = Ring.init ∧
    { Tab.get Ring.init (s'.parcel p).serving.compRings r with held := [] } = Ring.init

/-- Where the interface of parcel `p` was locked or running it is in ERROR, else it is as it was (R329). -/
abbrev InterfaceLeft (s s' : State) (p : Nat) : Prop :=
  (s'.parcel p).sec.tdi =
    (if (s.parcel p).sec.tdi = .locked ∨ (s.parcel p).sec.tdi = .run then .error else (s.parcel p).sec.tdi)

end Sys2Proof.Claims

/-- R320, R408, R409, R459 to R461, R464. -/
def Obligations.ResetsAndSupplies : Prop :=
  (∀ s : State, s.supply.v3p3 = false → ∃ s', exec .powerOnReset s = .next (boot s') ∧ Wiped s s' ∧
    s'.supply = { s.supply with
      v3p3 := true
      converters := s.supply.v48
      inReset := s.supply.resetLow
      flashJoined := s.supply.resetLow && s.supply.flashLow }) ∧
  (∀ s : State, s.supply.v48 = false → s.supply.v3p3 = true → s.supply.thermTrip = false →
    ∃ s', exec .v48InRange s = .next (boot s') ∧ Wiped s s' ∧ s'.clocks.resetCause = 1 ∧
      s'.supply = { s.supply with v48 := true, converters := true }) ∧
  (∀ s : State, s.supply.v48 = true → ∃ s', exec .v48Loss s = .next s' ∧ Wiped s s' ∧
    s'.supply = { s.supply with v48 := false, converters := false }) ∧
  (∀ (s : State) (mv us : Nat), s.supply.v48 = true →
    ∃ s', exec (.v48Dip mv us) s = .next s' ∧
      if 30000 ≤ mv ∧ us ≤ 2000 then s' = s
      else Wiped s s' ∧ s'.supply = { s.supply with v48 := false, converters := false }) ∧
  (∀ s : State, s.supply.v3p3 = true → ∃ s', exec .v3p3SbLoss s = .next s' ∧ Wiped s s' ∧ s'.supply.v3p3 = false ∧
    s'.supply.converters = false ∧ s'.supply.thermTrip = false ∧ s'.supply.v48 = s.supply.v48) ∧
  (∀ (s : State) (us : Nat), ∃ s', exec (.moduleResetN us) s = .next s' ∧
      if us < 1000 then s' = s
      else if s.supply.v3p3 = false then s' = { s with supply := { s.supply with resetLow := true } }
      else Wiped s s' ∧ s'.clocks.resetCause = 2 ∧
        s'.supply = { s.supply with resetLow := true, inReset := true, flashJoined := s.supply.flashLow }) ∧
  (∀ s : State, s.supply.resetLow = true → ∃ s', exec .moduleResetNRise s = .next (boot s') ∧
    s' = { s with supply := { s.supply with
      resetLow := false
      inReset := s.supply.flashJoined && s.supply.flashLow
      flashJoined := s.supply.flashJoined && s.supply.flashLow } }) ∧
  (∀ s : State, Answers s .operator 0x2000 →
    ∃ s', exec (.moduleReset .operator 0xA5) s = .next ((boot s').send (.status .operator 0x2000 0x05 .ok)) ∧ Wiped s s' ∧
      s'.clocks.resetCause = 3 ∧ s'.supply = s.supply ∧ s'.sent = s.sent) ∧
  (∀ (s : State) (ms : Nat), s.supply.v48 = false → 100 ≤ ms →
    ∃ s', exec (.thermTripRelease ms) s = .next s' ∧ s' = { s with supply := { s.supply with thermTrip := false } }) ∧
  (∀ (s : State) (images : List (Nat × FwImage)),
    (∃ s', exec (.flashExtN true images) s = .next s' ∧ s' = { s with supply := { s.supply with
      flashLow := true
      flashJoined := s.supply.flashJoined || (s.supply.resetLow && s.supply.v3p3) } }) ∧
    (∃ s', exec (.flashExtN false images) s = .next (boot s') ∧
      s'.supply = { s.supply with flashLow := false, flashJoined := false, inReset := s.supply.resetLow } ∧
      s'.cart = (if s.supply.flashJoined then { s.cart with
        active := images.foldl (fun t x => Tab.put t x.1 x.2) s.cart.active } else s.cart) ∧
      s' = { s with supply := s'.supply, cart := s'.cart }))

/-- R208, R320 to R322, R410, R411. -/
def Obligations.BootReleasesOrQuarantines : Prop :=
  (∀ s : State, MayBoot s → bootFailure s [1, 2, 3, 4] = none →
    (boot s).cart = { s.cart with stage := 5, aliasEpoch := nextEpoch s.cart.aliasEpoch } ∧
    (∀ c, c < 384 → (boot s).channel c = { s.channel c with training := true }) ∧
    boot s = { s with cart := (boot s).cart, channels := (boot s).channels }) ∧
  (∀ (s : State) (c r : Nat), MayBoot s → bootFailure s [1, 2, 3, 4] = some (c, r) →
    (boot s).cart.result = r ∧ (boot s).cart.failImage = imageBlock c ∧ (boot s).cart.stage = bootStage c ∧
    (r = 2 ∨ r = 3) ∧ (r = 2 ↔ (activeImage s c).signed = false) ∧
    (r = 3 → (activeImage s c).secVersion < s.cart.securityVersion) ∧
    (∀ q, q ∈ (boot s).ports → q.2.mode = .dark) ∧ boot s = { s with cart := (boot s).cart, ports := (boot s).ports }) ∧
  (∀ s : State, ¬ MayBoot s → boot s = s) ∧
  (∀ (s : State) (ms : Nat), MayRelease s →
    ∃ s', exec (.bootRelease ms) s = .next s' ∧ s'.mer = { s.mer with started := true } ∧ s'.cart.stage = 7 ∧
      s'.cart.result = 1 ∧ s'.cart.keysAlive = true ∧ s'.cart.aliasEpoch = s.cart.aliasEpoch ∧
      s'.clocks.releaseMs = min ms 0xFFFF ∧ s'.clocks.refA ≠ .unjudged ∧ s'.clocks.refB ≠ .unjudged ∧
      (∀ m, m < 4 → (lamp s m).present = true → (lamp s m).control = 1 → (lamp s' m).mode = .lit) ∧
      s'.stack = s.stack ∧ s'.tiles = s.tiles ∧ ∀ p, (s'.parcel p).ctl = (s.parcel p).ctl)

/-- R329, R330, R408, R446, R447. -/
def Obligations.FunctionsAndStreams : Prop :=
  (∀ (s : State) (kind : Fin 4), s.supply.converters = true →
    ∃ s', exec (.hostInterfaceReset kind) s = .next s' ∧
      (∀ p, p < 16 → vfun s' p = { VFun.init with present := false } ∧ (s'.parcel p).sec.ideSecure = false ∧
        RingsReset s' p ∧ InterfaceLeft s s' p) ∧
      s'.cart.linkIde = false ∧ s'.cart.linkKey = 0 ∧ s'.legend = { s.legend with refused := .init } ∧ (domain s' 4).disconnected = true ∧
      (domain s' 4).resets = min ((domain s 4).resets + 1) 0xFFFFFFFF) ∧
  (∀ (s : State) (p : ParcelId), (vfun s p).present = true →
    ∃ s', exec (.vfFlr p) s = .next s' ∧
      vfun s' p = { vfun s p with d0 := true, mailbox := .init, refused := .init } ∧ RingsReset s' p ∧
      InterfaceLeft s s' p ∧
      (jobLive (s.parcel p) = true → (s'.parcel p).ctl.tearingDown = some .tornDown ∧ (s'.parcel p).legs = []) ∧
      ∀ q, q ≠ p.val → vfun s' q = vfun s q ∧ s'.parcel q = { s.parcel q with acct := (s'.parcel q).acct }) ∧
  (∀ (s : State) (p : ParcelId) (present d0 : Bool), ∃ s', exec (.vfPowerState p present d0) s = .next s' ∧
    vfun s' p = { vfun s p with present := present, d0 := d0 } ∧ (∀ q, q ≠ p.val → vfun s' q = vfun s q) ∧
    s' = { s with vfs := s'.vfs }) ∧
  (∀ s : State, ∃ s', exec (.ideStreamInsecure none) s = .next s' ∧
    s' = { s with cart := { s.cart with linkIde := false, linkKey := 0 } }) ∧
  (∀ (s : State) (p : ParcelId), ∃ s', exec (.ideStreamInsecure (some p)) s = .next s' ∧
    (s'.parcel p).sec.ideSecure = false ∧ (s'.parcel p).sec.ideKey = 0 ∧ InterfaceLeft s s' p ∧ s'.vfs = s.vfs) ∧
  (∀ (s : State) (fn register : Nat), s.supply.converters = true → s.supply.inReset = false →
    ∃ s' v, exec (.configRequest fn register) s = .next s' ∧ s'.sent = s.sent ++ [.config fn register v] ∧
      s' = { s with sent := s'.sent, fresh := s'.fresh } ∧
      if isReleased s = false then v = none
      else if fn ≠ 0 ∧ (16 < fn ∨ (vfun s (fn - 1)).present = false) then v = some 0xFFFFFFFF
      else register = 0 → v = some ((if fn = 0 then 0x5A04 else 0x5A05) * 65536 + Config.pciVendorId.toNat))

namespace Sys2Proof.Claims

open Sys2Proof Sys2Proof.Machine

/-! ### Clocks (chapter 16) -/

/-- Only domain `n` of the clocks has changed, with the log and the interrupts waiting. -/
abbrev WithinDomain (s s' : State) (n : Nat) : Prop :=
  s' = { s with clocks := s'.clocks, log := s'.log, irq := s'.irq } ∧ ∀ i, i ≠ n → domain s' i = domain s i

/-- A domain is running or gated, so that it can coast or switch: not off, switching over or in reset (Table 16.12). -/
abbrev Settled (D : Domain) : Prop := D.state ≠ 0 ∧ D.state ≠ 4 ∧ D.state ≠ 5

/-- A domain on the forced path (R399): in its reset on the new reference, crossings disconnected, one more reset. -/
abbrev Forced (s' : State) (n target st : Nat) : Prop :=
  (domain s' n).state = st ∧ (domain s' n).ref = target ∧ (domain s' n).locked = false ∧
  (domain s' n).coasting = false ∧ (domain s' n).disconnected = true ∧ (domain s' n).switchResult = 0

/-- REF_SEL of `v` is accepted and is a switch (R397). -/
abbrev SwitchAccepted (s : State) (n v : Nat) : Prop :=
  domainExists n = true ∧ v ≤ 1 ∧ hasMux n = true ∧ refMode s v = .alive ∧ refMode s (domain s n).ref ≠ .dead ∧
  (domain s n).coasting = false ∧ Settled (domain s n) ∧ (domain s n).state ≠ 2 ∧ (domain s n).ref ≠ v

end Sys2Proof.Claims

/-- R391, R393, R399, R400. -/
def Obligations.ReferencesFailAndReturn : Prop :=
  (∀ (s : State) (r : Fin 2), refMode s r ≠ .dead →
    ∃ s', exec (.refDead r) s = .next s' ∧ refMode s' r = .dead ∧ refMode s' (1 - r.val) = refMode s (1 - r.val) ∧
      (if r.val = 0 then s'.clocks.deadTickA else s'.clocks.deadTickB) = s.now ∧ s'.stack = s.stack ∧
      s'.tiles = s.tiles ∧
      ∀ n, (n = 1 ∨ isOpt n = true) → (domain s n).ref = r.val → Settled (domain s n) →
        refMode s (1 - r.val) = .alive → Forced s' n (1 - r.val) 4) ∧
  (∀ (s : State) (v us : Nat), v = 1 ∨ v = 2 → refMode s (v - 1) = .dead → 10000 ≤ us →
    Answers s .operator 0x2000 →
    ∃ s', exec (.refClear .operator v us) s = .next s' ∧ Answered s s' .operator 0x2000 0x02 .ok ∧
      refMode s' (v - 1) = .alive ∧ refMode s' (2 - v) = refMode s (2 - v) ∧ s'.clocks.domains = s.clocks.domains ∧
      s' = { s with clocks := s'.clocks, log := s'.log, irq := s'.irq, sent := s'.sent }) ∧
  (∀ (s : State) (d : DomainId), domainExists d = true → hasPll d = true → (domain s d).coasting = false →
    Settled (domain s d) →
    ∃ s', exec (.pllCoast d) s = .next s' ∧ WithinDomain s s' d ∧
      domain s' d = { domain s d with
        state := if (domain s d).state = 2 then 2 else 3
        coasting := true
        coasted := true
        coastTick := true
        locked := false })

/-- R397 to R400, R406, R407. -/
def Obligations.ClockSwitches : Prop :=
  (∀ (s : State) (d : DomainId) (v : Nat), SwitchAccepted s d v → Answers s .operator (0x2100 + d) →
    ∃ s', exec (.refSel .operator d v) s = .next s' ∧ Answered s s' .operator (0x2100 + d) 0x02 .ok ∧
      domain s' d = { domain s d with state := 2, target := v, switchResult := 0 } ∧
      (∀ i, i ≠ d.val → domain s' i = domain s i) ∧ s' = { s with clocks := s'.clocks, sent := s'.sent }) ∧
  (∀ (s : State) (d : DomainId), domainExists d = true → (domain s d).state = 2 → refMode s (domain s d).ref ≠ .dead →
    refMode s (domain s d).target ≠ .dead →
    ∃ s', exec (.switchComplete d) s = .next s' ∧ WithinDomain s s' d ∧
      domain s' d = { domain s d with
        ref := (domain s d).target
        state := if (domain s d).coasting then 3 else if (domain s d).ownGate then 6 else 1 }) ∧
  (∀ (s : State) (d : DomainId), domainExists d = true → (domain s d).state = 2 →
    ∃ s', exec (.switchHung d) s = .next s' ∧ Forced s' d (domain s d).target 5 ∧ s'.stack = s.stack ∧
      s'.clocks.forcedSwitches = min (s.clocks.forcedSwitches + 1) 0xFFFFFFFF) ∧
  (∀ (s : State) (d : DomainId) (v : Nat), domainExists d = true → v ≤ 1 →
    isNet d = true ∨ isSect d = true ∨ isStk d = true → Answers s .operator (0x2100 + d) →
    (∀ p, p ∈ domainParcels s d → (s.parcel p).ctl.job = .none ∨ (s.parcel p).ctl.job = .tornDown) →
    ∃ s', exec (.forceSwitch .operator d v) s = .next s' ∧ Answered s s' .operator (0x2100 + d) 0x03 .ok ∧
      Forced s' d v 4 ∧ s'.stack = s.stack ∧ s'.parcels = s.parcels ∧
      (isSect d = true → ∀ i, i < 32 → (s'.tile ((d.val - 0x10) * 32 + i)).scratch = [])) ∧
  (∀ (s : State) (d : DomainId), domainExists d = true → (domain s d).state = 4 ∨ (domain s d).state = 5 →
    ∃ s', exec (.forcedSwitchDone d) s = .next s' ∧ WithinDomain s s' d ∧
      domain s' d = { domain s d with
        state := if (domain s d).coasting then 3 else if (domain s d).ownGate then 6 else 1
        locked := hasPll d }) ∧
  (∀ (s : State) (d : DomainId), domainExists d = true → (domain s d).disconnected = true → (domain s d).state ≠ 4 →
    (domain s d).state ≠ 5 →
    ∃ s', exec (.crossingRearm d) s = .next s' ∧ WithinDomain s s' d ∧
      domain s' d = { domain s d with disconnected := false, ended := 0 }) ∧
  (∀ (s : State) (d : DomainId), domainExists d = false →
    exec (.pllCoast d) s = .fault .noSuchInstance ∧ exec (.switchComplete d) s = .fault .noSuchInstance ∧
    exec (.switchHung d) s = .fault .noSuchInstance ∧ exec (.forcedSwitchDone d) s = .fault .noSuchInstance ∧
    exec (.crossingRearm d) s = .fault .noSuchInstance)

/-- R395, R402. -/
def Obligations.SpreadSpectrumAndGates : Prop :=
  (∀ (s : State) (v : Nat), v < 2 ^ 16 → Answers s .operator 0x2000 →
    ∃ s', exec (.sscConfig .operator v) s = .next s' ∧
      if v % 16 ≤ 10 ∧ v / 16 % 16 ≤ 6 ∧ (List.range 16).all (fun p => (s.parcel p).ctl.mode ≠ .sealed) = true then
        s' = { s with
          clocks := { s.clocks with pendingSsc := some (BitVec.ofNat 16 (v % 256)) }
          sent := s.sent ++ [.status .operator 0x2000 0x03 .ok] }
      else NoEffect s s' .operator 0x2000 0x03 .refused) ∧
  (∀ (s : State) (d : DomainId) (node : GateNode), domainExists d = true → Answers s .operator (0x2100 + d) →
    ∃ s' st, exec (.gateStop .operator d node) s = .next s' ∧ Answered s s' .operator (0x2100 + d) 0x04 st ∧
      (domain s' d).gateResult = gateStopResult s d node ∧ (∀ i, i ≠ d.val → domain s' i = domain s i) ∧
      s' = { s with clocks := s'.clocks, sent := s'.sent } ∧
      if gateStopResult s d node = 0 then st = .ok ∧ gateStopped (domain s' d) node = true
      else domain s' d = { domain s d with gateResult := gateStopResult s d node }) ∧
  (∀ (s : State) (d : DomainId) (node : GateNode), domainExists d = true → Answers s .operator (0x2100 + d) →
    ∃ s' st, exec (.gateStart .operator d node) s = .next s' ∧ Answered s s' .operator (0x2100 + d) 0x04 st ∧
      (domain s' d).gateResult = gateStartResult s d node ∧ (∀ i, i ≠ d.val → domain s' i = domain s i) ∧
      s' = { s with clocks := s'.clocks, sent := s'.sent } ∧
      if gateStartResult s d node = 0 then st = .ok ∧ gateStopped (domain s' d) node = false
      else domain s' d = { domain s d with gateResult := gateStartResult s d node })

namespace Sys2Proof.Claims

open Sys2Proof Sys2Proof.Machine

/-! ### Rhumb links (chapter 15) -/

/-- The flit stands: no uncorrectable FEC block, and its CRC is right (R373). -/
abbrev FlitStands (header : BitVec 128) (body : List Byte) : Prop := (flitCrc header body).toNat = fld header.toNat 96 32

/-- The port after the header of a flit that stands and asks for no replay: acknowledged flits leave, credits return. -/
def headerTaken (P : Port) (header : BitVec 128) (corrected : Nat) : Port :=
  { P with
      fecCorrected := P.fecCorrected + corrected
      unacked := acked (fld header.toNat 20 12) P.unacked
      credits := P.credits + fld header.toNat 32 10
      peerLos := BitVec.ofNat 8 (fld header.toNat 42 8) }

/-- The port is ACTIVE with no flit waiting, and the header asks for no replay. -/
abbrev QuietPort (s : State) (q : Nat) (header : BitVec 128) : Prop :=
  (port s q).mode = .active ∧ (port s q).txWait = [] ∧ bitAt header.toNat 50 = false

/-- The row of a sequenced flit: data or control. -/
def flitRow (isData : Bool) (q : PortId) (h : BitVec 128) (body : List Byte) (fecBad : Bool) (n : Nat) : Instr :=
  if isData then .dataFlit q h body fecBad n else .controlFlit q h body fecBad n

/-- What a sequenced flit hands up (R373): data to the record that it belongs to, or the records themselves. -/
def handedUp (s : State) (q : Nat) (isData : Bool) (h : BitVec 128) (body : List Byte) : List RxOp :=
  if isData then giveData s q (fld h.toNat 64 24) (markedGranules (fld h.toNat 88 4) body) (port s q).rxOps
  else (port s q).rxOps ++ (recordsOf body).map fun r => { record := r, data := [] }

/-- Every other port is as it was. -/
abbrev OtherPortsKept (s s' : State) (q : Nat) : Prop := ∀ i, i ≠ q → port s' i = port s i

/-- A port has left ACTIVE for `m` (R375, R380): one more LINK_DOWN, its link layer at its start, and no operation is out
on it. -/
abbrev LeftActive (s s' : State) (q : Nat) (m : PortMode) : Prop :=
  (port s' q).mode = m ∧ (port s' q).linkDowns = min ((port s q).linkDowns + 1) 0xFFFFFFFF ∧ (port s' q).unacked = [] ∧
  (port s' q).txWait = [] ∧ (port s' q).credits = 1024 ∧ (port s' q).rxSeq = 0 ∧ (port s' q).txSeq = 0 ∧
  (port s' q).rxOps = [] ∧ ∀ p, p < 16 → ∀ x, x ∈ (s'.parcel p).remote.out → x.port ≠ q

/-- A lane of the port's width (R375). -/
def laneUsed (P : Port) (lane : Fin 8) : Bool := P.wide || (if P.half then 4 ≤ lane.val else lane.val < 4)

end Sys2Proof.Claims

/-- R372 to R375. -/
def Obligations.FlitsArrive : Prop :=
  (∀ (s : State) (q : PortId) (h : BitVec 128) (body : List Byte) (n : Nat), QuietPort s q h → FlitStands h body →
    ∃ s', exec (.idleFlit q h body false n) s = .next s' ∧ port s' q = headerTaken (port s q) h n ∧
      OtherPortsKept s s' q ∧ s' = { s with ports := s'.ports }) ∧
  (∀ (s : State) (q : PortId) (h : BitVec 128) (body : List Byte) (n : Nat), (port s q).mode = .active →
    ∃ s', exec (.idleFlit q h body true n) s = .next s' ∧
      port s' q = { port s q with
        fecCorrected := (port s q).fecCorrected + n
        fecUncorrectable := (port s q).fecUncorrectable + 1
        replayReq := true } ∧
      OtherPortsKept s s' q ∧ s' = { s with ports := s'.ports }) ∧
  (∀ (s : State) (q : PortId) (isData : Bool) (h : BitVec 128) (body : List Byte) (n : Nat), QuietPort s q h →
    FlitStands h body → fld h.toNat 8 12 = (port s q).rxSeq →
    (isData = false → ∀ r, r ∈ recordsOf body → fld r.toNat 0 4 ≤ 3 ∨ fld r.toNat 0 4 = 8) →
    ∃ s' hd, exec (flitRow isData q h body false n) s = .next s' ∧
      (port s' q).rxSeq = ((port s q).rxSeq + 1) % 4096 ∧ (port s' q).rxOps = handedUp s q isData h body ∧
      (port s' q).replayReq = false ∧ (port s' q).unacked = acked (fld h.toNat 20 12) (port s q).unacked ∧
      s'.sent = s.sent ++ [.flit q hd (bodyBytes [])] ∧ OtherPortsKept s s' q ∧
      s' = { s with ports := s'.ports, sent := s'.sent }) ∧
  (∀ (s : State) (q : PortId) (isData : Bool) (h : BitVec 128) (body : List Byte) (n : Nat), QuietPort s q h →
    FlitStands h body → fld h.toNat 8 12 ≠ (port s q).rxSeq →
    ∃ s', exec (flitRow isData q h body false n) s = .next s' ∧ (port s' q).rxSeq = (port s q).rxSeq ∧
      (port s' q).rxOps = (port s q).rxOps ∧ (port s' q).replayReq = true ∧ OtherPortsKept s s' q) ∧
  (∀ (s : State) (q : PortId) (h : BitVec 128) (body : List Byte) (bad : Bool) (n : Nat) (id : Option (BitVec 64 × Nat)),
    (port s q).mode = .dark →
    exec (.idleFlit q h body bad n) s = .next s ∧ exec (.dataFlit q h body bad n) s = .next s ∧
    exec (.controlFlit q h body bad n) s = .next s ∧ exec (.linkManagementFlit q h body bad n id) s = .next s) ∧
  (∀ (s : State) (q : PortId) (h : BitVec 128) (body : List Byte) (n k : Nat) (serial : BitVec 64), FlitStands h body →
    (port s q).mode = .identify →
    ∃ s', exec (.linkManagementFlit q h body false n (some (serial, k))) s = .next s' ∧ (port s' q).mode = .active ∧
      (port s' q).peerSerial = serial ∧ (port s' q).peerPort = k ∧ OtherPortsKept s s' q)

/-- R371, R375, R384, R385, R387, R412, R463. -/
def Obligations.PortsAndLamps : Prop :=
  (∀ (s : State) (q : PortId) (lane : Fin 8), laneUsed (port s q) lane = true → (port s q).mode = .active →
    ∃ s', exec (.laneLossTimeout q lane) s = .next s' ∧ LeftActive s s' q .training ∧ OtherPortsKept s s' q) ∧
  (∀ (s : State) (q : PortId) (a b : BitVec 8), (port s q).mode = .training →
    ∃ s', exec (.portTrainingDone q a b) s = .next s' ∧ OtherPortsKept s s' q ∧
      ((port s' q).mode = .identify →
        ∃ hd, Sent.flit q hd (bodyBytes (Config.identifyBody Config.moduleSerial q)) ∈ s'.sent) ∧
      if a &&& b = 0xFF then (port s' q).mode = .identify ∧ (port s' q).wide = true
      else if (a &&& b) &&& 0x0F = 0x0F then
        (port s' q).mode = .identify ∧ (port s' q).wide = false ∧ (port s' q).half = false
      else if (a &&& b) &&& 0xF0 = 0xF0 then
        (port s' q).mode = .identify ∧ (port s' q).wide = false ∧ (port s' q).half = true
      else (port s' q).mode = .down) ∧
  (∀ (s : State) (q : PortId), (port s q).mode = .down → lampLit s q = true →
    (∃ s', exec (.downRetry q) s = .next s' ∧ (port s' q).mode = .training ∧ OtherPortsKept s s' q) ∧
    (∃ s', exec (.trainingPatternDetect q) s = .next s' ∧ (port s' q).mode = .training ∧ OtherPortsKept s s' q)) ∧
  (∀ (s : State) (q : PortId), (port s q).mode = .active → (port s q).txWait = [] →
    ∃ s', exec (.lowPowerIdle q) s = .next s' ∧ port s' q = { port s q with parked := true } ∧ OtherPortsKept s s' q ∧
      s' = { s with ports := s'.ports }) ∧
  (∀ (s : State) (q : PortId), (port s q).mode = .active ∨ (port s q).mode = .down ∨ (port s q).mode = .training →
    (lamp s (lampOf q)).mode ≠ .service →
    ((port s q).burstDue = true ∧ s.now % 64 = q.val) ∨ (port s q).confirm = true →
    ∃ s', exec (.forcedBurst q) s = .next s' ∧ s'.sent = s.sent ++ [.burst q] ∧ (port s' q).confirm = false ∧
      (port s' q).parked = false ∧ OtherPortsKept s s' q ∧ s' = { s with ports := s'.ports, sent := s'.sent }) ∧
  (∀ (s : State) (q : PortId) (lane : Fin 8) (uW : Nat) (los peer : BitVec 8), (port s q).mode ≠ .dark →
    (port s q).mode ≠ .waitLight →
    (let v := verdictOf (decide ((lamp s (lampOf q)).darkUw.toNat ≤ uW)) lane (if los = 0xFF then none else some peer)
     ∃ s', exec (.portVerdict q lane uW los peer) s = .next s' ∧ (port s' q).verdict = v ∧
       Tab.get 0 (port s' q).optPower lane = uW ∧ (port s' q).measured = true ∧ (port s' q).rxLos = los ∧
       (v = 0 → (lamp s' (lampOf q)).lastLit = s.now) ∧
       (v = 2 → (port s q).mode = .active → LeftActive s s' q .training) ∧
       (v ≠ 2 → (port s' q).mode = (port s q).mode))) ∧
  (∀ (s : State) (q : PortId) (lane : Fin 8) (uW : Nat) (los peer : BitVec 8), (port s q).mode = .waitLight →
    (lamp s (lampOf q)).darkUw.toNat ≤ uW →
    ∃ s', exec (.portVerdict q lane uW los peer) s = .next s' ∧
      (port s' q).lit = (port s q).lit ||| ((1 : BitVec 8) <<< lane.val) ∧
      (port s' q).mode = (if (port s' q).lit = 0xFF then .training else .waitLight)) ∧
  (∀ (s : State) (q : PortId) (p : ParcelId), (s.parcel p).ctl.mode = .defined → (port s q).owner = 0xFE →
    Answers s .operator (0x6010 + q) →
    ∃ s', exec (.portParcel .operator q p.val) s = .next s' ∧ Answered s s' .operator (0x6010 + q) 0x02 .ok ∧
      port s' q = { port s q with owner := p.val } ∧ OtherPortsKept s s' q ∧
      s' = { s with ports := s'.ports, sent := s'.sent }) ∧
  (∀ (s : State) (m : LampId) (v : Nat), v ≤ 1 → Answers s .operator (0x6020 + m) →
    ∃ s', exec (.lampControl .operator m v) s = .next s' ∧ Answered s s' .operator (0x6020 + m) 0x02 .ok ∧
      lamp s' m = { lamp s m with pendingControl := some v } ∧ (∀ i, i ≠ m.val → lamp s' i = lamp s i) ∧
      s' = { s with lamps := s'.lamps, sent := s'.sent }) ∧
  (∀ (s : State) (m : LampId) (present : Bool), ∃ s', exec (.lampPresence m present) s = .next s' ∧
    lamp s' m = { lamp s m with present := present } ∧ (∀ i, i ≠ m.val → lamp s' i = lamp s i) ∧
    s' = { s with lamps := s'.lamps })

namespace Sys2Proof.Claims

open Sys2Proof Sys2Proof.Machine

/-! ### Remote operations (chapter 15) -/

/-- Flits of a port that wait or are not yet acknowledged. -/
def flitsOut (s : State) (q : Nat) : Nat := (port s q).txWait.length + (port s q).unacked.length

/-- Data flits that carry `n` granules' worth of bytes: 256 B each. -/
def flitsFor (n : Nat) : Nat := (n + 255) / 256

/-- The parcel's remote state without the operation `x` in its queue. -/
def unqueued (s : State) (p : Nat) (x : RemoteOp) : State :=
  modRemote s p fun R => { R with queue := R.queue.filter fun y => y.seq ≠ x.seq }

/-- The first operation of parcel `p` that may be sent goes out on port `q` with `data`, which the steward's requester has
read in leaving state `s1` (R191, R378, R379): its entry is sound, the port is the parcel's next one to the target, and an
RPUT's source range can be read. -/
abbrev SendsOn (s : State) (p q : Nat) (x : RemoteOp) (s1 : State) (data : List Byte) : Prop :=
  (s.parcel p).remote.queue.find? (sendable (s.parcel p).remote) = some x ∧
  entryOk s p x.entry.toNat = true ∧
  nextPort (Tab.find (s.parcel p).remote.lastPort (opTarget x.entry.toNat)) (portsTo s p (opTarget x.entry.toNat)) = some q ∧
  (if opCode x.entry.toNat = 0 then
    stewardRead (unqueued s p x) p 6 (opLocal x.entry.toNat) (opLen x.entry.toNat) false = (s1, .ok data)
  else s1 = unqueued s p x ∧ data = [])

/-- The oldest complete request of a kind on port `q` is `x`, and parcel `p` serves it: the record is sound, none of R377's
refusals applies to its `n` bytes, and nothing on the way to them is DISCONNECTED (R405). -/
abbrev Serves (s : State) (q code : Nat) (n : Nat → Nat) (p : Nat) (x : RxOp) (s1 : State) : Prop :=
  takeRx s q code = some (x, s1) ∧ recordOk x.record.toNat = true ∧ portParcel (port s1 q) = some p ∧
  Machine.refusal s1 p q (opRemote x.record.toNat) (n x.record.toNat) = none ∧
  (n x.record.toNat ≠ 0 → rangeCut s1 p (opRemote x.record.toNat) (n x.record.toNat) = none)

/-- The request `x` has been answered on port `q` with a status and an operand: it is no longer among the received ones, and
one control flit with that RESPONSE waits or is on its way, with `data` flits after it; no other port has changed. -/
abbrev Responded (s s1 s' : State) (q : Nat) (x : RxOp) (status operand data : Nat) : Prop :=
  (port s' q).rxOps = (port s1 q).rxOps ∧ flitsOut s' q = flitsOut s q + 1 + data ∧ OtherPortsKept s s' q ∧
  ∃ f, f ∈ (port s' q).unacked ++ (port s' q).txWait ∧ f.kind = 2 ∧
    f.body = bytesOfNat (responseRecord (opTag x.record.toNat) status operand).toNat 32

/-- A response to an outstanding operation `y` of parcel `p` is the oldest complete one received on port `q`. -/
abbrev Responds (s : State) (q p : Nat) (x : RxOp) (y : RemoteOut) (s1 : State) : Prop :=
  takeRx s q 8 = some (x, s1) ∧
  (List.range 16).find? (fun p => (s1.parcel p).remote.out.any fun y => y.port = q && y.tag = opTag x.record.toNat) = some p ∧
  (s1.parcel p).remote.out.find? (fun y => y.port = q && y.tag = opTag x.record.toNat) = some y

/-- The parcel's remote state without the operation out on port `q` with a tag. -/
def returned (s : State) (p q tag : Nat) : State :=
  modRemote s p fun R => { R with out := R.out.filter fun z => !(z.port = q && z.tag = tag) }

/-- What the response brings back to the operation's local range (R380). -/
def broughtBack (x : RxOp) (y : RemoteOut) : List Byte :=
  if fld x.record.toNat 12 4 ≠ 0 then []
  else if opCode y.op.entry.toNat = 1 then x.data
  else if opCode y.op.entry.toNat = 2 then
    bytesOfNat (opOperand x.record.toNat % 2 ^ (8 * opSize y.op.entry.toNat)) 64
  else []

/-- The write of what comes back. -/
def writtenBack (s1 : State) (p q : Nat) (x : RxOp) (y : RemoteOut) : State × Option Cause :=
  stewardWrite (returned s1 p q (opTag x.record.toNat)) p 6 (opLocal y.op.entry.toNat) (broughtBack x y)

/-- The status with which the operation completes (R380): REFUSED where what comes back cannot be written. -/
def finalStatus (s1 : State) (p q : Nat) (x : RxOp) (y : RemoteOut) : Nat :=
  if broughtBack x y ≠ [] ∧ (writtenBack s1 p q x y).2.isSome = true then 1 else fld x.record.toNat 12 4

end Sys2Proof.Claims

/-- R377 to R380, R382. -/
def Obligations.RemoteOperationsGoAndReturn : Prop :=
  (∀ (s s1 : State) (p : ParcelId) (q : Nat) (x : RemoteOp) (data : List Byte), SendsOn s p q x s1 data →
    ∃ s', exec (.remoteSend p) s = .next s' ∧ s'.stack = s1.stack ∧ s'.tiles = s1.tiles ∧
      (s'.parcel p).remote.queue = (s.parcel p).remote.queue.filter (fun y => y.seq ≠ x.seq) ∧
      (s'.parcel p).remote.out = (s.parcel p).remote.out ++ [⟨x, q, (port s q).nextTag⟩] ∧
      Tab.find (s'.parcel p).remote.lastPort (opTarget x.entry.toNat) = some q ∧
      (port s' q).nextTag = ((port s q).nextTag + 1) % 2 ^ 24 ∧ (port s' q).mode = (port s q).mode ∧
      flitsOut s' q = flitsOut s q + 1 + flitsFor data.length ∧ OtherPortsKept s s' q) ∧
  (∀ (s : State) (p : ParcelId) (x : RemoteOp),
    (s.parcel p).remote.queue.find? (sendable (s.parcel p).remote) = some x →
    entryOk s p x.entry.toNat = false ∨
      nextPort (Tab.find (s.parcel p).remote.lastPort (opTarget x.entry.toNat))
        (portsTo s p (opTarget x.entry.toNat)) = none →
    ∃ s', exec (.remoteSend p) s = .next s' ∧ s'.stack = s.stack ∧ s'.ports = s.ports ∧
      (s'.parcel p).remote.fault = true ∧ (s'.parcel p).remote.errors = (s.parcel p).remote.errors + 1 ∧
      (s'.parcel p).remote.queue = (s.parcel p).remote.queue.filter (fun y => y.seq ≠ x.seq) ∧
      (s'.parcel p).remote.out = (s.parcel p).remote.out) ∧
  (∀ (s s1 : State) (q : PortId) (p : Nat) (x : RxOp) (y : RemoteOut), Responds s q p x y s1 →
    ∃ s', exec (.response q) s = .next s' ∧
      s'.stack = (if broughtBack x y = [] then s.stack else (writtenBack s1 p q x y).1.stack) ∧
      (s'.parcel p).remote.out =
        (s.parcel p).remote.out.filter (fun z => !(z.port = q.val && z.tag = opTag x.record.toNat)) ∧
      (s'.parcel p).remote.fault = ((s.parcel p).remote.fault || decide (finalStatus s1 p q x y ≠ 0)) ∧
      (s'.parcel p).remote.errors = (s.parcel p).remote.errors + (if finalStatus s1 p q x y = 0 then 0 else 1) ∧
      (bitAt y.op.entry.toNat 5 = true →
        (Tab.get RemoteCounter.zero (s'.parcel p).remote.counters (fld y.op.entry.toNat 302 6)).arrived =
          (Tab.get RemoteCounter.zero (s.parcel p).remote.counters (fld y.op.entry.toNat 302 6)).arrived + 1))

/-- R191, R256, R259, R377, R380 to R382. -/
def Obligations.RemoteRequestsAreServed : Prop :=
  (∀ (s s1 s2 : State) (q : PortId) (p : Nat) (x : RxOp), Serves s q 0 opLen p x s1 →
    stewardWrite s1 p 6 (opRemote x.record.toNat) x.data = (s2, none) →
    ∃ s', exec (.rput q) s = .next s' ∧ s'.stack = s2.stack ∧ Responded s s1 s' q x 0 0 0) ∧
  (∀ (s s1 s2 : State) (q : PortId) (p : Nat) (x : RxOp) (data : List Byte), Serves s q 1 opLen p x s1 →
    stewardRead (s1.count (some p) 0x16 1) p 6 (opRemote x.record.toNat) (opLen x.record.toNat) true = (s2, .ok data) →
    ∃ s', exec (.rget q) s = .next s' ∧ s'.stack = s2.stack ∧ Responded s s1 s' q x 0 0 (flitsFor data.length)) ∧
  (∀ (s s1 b : State) (q : PortId) (p c o : Nat) (x : RxOp), Serves s q 2 opSize p x s1 →
    s1.stackPlace p (opRemote x.record.toNat) = some (c, o) →
    atomicSizeOk (fld x.record.toNat 6 4) (opSize x.record.toNat) = true → o % opSize x.record.toNat = 0 →
    b = atStewardTurn (s1.count (some p) 0x16 1) c → granuleErr b (stackKey c o / 64) ≠ 2 →
    (let n := opSize x.record.toNat
     let old := natOfBytes (bankRead b c o n)
     ∃ s', exec (.ratomic q) s = .next s' ∧
       bankRead s' c o n = bytesOfNat (atomicNew (fld x.record.toNat 6 4) n old
         (opOperand x.record.toNat % 2 ^ (8 * n)) (opCompare x.record.toNat % 2 ^ (8 * n))) n ∧
       (∀ a, a < stackKey c o ∨ stackKey c o + n ≤ a → Mem.read s'.stack a = Mem.read b.stack a) ∧
       Responded s s1 s' q x 0 old 0)) ∧
  (∀ (s s1 : State) (q : PortId) (p : Nat) (x : RxOp), Serves s q 3 (fun _ => 0) p x s1 →
    ∃ s', exec (.rsignal q) s = .next s' ∧ s'.stack = s.stack ∧
      (Tab.get RemoteCounter.zero (s'.parcel p).remote.counters (fld x.record.toNat 40 6)).arrived =
        (Tab.get RemoteCounter.zero (s.parcel p).remote.counters (fld x.record.toNat 40 6)).arrived +
          fld x.record.toNat 112 16 ∧
      Responded s s1 s' q x 0 0 0) ∧
  (∀ (s s1 : State) (q : PortId) (p sub : Nat) (x : RxOp), takeRx s q 0 = some (x, s1) →
    recordOk x.record.toNat = true → portParcel (port s1 q) = some p →
    Machine.refusal s1 p q (opRemote x.record.toNat) (opLen x.record.toNat) = some sub →
    ∃ s', exec (.rput q) s = .next s' ∧ s'.stack = s.stack ∧ Responded s s1 s' q x 1 0 0)

/-- R416, R419 to R421, R426. -/
def Obligations.SensorsConvert : Prop :=
  (∀ (s : State) (i : SensorId) (v : Int), faultKind (sensor s i) (.value v) = 0 →
    governing i = false ∨ v < rungEntry i 6 ∨ s.supply.thermTrip = true →
    ∃ s', exec (.sensorConversion i (.value v)) s = .next s' ∧ (sensor s' i).raw = v ∧ (sensor s' i).good = v ∧ (sensor s' i).peak = some (max ((sensor s i).peak.getD v) v) ∧
      (sensor s' i).faults = 0 ∧ (sensor s' i).clean = min ((sensor s i).clean + 1) 64 ∧
      (sensor s' i).converted = true ∧ (sensor s' i).lastFaulty = false ∧ (sensor s' i).treated = (sensor s i).treated ∧
      (∀ j, j ≠ i.val → sensor s' j = sensor s j) ∧
      s' = { s with sensors := s'.sensors, log := s'.log, irq := s'.irq }) ∧
  (∀ (s : State) (i : SensorId) (x : Conversion), faultKind (sensor s i) x ≠ 0 →
    ∃ s', exec (.sensorConversion i x) s = .next s' ∧ (sensor s' i).fault = faultKind (sensor s i) x ∧
      (sensor s' i).faults = min ((sensor s i).faults + 1) 3 ∧ (sensor s' i).clean = 0 ∧
      (sensor s' i).good = (sensor s i).good ∧ (sensor s' i).lastFaulty = true ∧
      (sensor s' i).mode = (if 2 ≤ (sensor s i).faults ∨ (sensor s i).mode = 2 then 2 else (sensor s i).mode) ∧
      (∀ j, j ≠ i.val → sensor s' j = sensor s j) ∧
      s' = { s with sensors := s'.sensors, log := s'.log, irq := s'.irq, sent := s'.sent }) ∧
  (∀ (s : State) (i : SensorId) (v : Int), faultKind (sensor s i) (.value v) = 0 → governing i = true →
    rungEntry i 6 ≤ v → s.supply.thermTrip = false →
    ∃ s', exec (.sensorConversion i (.value v)) s = .next s' ∧ s'.supply.thermTrip = true ∧
      s'.supply.converters = false ∧ s'.supply.tripRecord = some (i.val, v) ∧ s'.stack = [] ∧
      s'.mer = Meridian.init) ∧
  (∀ (s : State) (i : SensorId), (sensor s i).mode = 2 → Answers s .operator (0x2440 + i) →
    ∃ s', exec (.sensorClear .operator i 1) s = .next s' ∧
      if 64 ≤ (sensor s i).clean then
        (∃ more, s'.sent = s.sent ++ more ++ [.status .operator (0x2440 + i) 0x04 .ok]) ∧
        sensor s' i = { sensor s i with mode := 0, cold := 0, clearing := true } ∧
        (∀ j, j ≠ i.val → sensor s' j = sensor s j) ∧ s' = { s with sensors := s'.sensors, sent := s'.sent }
      else NoEffect s s' .operator (0x2440 + i) 0x04 .refused) ∧
  (∀ (s : State) (i : SensorId) (v : Nat), governing i = true → v ≤ 1 → Answers s .operator (0x2440 + i) →
    ∃ s', exec (.treatment .operator i v) s = .next s' ∧ Answered s s' .operator (0x2440 + i) 0x03 .ok ∧
      sensor s' i = { sensor s i with pendingTreatment := some v } ∧ (∀ j, j ≠ i.val → sensor s' j = sensor s j) ∧
      s' = { s with sensors := s'.sensors, sent := s'.sent })

namespace Sys2Proof.Claims

open Sys2Proof Sys2Proof.Machine

/-! ### The Legend and its transports (chapter 18) -/

/-- The answer to a Legend request is sent, and the state is otherwise `t`. -/
abbrev LegendAnswered (t s' : State) (tr reqId index sub : Nat) (st : Status) (ticket : Nat) (data : List Byte) : Prop :=
  s' = { t with sent := t.sent ++ [.legend tr reqId index sub st ticket data] }

/-- A message transport other than a mailbox that takes requests, with its principal. -/
abbrev Takes (s : State) (tr : Nat) (who : Principal) : Prop :=
  legendOpen s tr = true ∧ mailboxOf tr = none ∧ principalOf tr = some who

/-- A slow request just taken. -/
def newSlow (s : State) (who : Principal) (reqId index sub : Nat) (op : SlowOp) : SlowReq :=
  { ticket := s.legend.nextTicket, who := who, reqId := reqId, index := index, sub := sub, op := op, result := none }

/-- The state with a slow request taken on transport `tr`: it waits under the next ticket (R437). -/
def slowTaken (s : State) (tr : Nat) (x : SlowReq) : State :=
  { s with legend := { s.legend with
      slow := Tab.modify [] s.legend.slow tr (· ++ [x])
      nextTicket := s.legend.nextTicket % 65535 + 1 } }

/-- The mailbox of a virtual function. -/
def mailbox (s : State) (p : Nat) : Mailbox := (vfun s p).mailbox

/-- The type of the message in the request buffer (R443). -/
def messageType (s : State) (p : Nat) : Nat := (Mem.read (mailbox s p).request 0).toNat % 128

end Sys2Proof.Claims

/-- R434, R435, R437, R439, R440. -/
def Obligations.LegendRequestsAreAnswered : Prop :=
  (∀ (s : State) (tr reqId index sub : Nat) (who by' : Principal) (f : Fam) (r : Row), Takes s tr who →
    findObject s tr who index sub false = .ok (by', f, r) → r.slow = false → r.ty.size ≠ 0 →
    ∃ s', exec (.read tr reqId index sub 0 0) s = .next s' ∧
      LegendAnswered s s' tr reqId index sub .ok 0 (objectValue s by' f sub r.ty)) ∧
  (∀ (s : State) (tr reqId index sub offset length : Nat) (who : Principal) (st : Status), Takes s tr who →
    findObject s tr who index sub false = .error st →
    ∃ s', exec (.read tr reqId index sub offset length) s = .next s' ∧
      LegendAnswered (turnedAway s who index st) s' tr reqId index sub st 0 []) ∧
  (∀ (s : State) (tr reqId index sub offset length : Nat) (who by' : Principal) (f : Fam) (r : Row), Takes s tr who →
    findObject s tr who index sub false = .ok (by', f, r) → r.slow = true →
    ∃ s', exec (.read tr reqId index sub offset length) s = .next s' ∧
      if 16 ≤ (slowOf s tr).length then LegendAnswered s s' tr reqId index sub .busy 0 []
      else LegendAnswered (slowTaken s tr (newSlow s by' reqId index sub (.read offset length))) s' tr reqId index sub
        .pending s.legend.nextTicket []) ∧
  (∀ (s : State) (tr reqId index sub : Nat) (data : List Byte) (who by' : Principal) (f : Fam) (r : Row), Takes s tr who →
    findObject s tr who index sub true = .ok (by', f, r) → r.slow = false → data.length ≤ 4064 →
    ∃ s', exec (.write tr reqId index sub 0 data) s = .next s' ∧
      LegendAnswered (writeObject s tr by' f r sub data).2 s' tr reqId index sub (writeObject s tr by' f r sub data).1 0 []) ∧
  (∀ (s : State) (tr reqId index sub : Nat) (data : List Byte) (who : Principal) (st : Status), Takes s tr who →
    findObject s tr who index sub true = .error st → data.length ≤ 4064 →
    ∃ s', exec (.write tr reqId index sub 0 data) s = .next s' ∧
      LegendAnswered (turnedAway s who index st) s' tr reqId index sub st 0 []) ∧
  (∀ (s : State) (tr reqId ticket : Nat) (who : Principal), Takes s tr who →
    ∃ s', exec (.poll tr reqId ticket) s = .next s' ∧
      match (slowOf s tr).find? (fun x => x.ticket = ticket) with
      | none => LegendAnswered s s' tr reqId 0 0 .badTicket ticket []
      | some x =>
        match x.result with
        | none => LegendAnswered s s' tr reqId x.index x.sub .pending ticket []
        | some (st, n, data) =>
          LegendAnswered (modSlow s tr fun l => l.filter fun y => y.ticket ≠ ticket) s' tr reqId x.index x.sub st n data) ∧
  (∀ (s : State) (tr reqId : Nat) (entries : List (Nat × Nat)) (who : Principal), Takes s tr who →
    1 ≤ entries.length → entries.length ≤ 64 →
    ∃ s' v, exec (.readSet tr reqId entries) s = .next s' ∧ LegendAnswered (entries.foldl (readSetCut tr) s) s' tr reqId 0 0 .ok 0 v ∧
      v = entries.flatMap (readSetEntry s tr) ∧ v.length = 9 * entries.length) ∧
  (∀ (s : State) (tr : Nat) (x : SlowReq) (o l : Nat), nextSlow (slowOf s tr) = some x → x.op = .read o l →
    isReleased s = true →
    ∃ s', exec (.slowResultReady tr x.ticket) s = .next s' ∧
      slowOf s' tr = (slowOf s tr).map (fun y =>
        if y.ticket = x.ticket then { y with result := some (serveSlow s tr x).2 } else y) ∧
      s' = { s with legend := s'.legend, clocks := s'.clocks, irq := s'.irq, sent := s'.sent }) ∧
  (∀ (s : State) (tr ticket : Nat), ∃ s', exec (.ticketExpire tr ticket) s = .next s' ∧
    slowOf s' tr = (slowOf s tr).filter (fun x => x.ticket ≠ ticket || x.result.isNone) ∧
    (∀ i, i ≠ tr → slowOf s' i = slowOf s i) ∧ s' = { s with legend := { s.legend with slow := s'.legend.slow } })

/-- R266, R441, R443, R449, R456. -/
def Obligations.MailboxesRegistersAndBus : Prop :=
  (∀ (s : State) (p : ParcelId) (n : BitVec 32), functionOpen s (1 + p) true = true →
    ∃ s', exec (.mbDoorbell p n) s = .next s' ∧
      if (mailbox s p).busy = true then s' = modMailbox s p fun B => { B with overrun := true }
      else if n = 0 ∨ 4096 < n.toNat then s' = modMailbox s p fun B => { B with error := true }
      else if (mailbox s p).ready = true ∨ messageType s p = 0x05 ∨ messageType s p = 0x06 then
        s' = modMailbox s p fun B => { B with busy := true, reqLen := n.toNat }
      else if messageType s p = 0x7E then (mailbox s' p).ready = true ∧ (mailbox s' p).busy = false
      else (mailbox s' p).error = true ∧ (mailbox s' p).busy = false ∧ s'.sent = s.sent) ∧
  (∀ (s : State) (p : ParcelId), functionOpen s (1 + p) true = true → (mailbox s p).busy = false ∨ (mailbox s p).ready = false ∨
      messageType s p = 0x05 ∨ messageType s p = 0x06 →
    ∃ s', exec (.mbAck p 1) s = .next s' ∧
      mailbox s' p = { mailbox s p with
        ready := false
        error := false
        overrun := false
        response := []
        len := 0 } ∧
      (∀ q, q ≠ p.val → vfun s' q = vfun s q) ∧ s' = { s with vfs := s'.vfs }) ∧
  (∀ (s : State) (p : ParcelId) (r : Fin 8) (v : Nat) (tee : Bool), functionOpen s (1 + p) tee = true → v < 2 ^ 32 →
    (∃ s', exec (.registerWrite (1 + p) (0x1000 + 0x40 * r + 0x18) 4 v tee) s = .next s' ∧ WithinParcel s s' p ∧
      (s'.parcel p).serving = { (s.parcel p).serving with
        subRings := Tab.modify Ring.init (s.parcel p).serving.subRings r fun R => { R with tail := BitVec.ofNat 32 v } }) ∧
    (∃ s', exec (.registerWrite (1 + p) (0x1200 + 0x40 * r + 0x0C) 4 v tee) s = .next s' ∧ WithinParcel s s' p ∧
      (s'.parcel p).serving = { (s.parcel p).serving with
        compRings := Tab.modify Ring.init (s.parcel p).serving.compRings r fun R => { R with enable := bitAt v 0 } }) ∧
    (∃ s', exec (.registerWrite (1 + p) (0x1200 + 0x40 * r + 0x1C) 4 v tee) s = .next s' ∧ WithinParcel s s' p ∧
      (s'.parcel p).serving = { (s.parcel p).serving with
        compRings := Tab.modify Ring.init (s.parcel p).serving.compRings r
          fun R => { R with intModeration := BitVec.ofNat 16 v } }) ∧
    (∀ o, o < 4096 → o % 4 = 0 →
      ∃ s', exec (.registerWrite (1 + p) (0x3000 + o) 4 v tee) s = .next s' ∧
        mailbox s' p = { mailbox s p with request := Mem.writeBytes (mailbox s p).request o (bytesOfNat v 4) } ∧
        s' = { s with vfs := s'.vfs })) ∧
  (∀ (s : State) (fn offset size v : Nat) (tee : Bool), functionThere s fn = true →
    ¬ (functionOpen s fn tee = true ∧ (size = 4 ∨ size = 8) ∧ offset % size = 0) →
    ∃ s', exec (.registerWrite fn offset size v tee) s = .next s' ∧ s' = { s with sent := s.sent ++ [.unsupported fn] }) ∧
  (∀ (s : State) (t : FactoryToken), legendOpen s 2 = true → t.signed = true → t.epoch = s.cart.aliasEpoch →
    s.now < t.expiry →
    ∃ s', exec (.factoryAuth 2 (some t)) s = .next s' ∧
      if t.serial = Config.moduleSerial then
        s' = { s with
          legend := { s.legend with factory := some t.expiry }
          sent := s.sent ++ [.status .operator 0x1020 0x04 .ok] }
      else NoEffect s s' .operator 0x1020 0x04 .refused) ∧
  (∀ s : State, legendOpen s 2 = true →
    ∃ s', exec (.factoryAuth 2 none) s = .next s' ∧
      s' = { s with
        legend := { s.legend with factory := none }
        sent := s.sent ++ [.status .operator 0x1020 0x04 .ok] }) ∧
  (∀ (s : State) (a : Nat), s.supply.v3p3 = true → s.supply.inReset = false → 0 < a → a < 128 →
    ∃ s', exec (.entdaa a) s = .next s' ∧ s' = { s with legend := { s.legend with i3cAddress := a } }) ∧
  (∀ s : State, s.supply.v3p3 = true → s.supply.inReset = false → s.legend.i3cAddress ≠ 0 →
    ∃ s', exec .privateRead s = .next s' ∧
      s' = { s with sent := s.sent ++
        [.i3c (if isReleased s then none else some (bytesOfNat (cartNat s.cart 1) 4))] })

namespace Sys2Proof.Claims

open Sys2Proof Sys2Proof.Machine

/-! ### MCTP and PLDM (chapter 18) -/

/-- A control command is answered with these values, and nothing else changes. -/
abbrev MctpSays (s s' : State) (tr : Nat) (command : String) (values : List Nat) : Prop :=
  s' = { s with sent := s.sent ++ [.mctp tr command values] }

/-- A PLDM command is answered with this code and data, and nothing else changes. -/
abbrev PldmSays (s s' : State) (tr : Nat) (command : String) (code : PldmCode) (data : List Nat) : Prop :=
  s' = { s with sent := s.sent ++ [.pldm tr command code data] }

/-- A PLDM update command is answered with this code, and the update in progress is `u`. -/
abbrev UpdateIs (s s' : State) (tr : Nat) (command : String) (code : PldmCode) (u : Update) : Prop :=
  s' = { s with
    legend := { s.legend with update := u }
    sent := s.sent ++ [.pldm tr command code []] }

/-- The update in progress, in another state (DSP0267 keeps the state it came from). -/
def moved (s : State) (m : UpdateMode) : Update :=
  { s.legend.update with mode := m, previous := s.legend.update.mode }

end Sys2Proof.Claims

/-- R442, R452, R453. -/
def Obligations.ManagementAnswers : Prop :=
  (∀ (s : State) (tr : Nat), bindingOpen s tr = true →
    (∀ eid, ∃ s', exec (.setEndpointId tr eid) s = .next s' ∧
      if 8 ≤ eid ∧ eid < 255 then endpointId s' tr = eid ∧
        (∀ i, i = 1 ∨ i = 2 → i ≠ tr → endpointId s' i = endpointId s i) ∧
        s' = { s with
          legend := { s.legend with eidPcie := s'.legend.eidPcie, eidI3c := s'.legend.eidI3c }
          sent := s.sent ++ [.mctp tr "SET_ENDPOINT_ID" [0, eid]] }
      else MctpSays s s' tr "SET_ENDPOINT_ID" [1, endpointId s tr]) ∧
    (∃ s', exec (.getEndpointId tr) s = .next s' ∧ MctpSays s s' tr "GET_ENDPOINT_ID" [endpointId s tr]) ∧
    (∃ s', exec (.getMctpVersionSupport tr) s = .next s' ∧
      MctpSays s s' tr "GET_MCTP_VERSION_SUPPORT" Config.mctpVersions) ∧
    (∃ s' types, exec (.getMessageTypeSupport tr) s = .next s' ∧
      MctpSays s s' tr "GET_MESSAGE_TYPE_SUPPORT" types ∧ 0x01 ∈ types ∧ 0x05 ∈ types ∧ 0x7E ∈ types) ∧
    (∃ s', exec (.getVendorDefinedMessageSupport tr) s = .next s' ∧
      MctpSays s s' tr "GET_VENDOR_DEFINED_MESSAGE_SUPPORT" [Config.pciVendorId.toNat]) ∧
    (∃ s', exec (.getTid tr) s = .next s' ∧ PldmSays s s' tr "GET_TID" .success [Tab.get 0 s.legend.tids tr]) ∧
    (∀ tid, 0 < tid → tid < 255 →
      ∃ s', exec (.setTid tr tid) s = .next s' ∧ Tab.get 0 s'.legend.tids tr = tid ∧
        (∀ i, i ≠ tr → Tab.get 0 s'.legend.tids i = Tab.get 0 s.legend.tids i) ∧
        s' = { s with
          legend := { s.legend with tids := s'.legend.tids }
          sent := s.sent ++ [.pldm tr "SET_TID" .success []] }) ∧
    (∀ type, type = 0 ∨ type = 2 ∨ type = 5 →
      (∃ s' v, exec (.getPldmVersion tr type) s = .next s' ∧ PldmSays s s' tr "GET_PLDM_VERSION" .success [1, v] ∧
        v = (if type = 0 then 1 else 2)) ∧
      (∃ s' cs, exec (.getPldmCommands tr type) s = .next s' ∧ PldmSays s s' tr "GET_PLDM_COMMANDS" .success cs ∧
        cs ≠ [])) ∧
    (∃ s', exec (.getPldmTypes tr) s = .next s' ∧ PldmSays s s' tr "GET_PLDM_TYPES" .success [0, 2, 5]) ∧
    (∃ s', exec (.getPdrRepositoryInfo tr) s = .next s' ∧ PldmSays s s' tr "GET_PDR_REPOSITORY_INFO" .success [75]) ∧
    (∀ h id, pldmSensors[h]? = some id →
      ∃ s' ts, exec (.getPdr tr (h + 1)) s = .next s' ∧ PldmSays s s' tr "GET_PDR" .success (id :: ts)) ∧
    (∀ i : SensorId, ∃ s', exec (.getSensorReading tr (i + 1)) s = .next s' ∧
      PldmSays s s' tr "GET_SENSOR_READING" .success
        [if (sensor s i).mode = 2 then 1 else 0, toI32 (sensor s i).effective]) ∧
    (∀ q : PortId, ∃ s', exec (.getStateSensorReadings tr (64 + q)) s = .next s' ∧
      PldmSays s s' tr "GET_STATE_SENSOR_READINGS" .success [(port s q).mode.code]) ∧
    (∀ m : LampId, ∃ s', exec (.getStateSensorReadings tr (80 + m)) s = .next s' ∧
      PldmSays s s' tr "GET_STATE_SENSOR_READINGS" .success [(lamp s m).mode.code]) ∧
    (∀ eid, ∃ s', exec (.setEventReceiver tr eid) s = .next s' ∧
      s' = { s with
        legend := { s.legend with eventReceiver := some (eid, tr) }
        sent := s.sent ++ [.pldm tr "SET_EVENT_RECEIVER" .success []] }) ∧
    (∀ c, ∃ s', exec (.pldmUnsupported tr c) s = .next s' ∧
      PldmSays s s' tr "PLDM_UNSUPPORTED" .unsupportedCmd [c]))

/-- R320, R322, R339, R454, R455. -/
def Obligations.FirmwareUpdates : Prop :=
  (∀ (s : State) (tr : Nat), bindingOpen s tr = true →
    (∃ s' ids, exec (.queryDeviceIdentifiers tr) s = .next s' ∧ PldmSays s s' tr "QUERY_DEVICE_IDENTIFIERS" .success ids ∧
      0x5A04 ∈ ids) ∧
    (∃ s' ps, exec (.getFirmwareParameters tr) s = .next s' ∧ PldmSays s s' tr "GET_FIRMWARE_PARAMETERS" .success ps ∧
      ps.length = 12) ∧
    (∃ s', exec (.getStatus tr) s = .next s' ∧
      PldmSays s s' tr "GET_STATUS" .success [s.legend.update.mode.code, s.legend.update.previous.code]) ∧
    (∀ n, ∃ s', exec (.requestUpdate tr n) s = .next s' ∧
      if s.legend.update.mode = .idle then
        UpdateIs s s' tr "REQUEST_UPDATE" .success { Update.init with
          mode := .learnComponents
          transport := tr
          maxTransfer := n }
      else PldmSays s s' tr "REQUEST_UPDATE" .alreadyInUpdateMode []) ∧
    (∀ c, 0 < c → c ≤ 4 → s.legend.update.mode = .learnComponents →
      ∃ s', exec (.passComponentTable tr c true) s = .next s' ∧
        UpdateIs s s' tr "PASS_COMPONENT_TABLE" .success (moved s .readyXfer)) ∧
    (∀ c size image, 0 < c → c ≤ 4 → s.legend.update.mode = .readyXfer →
      ∃ s', exec (.updateComponent tr c size image) s = .next s' ∧
        UpdateIs s s' tr "UPDATE_COMPONENT" .success { moved s .download with
          component := c
          size := size
          got := 0
          image := image }) ∧
    (s.legend.update.transport = tr → s.legend.update.mode = .download →
      s.legend.update.size ≤ s.legend.update.got →
      ∃ s', exec (.transferComplete tr true) s = .next s' ∧
        UpdateIs s s' tr "TRANSFER_COMPLETE" .success (moved s .verify)) ∧
    (s.legend.update.transport = tr → s.legend.update.mode = .verify →
      ∃ s', exec (.verifyComplete tr) s = .next s' ∧
        if s.legend.update.image.signed = true ∧ s.cart.securityVersion ≤ s.legend.update.image.secVersion then
          UpdateIs s s' tr "VERIFY_COMPLETE" .success (moved s .apply)
        else UpdateIs s s' tr "VERIFY_COMPLETE" .verifyFailed (moved s .readyXfer)) ∧
    (s.legend.update.transport = tr → s.legend.update.mode = .apply →
      ∃ s', exec (.applyComplete tr) s = .next s' ∧
        Tab.find s'.cart.inactive s.legend.update.component = some s.legend.update.image ∧
        (∀ c, c ≠ s.legend.update.component → Tab.find s'.cart.inactive c = Tab.find s.cart.inactive c) ∧
        s'.cart.active = s.cart.active ∧ s'.legend.update.mode = .readyXfer ∧
        s'.legend.update.applied = s.legend.update.applied ++ [s.legend.update.component]) ∧
    (s.legend.update.mode = .download ∨ s.legend.update.mode = .verify ∨ s.legend.update.mode = .apply →
      ∃ s', exec (.cancelUpdateComponent tr) s = .next s' ∧
        UpdateIs s s' tr "CANCEL_UPDATE_COMPONENT" .success (moved s .readyXfer)) ∧
    (s.legend.update.mode ≠ .idle →
      ∃ s', exec (.cancelUpdate tr) s = .next s' ∧
        UpdateIs s s' tr "CANCEL_UPDATE" .success { Update.init with previous := s.legend.update.mode }) ∧
    (s.legend.update.mode = .readyXfer → s.legend.update.applied ≠ [] →
      ∃ s', exec (.activateFirmware tr) s = .next s' ∧ s'.legend.update.mode = .idle ∧
        if allFree s = true then
          s'.cart.active = s.cart.inactive ∧ s'.cart.inactive = s.cart.active ∧ s'.clocks.resetCause = 5 ∧
          s'.mer = Meridian.init
        else s'.cart = { s.cart with activation := true } ∧ s'.mer = s.mer) ∧
    (s.legend.update.mode = .idle → s.cart.bootedActivated = true → s.cart.securityVersion < lowestBooted s →
      lowestBooted s ≤ 64 →
      ∃ s', exec (.activateFirmware tr) s = .next s' ∧ s'.cart = { s.cart with securityVersion := lowestBooted s } ∧
        s' = { s with cart := s'.cart, sent := s.sent ++ [.pldm tr "ACTIVATE_FIRMWARE" .success []] })) ∧
  (∀ (s : State) (tr n : Nat), s.legend.update.mode = .download → s.legend.update.transport = tr →
    s.legend.update.got < s.legend.update.size →
    (let ask := min (min 1024 s.legend.update.maxTransfer) (s.legend.update.size - s.legend.update.got)
     ∃ s', exec (.requestFirmwareData tr n) s = .next s' ∧
       s' = { s with
         legend := { s.legend with update := { s.legend.update with got := s.legend.update.got + min ask n } }
         sent := s.sent ++ [.requestFirmwareData tr s.legend.update.component s.legend.update.got ask] }))

namespace Sys2Proof.Claims

open Sys2Proof Sys2Proof.Machine

/-! ### The whole block -/

/-- The command names an engine (Table 5.1) or a clock domain (Table 16.2) that the part does not have. -/
def namesAbsent : Instr → Bool
  | .tileNop t e _ | .tileEnd t e _ | .tileLoop t e _ | .tileWait t e _ | .tilePost t e _ | .tileSeto t e _
  | .tileAddo t e _ | .tileCopy t e _ | .tileWaitq t e _ | .tileClaunch t e _ | .tileWload t e _
  | .tileStream t e _ | .tileDrain t e _ | .tileVadd t e _ | .tileVsub t e _ | .tileVmul t e _
  | .tileVfma t e _ | .tileVmax t e _ | .tileVmin t e _ | .tileVabs t e _ | .tileVneg t e _ | .tileVcvt t e _
  | .tileVexp2 t e _ | .tileVlog2 t e _ | .tileVrcp t e _ | .tileVrsqrt t e _ | .tileVsig t e _
  | .tileVrsum t e _ | .tileVrmax t e _ | .tileVrssq t e _ | .tileVrot t e _ | .tileVsplit32 t e _
  | .tileVsplit16 t e _ | .tileGxpose t e _ | .tileGperm t e _ => (engineKind t e).isNone
  | .pllCoast d | .switchComplete d | .switchHung d | .forcedSwitchDone d | .crossingRearm d => !domainExists d
  | _ => false

/-- Every bucket of a table holds a level from 0 to `depth` (R352). -/
abbrev Levels (depth : Nat) (t : Tab Bucket) : Prop := ∀ i, (Tab.get Bucket.init t i).level ≤ depth

/-- What every step keeps: the stack memory and its list of erroneous granules in canonical form; the interval, the
power limit and the bucket depth, and those that wait for a boundary, within their ranges (R19, R354, R425);
stretch level and demands at most 2, the rung in force and the rung demanded at most 4 (R422 to R424); and every bucket's level at most the depth
(R352). -/
def Kept (s : State) : Prop :=
  Mem.wf s.stack = true ∧ Tab.wf 0 s.stackErr = true ∧
  (2 ≤ s.mer.steps ∧ s.mer.steps ≤ 32) ∧ (∀ v, s.mer.pendingSteps = some v → 2 ≤ v ∧ v ≤ 32) ∧
  (1000 ≤ s.thermal.powerLimit.toNat ∧ s.thermal.powerLimit.toNat ≤ 2200) ∧
  s.mer.level ≤ 2 ∧ s.thermal.demand ≤ 2 ∧ s.thermal.powerDemand ≤ 2 ∧ s.thermal.rung ≤ 4 ∧ s.thermal.demanded ≤ 4 ∧
  (1 ≤ s.log.depth ∧ s.log.depth ≤ 64) ∧ (∀ v, s.log.pendingDepth = some v → 1 ≤ v ∧ v ≤ 64) ∧
  Levels s.log.depth s.log.tileBuckets ∧ Levels s.log.depth s.log.chanBuckets ∧ Levels s.log.depth s.log.stewBuckets

end Sys2Proof.Claims

/-- The queue is the model's own (DESIGN CHOICE, log entry 1). -/
def Obligations.StepRunsTheFrontCommand : Prop :=
  (∀ (s : State) (c : Instr) (rest : List Instr), step { s with pending := c :: rest } = exec c { s with pending := rest }) ∧
  (∀ s : State, s.pending = [] → step s = .next s) ∧
  (∀ (s : State) (nbits w : Nat), s.withFetchWord nbits w = s)

/-- The default columns of the object tables; the value of unwritten stack memory is the model's (log entry 3). -/
def Obligations.ResetHoldsTheDefaults : Prop :=
  State.reset.pending = [] ∧ State.reset.sent = [] ∧
  State.reset.mer.tick = 0 ∧ State.reset.mer.steps = 8 ∧ intervalNs State.reset.mer = 1000000 ∧
  State.reset.legBudget = 1137600 ∧
  (∀ p : ParcelId, (State.reset.parcel p).ctl.mode = .free ∧ (State.reset.parcel p).ctl.job = .none ∧
    (State.reset.parcel p).ctl.mask = 0) ∧
  (∀ k : SectorId, (Tab.get Sector.init State.reset.sectors k).retiredTiles = 0 ∧
    (Tab.get Sector.init State.reset.sectors k).retiredChannels = 0) ∧
  (∀ t : TileId, (State.reset.tile t).formatStatus = 0) ∧
  (∀ c : ChannelId, (State.reset.channel c).celuloFault = 0 ∧ (State.reset.channel c).celuloExceptions = 0) ∧
  (∀ q : PortId, (port State.reset q).mode = .dark) ∧
  State.reset.clocks.resetCause = 0 ∧
  State.reset.thermal.rung = 0 ∧ State.reset.mer.level = 0 ∧ State.reset.thermal.demand = 0 ∧
  State.reset.thermal.powerLimit = 2200 ∧ State.reset.log.depth = 16 ∧ State.reset.log.nextSeq = 1 ∧
  (∀ a, Mem.read State.reset.stack a = 0) ∧ Kept State.reset

/-- R19, R352, R354, R423 to R425. -/
def Obligations.StepKeepsTheInvariant : Prop :=
  ∀ s s' : State, Kept s → step s = .next s' → Kept s'

/-- Tables 5.1 and 16.2. -/
def Obligations.EveryCommandHasAnEffect : Prop :=
  ∀ (c : Instr) (s : State),
    if namesAbsent c = true then exec c s = .fault .noSuchInstance
    else ∃ s', exec c s = .next s' ∧ s'.pending = s.pending
end

