-- ==== Sys2Proof/Laws/State.lean ====
section
/-! SUPPORT. What each update of the state leaves alone: one lemma per field per update, true by rfl. -/

namespace Sys2Proof.Machine.State

variable (s : State)

/-! ### setTile -/

@[simp] theorem setTile_pending (t : Nat) (v : Tile) : (s.setTile t v).pending = s.pending := rfl
@[simp] theorem setTile_sent (t : Nat) (v : Tile) : (s.setTile t v).sent = s.sent := rfl
@[simp] theorem setTile_channels (t : Nat) (v : Tile) : (s.setTile t v).channels = s.channels := rfl
@[simp] theorem setTile_stack (t : Nat) (v : Tile) : (s.setTile t v).stack = s.stack := rfl
@[simp] theorem setTile_stackErr (t : Nat) (v : Tile) : (s.setTile t v).stackErr = s.stackErr := rfl
@[simp] theorem setTile_lines (t : Nat) (v : Tile) : (s.setTile t v).lines = s.lines := rfl
@[simp] theorem setTile_stackModes (t : Nat) (v : Tile) : (s.setTile t v).stackModes = s.stackModes := rfl
@[simp] theorem setTile_units (t : Nat) (v : Tile) : (s.setTile t v).units = s.units := rfl
@[simp] theorem setTile_posts (t : Nat) (v : Tile) : (s.setTile t v).posts = s.posts := rfl
@[simp] theorem setTile_launches (t : Nat) (v : Tile) : (s.setTile t v).launches = s.launches := rfl
@[simp] theorem setTile_parcels (t : Nat) (v : Tile) : (s.setTile t v).parcels = s.parcels := rfl
@[simp] theorem setTile_mer (t : Nat) (v : Tile) : (s.setTile t v).mer = s.mer := rfl
@[simp] theorem setTile_sectors (t : Nat) (v : Tile) : (s.setTile t v).sectors = s.sectors := rfl
@[simp] theorem setTile_spineFailed (t : Nat) (v : Tile) : (s.setTile t v).spineFailed = s.spineFailed := rfl
@[simp] theorem setTile_bridgeFailed (t : Nat) (v : Tile) : (s.setTile t v).bridgeFailed = s.bridgeFailed := rfl
@[simp] theorem setTile_log (t : Nat) (v : Tile) : (s.setTile t v).log = s.log := rfl
@[simp] theorem setTile_cart (t : Nat) (v : Tile) : (s.setTile t v).cart = s.cart := rfl
@[simp] theorem setTile_ports (t : Nat) (v : Tile) : (s.setTile t v).ports = s.ports := rfl
@[simp] theorem setTile_lamps (t : Nat) (v : Tile) : (s.setTile t v).lamps = s.lamps := rfl
@[simp] theorem setTile_clocks (t : Nat) (v : Tile) : (s.setTile t v).clocks = s.clocks := rfl
@[simp] theorem setTile_supply (t : Nat) (v : Tile) : (s.setTile t v).supply = s.supply := rfl
@[simp] theorem setTile_sensors (t : Nat) (v : Tile) : (s.setTile t v).sensors = s.sensors := rfl
@[simp] theorem setTile_thermal (t : Nat) (v : Tile) : (s.setTile t v).thermal = s.thermal := rfl
@[simp] theorem setTile_legend (t : Nat) (v : Tile) : (s.setTile t v).legend = s.legend := rfl
@[simp] theorem setTile_vfs (t : Nat) (v : Tile) : (s.setTile t v).vfs = s.vfs := rfl
@[simp] theorem setTile_irq (t : Nat) (v : Tile) : (s.setTile t v).irq = s.irq := rfl
@[simp] theorem setTile_fresh (t : Nat) (v : Tile) : (s.setTile t v).fresh = s.fresh := rfl

/-! ### modTile -/

@[simp] theorem modTile_pending (t : Nat) (f : Tile → Tile) : (s.modTile t f).pending = s.pending := rfl
@[simp] theorem modTile_sent (t : Nat) (f : Tile → Tile) : (s.modTile t f).sent = s.sent := rfl
@[simp] theorem modTile_channels (t : Nat) (f : Tile → Tile) : (s.modTile t f).channels = s.channels := rfl
@[simp] theorem modTile_stack (t : Nat) (f : Tile → Tile) : (s.modTile t f).stack = s.stack := rfl
@[simp] theorem modTile_stackErr (t : Nat) (f : Tile → Tile) : (s.modTile t f).stackErr = s.stackErr := rfl
@[simp] theorem modTile_lines (t : Nat) (f : Tile → Tile) : (s.modTile t f).lines = s.lines := rfl
@[simp] theorem modTile_stackModes (t : Nat) (f : Tile → Tile) : (s.modTile t f).stackModes = s.stackModes := rfl
@[simp] theorem modTile_units (t : Nat) (f : Tile → Tile) : (s.modTile t f).units = s.units := rfl
@[simp] theorem modTile_posts (t : Nat) (f : Tile → Tile) : (s.modTile t f).posts = s.posts := rfl
@[simp] theorem modTile_launches (t : Nat) (f : Tile → Tile) : (s.modTile t f).launches = s.launches := rfl
@[simp] theorem modTile_parcels (t : Nat) (f : Tile → Tile) : (s.modTile t f).parcels = s.parcels := rfl
@[simp] theorem modTile_mer (t : Nat) (f : Tile → Tile) : (s.modTile t f).mer = s.mer := rfl
@[simp] theorem modTile_sectors (t : Nat) (f : Tile → Tile) : (s.modTile t f).sectors = s.sectors := rfl
@[simp] theorem modTile_spineFailed (t : Nat) (f : Tile → Tile) : (s.modTile t f).spineFailed = s.spineFailed := rfl
@[simp] theorem modTile_bridgeFailed (t : Nat) (f : Tile → Tile) : (s.modTile t f).bridgeFailed = s.bridgeFailed := rfl
@[simp] theorem modTile_log (t : Nat) (f : Tile → Tile) : (s.modTile t f).log = s.log := rfl
@[simp] theorem modTile_cart (t : Nat) (f : Tile → Tile) : (s.modTile t f).cart = s.cart := rfl
@[simp] theorem modTile_ports (t : Nat) (f : Tile → Tile) : (s.modTile t f).ports = s.ports := rfl
@[simp] theorem modTile_lamps (t : Nat) (f : Tile → Tile) : (s.modTile t f).lamps = s.lamps := rfl
@[simp] theorem modTile_clocks (t : Nat) (f : Tile → Tile) : (s.modTile t f).clocks = s.clocks := rfl
@[simp] theorem modTile_supply (t : Nat) (f : Tile → Tile) : (s.modTile t f).supply = s.supply := rfl
@[simp] theorem modTile_sensors (t : Nat) (f : Tile → Tile) : (s.modTile t f).sensors = s.sensors := rfl
@[simp] theorem modTile_thermal (t : Nat) (f : Tile → Tile) : (s.modTile t f).thermal = s.thermal := rfl
@[simp] theorem modTile_legend (t : Nat) (f : Tile → Tile) : (s.modTile t f).legend = s.legend := rfl
@[simp] theorem modTile_vfs (t : Nat) (f : Tile → Tile) : (s.modTile t f).vfs = s.vfs := rfl
@[simp] theorem modTile_irq (t : Nat) (f : Tile → Tile) : (s.modTile t f).irq = s.irq := rfl
@[simp] theorem modTile_fresh (t : Nat) (f : Tile → Tile) : (s.modTile t f).fresh = s.fresh := rfl

/-! ### setEngine -/

@[simp] theorem setEngine_pending (t e : Nat) (v : Engine) : (s.setEngine t e v).pending = s.pending := rfl
@[simp] theorem setEngine_sent (t e : Nat) (v : Engine) : (s.setEngine t e v).sent = s.sent := rfl
@[simp] theorem setEngine_channels (t e : Nat) (v : Engine) : (s.setEngine t e v).channels = s.channels := rfl
@[simp] theorem setEngine_stack (t e : Nat) (v : Engine) : (s.setEngine t e v).stack = s.stack := rfl
@[simp] theorem setEngine_stackErr (t e : Nat) (v : Engine) : (s.setEngine t e v).stackErr = s.stackErr := rfl
@[simp] theorem setEngine_lines (t e : Nat) (v : Engine) : (s.setEngine t e v).lines = s.lines := rfl
@[simp] theorem setEngine_stackModes (t e : Nat) (v : Engine) : (s.setEngine t e v).stackModes = s.stackModes := rfl
@[simp] theorem setEngine_units (t e : Nat) (v : Engine) : (s.setEngine t e v).units = s.units := rfl
@[simp] theorem setEngine_posts (t e : Nat) (v : Engine) : (s.setEngine t e v).posts = s.posts := rfl
@[simp] theorem setEngine_launches (t e : Nat) (v : Engine) : (s.setEngine t e v).launches = s.launches := rfl
@[simp] theorem setEngine_parcels (t e : Nat) (v : Engine) : (s.setEngine t e v).parcels = s.parcels := rfl
@[simp] theorem setEngine_mer (t e : Nat) (v : Engine) : (s.setEngine t e v).mer = s.mer := rfl
@[simp] theorem setEngine_sectors (t e : Nat) (v : Engine) : (s.setEngine t e v).sectors = s.sectors := rfl
@[simp] theorem setEngine_spineFailed (t e : Nat) (v : Engine) : (s.setEngine t e v).spineFailed = s.spineFailed := rfl
@[simp] theorem setEngine_bridgeFailed (t e : Nat) (v : Engine) : (s.setEngine t e v).bridgeFailed = s.bridgeFailed := rfl
@[simp] theorem setEngine_log (t e : Nat) (v : Engine) : (s.setEngine t e v).log = s.log := rfl
@[simp] theorem setEngine_cart (t e : Nat) (v : Engine) : (s.setEngine t e v).cart = s.cart := rfl
@[simp] theorem setEngine_ports (t e : Nat) (v : Engine) : (s.setEngine t e v).ports = s.ports := rfl
@[simp] theorem setEngine_lamps (t e : Nat) (v : Engine) : (s.setEngine t e v).lamps = s.lamps := rfl
@[simp] theorem setEngine_clocks (t e : Nat) (v : Engine) : (s.setEngine t e v).clocks = s.clocks := rfl
@[simp] theorem setEngine_supply (t e : Nat) (v : Engine) : (s.setEngine t e v).supply = s.supply := rfl
@[simp] theorem setEngine_sensors (t e : Nat) (v : Engine) : (s.setEngine t e v).sensors = s.sensors := rfl
@[simp] theorem setEngine_thermal (t e : Nat) (v : Engine) : (s.setEngine t e v).thermal = s.thermal := rfl
@[simp] theorem setEngine_legend (t e : Nat) (v : Engine) : (s.setEngine t e v).legend = s.legend := rfl
@[simp] theorem setEngine_vfs (t e : Nat) (v : Engine) : (s.setEngine t e v).vfs = s.vfs := rfl
@[simp] theorem setEngine_irq (t e : Nat) (v : Engine) : (s.setEngine t e v).irq = s.irq := rfl
@[simp] theorem setEngine_fresh (t e : Nat) (v : Engine) : (s.setEngine t e v).fresh = s.fresh := rfl

/-! ### modEngine -/

@[simp] theorem modEngine_pending (t e : Nat) (f : Engine → Engine) : (s.modEngine t e f).pending = s.pending := rfl
@[simp] theorem modEngine_sent (t e : Nat) (f : Engine → Engine) : (s.modEngine t e f).sent = s.sent := rfl
@[simp] theorem modEngine_channels (t e : Nat) (f : Engine → Engine) : (s.modEngine t e f).channels = s.channels := rfl
@[simp] theorem modEngine_stack (t e : Nat) (f : Engine → Engine) : (s.modEngine t e f).stack = s.stack := rfl
@[simp] theorem modEngine_stackErr (t e : Nat) (f : Engine → Engine) : (s.modEngine t e f).stackErr = s.stackErr := rfl
@[simp] theorem modEngine_lines (t e : Nat) (f : Engine → Engine) : (s.modEngine t e f).lines = s.lines := rfl
@[simp] theorem modEngine_stackModes (t e : Nat) (f : Engine → Engine) : (s.modEngine t e f).stackModes = s.stackModes := rfl
@[simp] theorem modEngine_units (t e : Nat) (f : Engine → Engine) : (s.modEngine t e f).units = s.units := rfl
@[simp] theorem modEngine_posts (t e : Nat) (f : Engine → Engine) : (s.modEngine t e f).posts = s.posts := rfl
@[simp] theorem modEngine_launches (t e : Nat) (f : Engine → Engine) : (s.modEngine t e f).launches = s.launches := rfl
@[simp] theorem modEngine_parcels (t e : Nat) (f : Engine → Engine) : (s.modEngine t e f).parcels = s.parcels := rfl
@[simp] theorem modEngine_mer (t e : Nat) (f : Engine → Engine) : (s.modEngine t e f).mer = s.mer := rfl
@[simp] theorem modEngine_sectors (t e : Nat) (f : Engine → Engine) : (s.modEngine t e f).sectors = s.sectors := rfl
@[simp] theorem modEngine_spineFailed (t e : Nat) (f : Engine → Engine) : (s.modEngine t e f).spineFailed = s.spineFailed := rfl
@[simp] theorem modEngine_bridgeFailed (t e : Nat) (f : Engine → Engine) : (s.modEngine t e f).bridgeFailed = s.bridgeFailed := rfl
@[simp] theorem modEngine_log (t e : Nat) (f : Engine → Engine) : (s.modEngine t e f).log = s.log := rfl
@[simp] theorem modEngine_cart (t e : Nat) (f : Engine → Engine) : (s.modEngine t e f).cart = s.cart := rfl
@[simp] theorem modEngine_ports (t e : Nat) (f : Engine → Engine) : (s.modEngine t e f).ports = s.ports := rfl
@[simp] theorem modEngine_lamps (t e : Nat) (f : Engine → Engine) : (s.modEngine t e f).lamps = s.lamps := rfl
@[simp] theorem modEngine_clocks (t e : Nat) (f : Engine → Engine) : (s.modEngine t e f).clocks = s.clocks := rfl
@[simp] theorem modEngine_supply (t e : Nat) (f : Engine → Engine) : (s.modEngine t e f).supply = s.supply := rfl
@[simp] theorem modEngine_sensors (t e : Nat) (f : Engine → Engine) : (s.modEngine t e f).sensors = s.sensors := rfl
@[simp] theorem modEngine_thermal (t e : Nat) (f : Engine → Engine) : (s.modEngine t e f).thermal = s.thermal := rfl
@[simp] theorem modEngine_legend (t e : Nat) (f : Engine → Engine) : (s.modEngine t e f).legend = s.legend := rfl
@[simp] theorem modEngine_vfs (t e : Nat) (f : Engine → Engine) : (s.modEngine t e f).vfs = s.vfs := rfl
@[simp] theorem modEngine_irq (t e : Nat) (f : Engine → Engine) : (s.modEngine t e f).irq = s.irq := rfl
@[simp] theorem modEngine_fresh (t e : Nat) (f : Engine → Engine) : (s.modEngine t e f).fresh = s.fresh := rfl

/-! ### modCopyChan -/

@[simp] theorem modCopyChan_pending (t e c : Nat) (f : CopyChan → CopyChan) : (s.modCopyChan t e c f).pending = s.pending := rfl
@[simp] theorem modCopyChan_sent (t e c : Nat) (f : CopyChan → CopyChan) : (s.modCopyChan t e c f).sent = s.sent := rfl
@[simp] theorem modCopyChan_channels (t e c : Nat) (f : CopyChan → CopyChan) : (s.modCopyChan t e c f).channels = s.channels := rfl
@[simp] theorem modCopyChan_stack (t e c : Nat) (f : CopyChan → CopyChan) : (s.modCopyChan t e c f).stack = s.stack := rfl
@[simp] theorem modCopyChan_stackErr (t e c : Nat) (f : CopyChan → CopyChan) : (s.modCopyChan t e c f).stackErr = s.stackErr := rfl
@[simp] theorem modCopyChan_lines (t e c : Nat) (f : CopyChan → CopyChan) : (s.modCopyChan t e c f).lines = s.lines := rfl
@[simp] theorem modCopyChan_stackModes (t e c : Nat) (f : CopyChan → CopyChan) : (s.modCopyChan t e c f).stackModes = s.stackModes := rfl
@[simp] theorem modCopyChan_units (t e c : Nat) (f : CopyChan → CopyChan) : (s.modCopyChan t e c f).units = s.units := rfl
@[simp] theorem modCopyChan_posts (t e c : Nat) (f : CopyChan → CopyChan) : (s.modCopyChan t e c f).posts = s.posts := rfl
@[simp] theorem modCopyChan_launches (t e c : Nat) (f : CopyChan → CopyChan) : (s.modCopyChan t e c f).launches = s.launches := rfl
@[simp] theorem modCopyChan_parcels (t e c : Nat) (f : CopyChan → CopyChan) : (s.modCopyChan t e c f).parcels = s.parcels := rfl
@[simp] theorem modCopyChan_mer (t e c : Nat) (f : CopyChan → CopyChan) : (s.modCopyChan t e c f).mer = s.mer := rfl
@[simp] theorem modCopyChan_sectors (t e c : Nat) (f : CopyChan → CopyChan) : (s.modCopyChan t e c f).sectors = s.sectors := rfl
@[simp] theorem modCopyChan_spineFailed (t e c : Nat) (f : CopyChan → CopyChan) : (s.modCopyChan t e c f).spineFailed = s.spineFailed := rfl
@[simp] theorem modCopyChan_bridgeFailed (t e c : Nat) (f : CopyChan → CopyChan) : (s.modCopyChan t e c f).bridgeFailed = s.bridgeFailed := rfl
@[simp] theorem modCopyChan_log (t e c : Nat) (f : CopyChan → CopyChan) : (s.modCopyChan t e c f).log = s.log := rfl
@[simp] theorem modCopyChan_cart (t e c : Nat) (f : CopyChan → CopyChan) : (s.modCopyChan t e c f).cart = s.cart := rfl
@[simp] theorem modCopyChan_ports (t e c : Nat) (f : CopyChan → CopyChan) : (s.modCopyChan t e c f).ports = s.ports := rfl
@[simp] theorem modCopyChan_lamps (t e c : Nat) (f : CopyChan → CopyChan) : (s.modCopyChan t e c f).lamps = s.lamps := rfl
@[simp] theorem modCopyChan_clocks (t e c : Nat) (f : CopyChan → CopyChan) : (s.modCopyChan t e c f).clocks = s.clocks := rfl
@[simp] theorem modCopyChan_supply (t e c : Nat) (f : CopyChan → CopyChan) : (s.modCopyChan t e c f).supply = s.supply := rfl
@[simp] theorem modCopyChan_sensors (t e c : Nat) (f : CopyChan → CopyChan) : (s.modCopyChan t e c f).sensors = s.sensors := rfl
@[simp] theorem modCopyChan_thermal (t e c : Nat) (f : CopyChan → CopyChan) : (s.modCopyChan t e c f).thermal = s.thermal := rfl
@[simp] theorem modCopyChan_legend (t e c : Nat) (f : CopyChan → CopyChan) : (s.modCopyChan t e c f).legend = s.legend := rfl
@[simp] theorem modCopyChan_vfs (t e c : Nat) (f : CopyChan → CopyChan) : (s.modCopyChan t e c f).vfs = s.vfs := rfl
@[simp] theorem modCopyChan_irq (t e c : Nat) (f : CopyChan → CopyChan) : (s.modCopyChan t e c f).irq = s.irq := rfl
@[simp] theorem modCopyChan_fresh (t e c : Nat) (f : CopyChan → CopyChan) : (s.modCopyChan t e c f).fresh = s.fresh := rfl

/-! ### modChannel -/

@[simp] theorem modChannel_pending (c : Nat) (f : Channel → Channel) : (s.modChannel c f).pending = s.pending := rfl
@[simp] theorem modChannel_sent (c : Nat) (f : Channel → Channel) : (s.modChannel c f).sent = s.sent := rfl
@[simp] theorem modChannel_tiles (c : Nat) (f : Channel → Channel) : (s.modChannel c f).tiles = s.tiles := rfl
@[simp] theorem modChannel_stack (c : Nat) (f : Channel → Channel) : (s.modChannel c f).stack = s.stack := rfl
@[simp] theorem modChannel_stackErr (c : Nat) (f : Channel → Channel) : (s.modChannel c f).stackErr = s.stackErr := rfl
@[simp] theorem modChannel_lines (c : Nat) (f : Channel → Channel) : (s.modChannel c f).lines = s.lines := rfl
@[simp] theorem modChannel_stackModes (c : Nat) (f : Channel → Channel) : (s.modChannel c f).stackModes = s.stackModes := rfl
@[simp] theorem modChannel_units (c : Nat) (f : Channel → Channel) : (s.modChannel c f).units = s.units := rfl
@[simp] theorem modChannel_posts (c : Nat) (f : Channel → Channel) : (s.modChannel c f).posts = s.posts := rfl
@[simp] theorem modChannel_launches (c : Nat) (f : Channel → Channel) : (s.modChannel c f).launches = s.launches := rfl
@[simp] theorem modChannel_parcels (c : Nat) (f : Channel → Channel) : (s.modChannel c f).parcels = s.parcels := rfl
@[simp] theorem modChannel_mer (c : Nat) (f : Channel → Channel) : (s.modChannel c f).mer = s.mer := rfl
@[simp] theorem modChannel_sectors (c : Nat) (f : Channel → Channel) : (s.modChannel c f).sectors = s.sectors := rfl
@[simp] theorem modChannel_spineFailed (c : Nat) (f : Channel → Channel) : (s.modChannel c f).spineFailed = s.spineFailed := rfl
@[simp] theorem modChannel_bridgeFailed (c : Nat) (f : Channel → Channel) : (s.modChannel c f).bridgeFailed = s.bridgeFailed := rfl
@[simp] theorem modChannel_log (c : Nat) (f : Channel → Channel) : (s.modChannel c f).log = s.log := rfl
@[simp] theorem modChannel_cart (c : Nat) (f : Channel → Channel) : (s.modChannel c f).cart = s.cart := rfl
@[simp] theorem modChannel_ports (c : Nat) (f : Channel → Channel) : (s.modChannel c f).ports = s.ports := rfl
@[simp] theorem modChannel_lamps (c : Nat) (f : Channel → Channel) : (s.modChannel c f).lamps = s.lamps := rfl
@[simp] theorem modChannel_clocks (c : Nat) (f : Channel → Channel) : (s.modChannel c f).clocks = s.clocks := rfl
@[simp] theorem modChannel_supply (c : Nat) (f : Channel → Channel) : (s.modChannel c f).supply = s.supply := rfl
@[simp] theorem modChannel_sensors (c : Nat) (f : Channel → Channel) : (s.modChannel c f).sensors = s.sensors := rfl
@[simp] theorem modChannel_thermal (c : Nat) (f : Channel → Channel) : (s.modChannel c f).thermal = s.thermal := rfl
@[simp] theorem modChannel_legend (c : Nat) (f : Channel → Channel) : (s.modChannel c f).legend = s.legend := rfl
@[simp] theorem modChannel_vfs (c : Nat) (f : Channel → Channel) : (s.modChannel c f).vfs = s.vfs := rfl
@[simp] theorem modChannel_irq (c : Nat) (f : Channel → Channel) : (s.modChannel c f).irq = s.irq := rfl
@[simp] theorem modChannel_fresh (c : Nat) (f : Channel → Channel) : (s.modChannel c f).fresh = s.fresh := rfl

/-! ### setUnit -/

@[simp] theorem setUnit_pending (u : Nat) (v : CUnit) : (s.setUnit u v).pending = s.pending := rfl
@[simp] theorem setUnit_sent (u : Nat) (v : CUnit) : (s.setUnit u v).sent = s.sent := rfl
@[simp] theorem setUnit_tiles (u : Nat) (v : CUnit) : (s.setUnit u v).tiles = s.tiles := rfl
@[simp] theorem setUnit_channels (u : Nat) (v : CUnit) : (s.setUnit u v).channels = s.channels := rfl
@[simp] theorem setUnit_stack (u : Nat) (v : CUnit) : (s.setUnit u v).stack = s.stack := rfl
@[simp] theorem setUnit_stackErr (u : Nat) (v : CUnit) : (s.setUnit u v).stackErr = s.stackErr := rfl
@[simp] theorem setUnit_lines (u : Nat) (v : CUnit) : (s.setUnit u v).lines = s.lines := rfl
@[simp] theorem setUnit_stackModes (u : Nat) (v : CUnit) : (s.setUnit u v).stackModes = s.stackModes := rfl
@[simp] theorem setUnit_posts (u : Nat) (v : CUnit) : (s.setUnit u v).posts = s.posts := rfl
@[simp] theorem setUnit_launches (u : Nat) (v : CUnit) : (s.setUnit u v).launches = s.launches := rfl
@[simp] theorem setUnit_parcels (u : Nat) (v : CUnit) : (s.setUnit u v).parcels = s.parcels := rfl
@[simp] theorem setUnit_mer (u : Nat) (v : CUnit) : (s.setUnit u v).mer = s.mer := rfl
@[simp] theorem setUnit_sectors (u : Nat) (v : CUnit) : (s.setUnit u v).sectors = s.sectors := rfl
@[simp] theorem setUnit_spineFailed (u : Nat) (v : CUnit) : (s.setUnit u v).spineFailed = s.spineFailed := rfl
@[simp] theorem setUnit_bridgeFailed (u : Nat) (v : CUnit) : (s.setUnit u v).bridgeFailed = s.bridgeFailed := rfl
@[simp] theorem setUnit_log (u : Nat) (v : CUnit) : (s.setUnit u v).log = s.log := rfl
@[simp] theorem setUnit_cart (u : Nat) (v : CUnit) : (s.setUnit u v).cart = s.cart := rfl
@[simp] theorem setUnit_ports (u : Nat) (v : CUnit) : (s.setUnit u v).ports = s.ports := rfl
@[simp] theorem setUnit_lamps (u : Nat) (v : CUnit) : (s.setUnit u v).lamps = s.lamps := rfl
@[simp] theorem setUnit_clocks (u : Nat) (v : CUnit) : (s.setUnit u v).clocks = s.clocks := rfl
@[simp] theorem setUnit_supply (u : Nat) (v : CUnit) : (s.setUnit u v).supply = s.supply := rfl
@[simp] theorem setUnit_sensors (u : Nat) (v : CUnit) : (s.setUnit u v).sensors = s.sensors := rfl
@[simp] theorem setUnit_thermal (u : Nat) (v : CUnit) : (s.setUnit u v).thermal = s.thermal := rfl
@[simp] theorem setUnit_legend (u : Nat) (v : CUnit) : (s.setUnit u v).legend = s.legend := rfl
@[simp] theorem setUnit_vfs (u : Nat) (v : CUnit) : (s.setUnit u v).vfs = s.vfs := rfl
@[simp] theorem setUnit_irq (u : Nat) (v : CUnit) : (s.setUnit u v).irq = s.irq := rfl
@[simp] theorem setUnit_fresh (u : Nat) (v : CUnit) : (s.setUnit u v).fresh = s.fresh := rfl

/-! ### modUnit -/

@[simp] theorem modUnit_pending (u : Nat) (f : CUnit → CUnit) : (s.modUnit u f).pending = s.pending := rfl
@[simp] theorem modUnit_sent (u : Nat) (f : CUnit → CUnit) : (s.modUnit u f).sent = s.sent := rfl
@[simp] theorem modUnit_tiles (u : Nat) (f : CUnit → CUnit) : (s.modUnit u f).tiles = s.tiles := rfl
@[simp] theorem modUnit_channels (u : Nat) (f : CUnit → CUnit) : (s.modUnit u f).channels = s.channels := rfl
@[simp] theorem modUnit_stack (u : Nat) (f : CUnit → CUnit) : (s.modUnit u f).stack = s.stack := rfl
@[simp] theorem modUnit_stackErr (u : Nat) (f : CUnit → CUnit) : (s.modUnit u f).stackErr = s.stackErr := rfl
@[simp] theorem modUnit_lines (u : Nat) (f : CUnit → CUnit) : (s.modUnit u f).lines = s.lines := rfl
@[simp] theorem modUnit_stackModes (u : Nat) (f : CUnit → CUnit) : (s.modUnit u f).stackModes = s.stackModes := rfl
@[simp] theorem modUnit_posts (u : Nat) (f : CUnit → CUnit) : (s.modUnit u f).posts = s.posts := rfl
@[simp] theorem modUnit_launches (u : Nat) (f : CUnit → CUnit) : (s.modUnit u f).launches = s.launches := rfl
@[simp] theorem modUnit_parcels (u : Nat) (f : CUnit → CUnit) : (s.modUnit u f).parcels = s.parcels := rfl
@[simp] theorem modUnit_mer (u : Nat) (f : CUnit → CUnit) : (s.modUnit u f).mer = s.mer := rfl
@[simp] theorem modUnit_sectors (u : Nat) (f : CUnit → CUnit) : (s.modUnit u f).sectors = s.sectors := rfl
@[simp] theorem modUnit_spineFailed (u : Nat) (f : CUnit → CUnit) : (s.modUnit u f).spineFailed = s.spineFailed := rfl
@[simp] theorem modUnit_bridgeFailed (u : Nat) (f : CUnit → CUnit) : (s.modUnit u f).bridgeFailed = s.bridgeFailed := rfl
@[simp] theorem modUnit_log (u : Nat) (f : CUnit → CUnit) : (s.modUnit u f).log = s.log := rfl
@[simp] theorem modUnit_cart (u : Nat) (f : CUnit → CUnit) : (s.modUnit u f).cart = s.cart := rfl
@[simp] theorem modUnit_ports (u : Nat) (f : CUnit → CUnit) : (s.modUnit u f).ports = s.ports := rfl
@[simp] theorem modUnit_lamps (u : Nat) (f : CUnit → CUnit) : (s.modUnit u f).lamps = s.lamps := rfl
@[simp] theorem modUnit_clocks (u : Nat) (f : CUnit → CUnit) : (s.modUnit u f).clocks = s.clocks := rfl
@[simp] theorem modUnit_supply (u : Nat) (f : CUnit → CUnit) : (s.modUnit u f).supply = s.supply := rfl
@[simp] theorem modUnit_sensors (u : Nat) (f : CUnit → CUnit) : (s.modUnit u f).sensors = s.sensors := rfl
@[simp] theorem modUnit_thermal (u : Nat) (f : CUnit → CUnit) : (s.modUnit u f).thermal = s.thermal := rfl
@[simp] theorem modUnit_legend (u : Nat) (f : CUnit → CUnit) : (s.modUnit u f).legend = s.legend := rfl
@[simp] theorem modUnit_vfs (u : Nat) (f : CUnit → CUnit) : (s.modUnit u f).vfs = s.vfs := rfl
@[simp] theorem modUnit_irq (u : Nat) (f : CUnit → CUnit) : (s.modUnit u f).irq = s.irq := rfl
@[simp] theorem modUnit_fresh (u : Nat) (f : CUnit → CUnit) : (s.modUnit u f).fresh = s.fresh := rfl

/-! ### setParcel -/

@[simp] theorem setParcel_pending (p : Nat) (v : Parcel) : (s.setParcel p v).pending = s.pending := rfl
@[simp] theorem setParcel_sent (p : Nat) (v : Parcel) : (s.setParcel p v).sent = s.sent := rfl
@[simp] theorem setParcel_tiles (p : Nat) (v : Parcel) : (s.setParcel p v).tiles = s.tiles := rfl
@[simp] theorem setParcel_channels (p : Nat) (v : Parcel) : (s.setParcel p v).channels = s.channels := rfl
@[simp] theorem setParcel_stack (p : Nat) (v : Parcel) : (s.setParcel p v).stack = s.stack := rfl
@[simp] theorem setParcel_stackErr (p : Nat) (v : Parcel) : (s.setParcel p v).stackErr = s.stackErr := rfl
@[simp] theorem setParcel_lines (p : Nat) (v : Parcel) : (s.setParcel p v).lines = s.lines := rfl
@[simp] theorem setParcel_stackModes (p : Nat) (v : Parcel) : (s.setParcel p v).stackModes = s.stackModes := rfl
@[simp] theorem setParcel_units (p : Nat) (v : Parcel) : (s.setParcel p v).units = s.units := rfl
@[simp] theorem setParcel_posts (p : Nat) (v : Parcel) : (s.setParcel p v).posts = s.posts := rfl
@[simp] theorem setParcel_launches (p : Nat) (v : Parcel) : (s.setParcel p v).launches = s.launches := rfl
@[simp] theorem setParcel_mer (p : Nat) (v : Parcel) : (s.setParcel p v).mer = s.mer := rfl
@[simp] theorem setParcel_sectors (p : Nat) (v : Parcel) : (s.setParcel p v).sectors = s.sectors := rfl
@[simp] theorem setParcel_spineFailed (p : Nat) (v : Parcel) : (s.setParcel p v).spineFailed = s.spineFailed := rfl
@[simp] theorem setParcel_bridgeFailed (p : Nat) (v : Parcel) : (s.setParcel p v).bridgeFailed = s.bridgeFailed := rfl
@[simp] theorem setParcel_log (p : Nat) (v : Parcel) : (s.setParcel p v).log = s.log := rfl
@[simp] theorem setParcel_cart (p : Nat) (v : Parcel) : (s.setParcel p v).cart = s.cart := rfl
@[simp] theorem setParcel_ports (p : Nat) (v : Parcel) : (s.setParcel p v).ports = s.ports := rfl
@[simp] theorem setParcel_lamps (p : Nat) (v : Parcel) : (s.setParcel p v).lamps = s.lamps := rfl
@[simp] theorem setParcel_clocks (p : Nat) (v : Parcel) : (s.setParcel p v).clocks = s.clocks := rfl
@[simp] theorem setParcel_supply (p : Nat) (v : Parcel) : (s.setParcel p v).supply = s.supply := rfl
@[simp] theorem setParcel_sensors (p : Nat) (v : Parcel) : (s.setParcel p v).sensors = s.sensors := rfl
@[simp] theorem setParcel_thermal (p : Nat) (v : Parcel) : (s.setParcel p v).thermal = s.thermal := rfl
@[simp] theorem setParcel_legend (p : Nat) (v : Parcel) : (s.setParcel p v).legend = s.legend := rfl
@[simp] theorem setParcel_vfs (p : Nat) (v : Parcel) : (s.setParcel p v).vfs = s.vfs := rfl
@[simp] theorem setParcel_irq (p : Nat) (v : Parcel) : (s.setParcel p v).irq = s.irq := rfl
@[simp] theorem setParcel_fresh (p : Nat) (v : Parcel) : (s.setParcel p v).fresh = s.fresh := rfl

/-! ### modParcel -/

@[simp] theorem modParcel_pending (p : Nat) (f : Parcel → Parcel) : (s.modParcel p f).pending = s.pending := rfl
@[simp] theorem modParcel_sent (p : Nat) (f : Parcel → Parcel) : (s.modParcel p f).sent = s.sent := rfl
@[simp] theorem modParcel_tiles (p : Nat) (f : Parcel → Parcel) : (s.modParcel p f).tiles = s.tiles := rfl
@[simp] theorem modParcel_channels (p : Nat) (f : Parcel → Parcel) : (s.modParcel p f).channels = s.channels := rfl
@[simp] theorem modParcel_stack (p : Nat) (f : Parcel → Parcel) : (s.modParcel p f).stack = s.stack := rfl
@[simp] theorem modParcel_stackErr (p : Nat) (f : Parcel → Parcel) : (s.modParcel p f).stackErr = s.stackErr := rfl
@[simp] theorem modParcel_lines (p : Nat) (f : Parcel → Parcel) : (s.modParcel p f).lines = s.lines := rfl
@[simp] theorem modParcel_stackModes (p : Nat) (f : Parcel → Parcel) : (s.modParcel p f).stackModes = s.stackModes := rfl
@[simp] theorem modParcel_units (p : Nat) (f : Parcel → Parcel) : (s.modParcel p f).units = s.units := rfl
@[simp] theorem modParcel_posts (p : Nat) (f : Parcel → Parcel) : (s.modParcel p f).posts = s.posts := rfl
@[simp] theorem modParcel_launches (p : Nat) (f : Parcel → Parcel) : (s.modParcel p f).launches = s.launches := rfl
@[simp] theorem modParcel_mer (p : Nat) (f : Parcel → Parcel) : (s.modParcel p f).mer = s.mer := rfl
@[simp] theorem modParcel_sectors (p : Nat) (f : Parcel → Parcel) : (s.modParcel p f).sectors = s.sectors := rfl
@[simp] theorem modParcel_spineFailed (p : Nat) (f : Parcel → Parcel) : (s.modParcel p f).spineFailed = s.spineFailed := rfl
@[simp] theorem modParcel_bridgeFailed (p : Nat) (f : Parcel → Parcel) : (s.modParcel p f).bridgeFailed = s.bridgeFailed := rfl
@[simp] theorem modParcel_log (p : Nat) (f : Parcel → Parcel) : (s.modParcel p f).log = s.log := rfl
@[simp] theorem modParcel_cart (p : Nat) (f : Parcel → Parcel) : (s.modParcel p f).cart = s.cart := rfl
@[simp] theorem modParcel_ports (p : Nat) (f : Parcel → Parcel) : (s.modParcel p f).ports = s.ports := rfl
@[simp] theorem modParcel_lamps (p : Nat) (f : Parcel → Parcel) : (s.modParcel p f).lamps = s.lamps := rfl
@[simp] theorem modParcel_clocks (p : Nat) (f : Parcel → Parcel) : (s.modParcel p f).clocks = s.clocks := rfl
@[simp] theorem modParcel_supply (p : Nat) (f : Parcel → Parcel) : (s.modParcel p f).supply = s.supply := rfl
@[simp] theorem modParcel_sensors (p : Nat) (f : Parcel → Parcel) : (s.modParcel p f).sensors = s.sensors := rfl
@[simp] theorem modParcel_thermal (p : Nat) (f : Parcel → Parcel) : (s.modParcel p f).thermal = s.thermal := rfl
@[simp] theorem modParcel_legend (p : Nat) (f : Parcel → Parcel) : (s.modParcel p f).legend = s.legend := rfl
@[simp] theorem modParcel_vfs (p : Nat) (f : Parcel → Parcel) : (s.modParcel p f).vfs = s.vfs := rfl
@[simp] theorem modParcel_irq (p : Nat) (f : Parcel → Parcel) : (s.modParcel p f).irq = s.irq := rfl
@[simp] theorem modParcel_fresh (p : Nat) (f : Parcel → Parcel) : (s.modParcel p f).fresh = s.fresh := rfl

/-! ### modCtl -/

@[simp] theorem modCtl_pending (p : Nat) (f : ParcelCtl → ParcelCtl) : (s.modCtl p f).pending = s.pending := rfl
@[simp] theorem modCtl_sent (p : Nat) (f : ParcelCtl → ParcelCtl) : (s.modCtl p f).sent = s.sent := rfl
@[simp] theorem modCtl_tiles (p : Nat) (f : ParcelCtl → ParcelCtl) : (s.modCtl p f).tiles = s.tiles := rfl
@[simp] theorem modCtl_channels (p : Nat) (f : ParcelCtl → ParcelCtl) : (s.modCtl p f).channels = s.channels := rfl
@[simp] theorem modCtl_stack (p : Nat) (f : ParcelCtl → ParcelCtl) : (s.modCtl p f).stack = s.stack := rfl
@[simp] theorem modCtl_stackErr (p : Nat) (f : ParcelCtl → ParcelCtl) : (s.modCtl p f).stackErr = s.stackErr := rfl
@[simp] theorem modCtl_lines (p : Nat) (f : ParcelCtl → ParcelCtl) : (s.modCtl p f).lines = s.lines := rfl
@[simp] theorem modCtl_stackModes (p : Nat) (f : ParcelCtl → ParcelCtl) : (s.modCtl p f).stackModes = s.stackModes := rfl
@[simp] theorem modCtl_units (p : Nat) (f : ParcelCtl → ParcelCtl) : (s.modCtl p f).units = s.units := rfl
@[simp] theorem modCtl_posts (p : Nat) (f : ParcelCtl → ParcelCtl) : (s.modCtl p f).posts = s.posts := rfl
@[simp] theorem modCtl_launches (p : Nat) (f : ParcelCtl → ParcelCtl) : (s.modCtl p f).launches = s.launches := rfl
@[simp] theorem modCtl_mer (p : Nat) (f : ParcelCtl → ParcelCtl) : (s.modCtl p f).mer = s.mer := rfl
@[simp] theorem modCtl_sectors (p : Nat) (f : ParcelCtl → ParcelCtl) : (s.modCtl p f).sectors = s.sectors := rfl
@[simp] theorem modCtl_spineFailed (p : Nat) (f : ParcelCtl → ParcelCtl) : (s.modCtl p f).spineFailed = s.spineFailed := rfl
@[simp] theorem modCtl_bridgeFailed (p : Nat) (f : ParcelCtl → ParcelCtl) : (s.modCtl p f).bridgeFailed = s.bridgeFailed := rfl
@[simp] theorem modCtl_log (p : Nat) (f : ParcelCtl → ParcelCtl) : (s.modCtl p f).log = s.log := rfl
@[simp] theorem modCtl_cart (p : Nat) (f : ParcelCtl → ParcelCtl) : (s.modCtl p f).cart = s.cart := rfl
@[simp] theorem modCtl_ports (p : Nat) (f : ParcelCtl → ParcelCtl) : (s.modCtl p f).ports = s.ports := rfl
@[simp] theorem modCtl_lamps (p : Nat) (f : ParcelCtl → ParcelCtl) : (s.modCtl p f).lamps = s.lamps := rfl
@[simp] theorem modCtl_clocks (p : Nat) (f : ParcelCtl → ParcelCtl) : (s.modCtl p f).clocks = s.clocks := rfl
@[simp] theorem modCtl_supply (p : Nat) (f : ParcelCtl → ParcelCtl) : (s.modCtl p f).supply = s.supply := rfl
@[simp] theorem modCtl_sensors (p : Nat) (f : ParcelCtl → ParcelCtl) : (s.modCtl p f).sensors = s.sensors := rfl
@[simp] theorem modCtl_thermal (p : Nat) (f : ParcelCtl → ParcelCtl) : (s.modCtl p f).thermal = s.thermal := rfl
@[simp] theorem modCtl_legend (p : Nat) (f : ParcelCtl → ParcelCtl) : (s.modCtl p f).legend = s.legend := rfl
@[simp] theorem modCtl_vfs (p : Nat) (f : ParcelCtl → ParcelCtl) : (s.modCtl p f).vfs = s.vfs := rfl
@[simp] theorem modCtl_irq (p : Nat) (f : ParcelCtl → ParcelCtl) : (s.modCtl p f).irq = s.irq := rfl
@[simp] theorem modCtl_fresh (p : Nat) (f : ParcelCtl → ParcelCtl) : (s.modCtl p f).fresh = s.fresh := rfl

/-! ### modPTick -/

@[simp] theorem modPTick_pending (p : Nat) (f : ParcelTick → ParcelTick) : (s.modPTick p f).pending = s.pending := rfl
@[simp] theorem modPTick_sent (p : Nat) (f : ParcelTick → ParcelTick) : (s.modPTick p f).sent = s.sent := rfl
@[simp] theorem modPTick_tiles (p : Nat) (f : ParcelTick → ParcelTick) : (s.modPTick p f).tiles = s.tiles := rfl
@[simp] theorem modPTick_channels (p : Nat) (f : ParcelTick → ParcelTick) : (s.modPTick p f).channels = s.channels := rfl
@[simp] theorem modPTick_stack (p : Nat) (f : ParcelTick → ParcelTick) : (s.modPTick p f).stack = s.stack := rfl
@[simp] theorem modPTick_stackErr (p : Nat) (f : ParcelTick → ParcelTick) : (s.modPTick p f).stackErr = s.stackErr := rfl
@[simp] theorem modPTick_lines (p : Nat) (f : ParcelTick → ParcelTick) : (s.modPTick p f).lines = s.lines := rfl
@[simp] theorem modPTick_stackModes (p : Nat) (f : ParcelTick → ParcelTick) : (s.modPTick p f).stackModes = s.stackModes := rfl
@[simp] theorem modPTick_units (p : Nat) (f : ParcelTick → ParcelTick) : (s.modPTick p f).units = s.units := rfl
@[simp] theorem modPTick_posts (p : Nat) (f : ParcelTick → ParcelTick) : (s.modPTick p f).posts = s.posts := rfl
@[simp] theorem modPTick_launches (p : Nat) (f : ParcelTick → ParcelTick) : (s.modPTick p f).launches = s.launches := rfl
@[simp] theorem modPTick_mer (p : Nat) (f : ParcelTick → ParcelTick) : (s.modPTick p f).mer = s.mer := rfl
@[simp] theorem modPTick_sectors (p : Nat) (f : ParcelTick → ParcelTick) : (s.modPTick p f).sectors = s.sectors := rfl
@[simp] theorem modPTick_spineFailed (p : Nat) (f : ParcelTick → ParcelTick) : (s.modPTick p f).spineFailed = s.spineFailed := rfl
@[simp] theorem modPTick_bridgeFailed (p : Nat) (f : ParcelTick → ParcelTick) : (s.modPTick p f).bridgeFailed = s.bridgeFailed := rfl
@[simp] theorem modPTick_log (p : Nat) (f : ParcelTick → ParcelTick) : (s.modPTick p f).log = s.log := rfl
@[simp] theorem modPTick_cart (p : Nat) (f : ParcelTick → ParcelTick) : (s.modPTick p f).cart = s.cart := rfl
@[simp] theorem modPTick_ports (p : Nat) (f : ParcelTick → ParcelTick) : (s.modPTick p f).ports = s.ports := rfl
@[simp] theorem modPTick_lamps (p : Nat) (f : ParcelTick → ParcelTick) : (s.modPTick p f).lamps = s.lamps := rfl
@[simp] theorem modPTick_clocks (p : Nat) (f : ParcelTick → ParcelTick) : (s.modPTick p f).clocks = s.clocks := rfl
@[simp] theorem modPTick_supply (p : Nat) (f : ParcelTick → ParcelTick) : (s.modPTick p f).supply = s.supply := rfl
@[simp] theorem modPTick_sensors (p : Nat) (f : ParcelTick → ParcelTick) : (s.modPTick p f).sensors = s.sensors := rfl
@[simp] theorem modPTick_thermal (p : Nat) (f : ParcelTick → ParcelTick) : (s.modPTick p f).thermal = s.thermal := rfl
@[simp] theorem modPTick_legend (p : Nat) (f : ParcelTick → ParcelTick) : (s.modPTick p f).legend = s.legend := rfl
@[simp] theorem modPTick_vfs (p : Nat) (f : ParcelTick → ParcelTick) : (s.modPTick p f).vfs = s.vfs := rfl
@[simp] theorem modPTick_irq (p : Nat) (f : ParcelTick → ParcelTick) : (s.modPTick p f).irq = s.irq := rfl
@[simp] theorem modPTick_fresh (p : Nat) (f : ParcelTick → ParcelTick) : (s.modPTick p f).fresh = s.fresh := rfl

/-! ### modServing -/

@[simp] theorem modServing_pending (p : Nat) (f : Serving → Serving) : (s.modServing p f).pending = s.pending := rfl
@[simp] theorem modServing_sent (p : Nat) (f : Serving → Serving) : (s.modServing p f).sent = s.sent := rfl
@[simp] theorem modServing_tiles (p : Nat) (f : Serving → Serving) : (s.modServing p f).tiles = s.tiles := rfl
@[simp] theorem modServing_channels (p : Nat) (f : Serving → Serving) : (s.modServing p f).channels = s.channels := rfl
@[simp] theorem modServing_stack (p : Nat) (f : Serving → Serving) : (s.modServing p f).stack = s.stack := rfl
@[simp] theorem modServing_stackErr (p : Nat) (f : Serving → Serving) : (s.modServing p f).stackErr = s.stackErr := rfl
@[simp] theorem modServing_lines (p : Nat) (f : Serving → Serving) : (s.modServing p f).lines = s.lines := rfl
@[simp] theorem modServing_stackModes (p : Nat) (f : Serving → Serving) : (s.modServing p f).stackModes = s.stackModes := rfl
@[simp] theorem modServing_units (p : Nat) (f : Serving → Serving) : (s.modServing p f).units = s.units := rfl
@[simp] theorem modServing_posts (p : Nat) (f : Serving → Serving) : (s.modServing p f).posts = s.posts := rfl
@[simp] theorem modServing_launches (p : Nat) (f : Serving → Serving) : (s.modServing p f).launches = s.launches := rfl
@[simp] theorem modServing_mer (p : Nat) (f : Serving → Serving) : (s.modServing p f).mer = s.mer := rfl
@[simp] theorem modServing_sectors (p : Nat) (f : Serving → Serving) : (s.modServing p f).sectors = s.sectors := rfl
@[simp] theorem modServing_spineFailed (p : Nat) (f : Serving → Serving) : (s.modServing p f).spineFailed = s.spineFailed := rfl
@[simp] theorem modServing_bridgeFailed (p : Nat) (f : Serving → Serving) : (s.modServing p f).bridgeFailed = s.bridgeFailed := rfl
@[simp] theorem modServing_log (p : Nat) (f : Serving → Serving) : (s.modServing p f).log = s.log := rfl
@[simp] theorem modServing_cart (p : Nat) (f : Serving → Serving) : (s.modServing p f).cart = s.cart := rfl
@[simp] theorem modServing_ports (p : Nat) (f : Serving → Serving) : (s.modServing p f).ports = s.ports := rfl
@[simp] theorem modServing_lamps (p : Nat) (f : Serving → Serving) : (s.modServing p f).lamps = s.lamps := rfl
@[simp] theorem modServing_clocks (p : Nat) (f : Serving → Serving) : (s.modServing p f).clocks = s.clocks := rfl
@[simp] theorem modServing_supply (p : Nat) (f : Serving → Serving) : (s.modServing p f).supply = s.supply := rfl
@[simp] theorem modServing_sensors (p : Nat) (f : Serving → Serving) : (s.modServing p f).sensors = s.sensors := rfl
@[simp] theorem modServing_thermal (p : Nat) (f : Serving → Serving) : (s.modServing p f).thermal = s.thermal := rfl
@[simp] theorem modServing_legend (p : Nat) (f : Serving → Serving) : (s.modServing p f).legend = s.legend := rfl
@[simp] theorem modServing_vfs (p : Nat) (f : Serving → Serving) : (s.modServing p f).vfs = s.vfs := rfl
@[simp] theorem modServing_irq (p : Nat) (f : Serving → Serving) : (s.modServing p f).irq = s.irq := rfl
@[simp] theorem modServing_fresh (p : Nat) (f : Serving → Serving) : (s.modServing p f).fresh = s.fresh := rfl

/-! ### modGaz -/

@[simp] theorem modGaz_pending (p e : Nat) (f : GazEntry → GazEntry) : (s.modGaz p e f).pending = s.pending := rfl
@[simp] theorem modGaz_sent (p e : Nat) (f : GazEntry → GazEntry) : (s.modGaz p e f).sent = s.sent := rfl
@[simp] theorem modGaz_tiles (p e : Nat) (f : GazEntry → GazEntry) : (s.modGaz p e f).tiles = s.tiles := rfl
@[simp] theorem modGaz_channels (p e : Nat) (f : GazEntry → GazEntry) : (s.modGaz p e f).channels = s.channels := rfl
@[simp] theorem modGaz_stack (p e : Nat) (f : GazEntry → GazEntry) : (s.modGaz p e f).stack = s.stack := rfl
@[simp] theorem modGaz_stackErr (p e : Nat) (f : GazEntry → GazEntry) : (s.modGaz p e f).stackErr = s.stackErr := rfl
@[simp] theorem modGaz_lines (p e : Nat) (f : GazEntry → GazEntry) : (s.modGaz p e f).lines = s.lines := rfl
@[simp] theorem modGaz_stackModes (p e : Nat) (f : GazEntry → GazEntry) : (s.modGaz p e f).stackModes = s.stackModes := rfl
@[simp] theorem modGaz_units (p e : Nat) (f : GazEntry → GazEntry) : (s.modGaz p e f).units = s.units := rfl
@[simp] theorem modGaz_posts (p e : Nat) (f : GazEntry → GazEntry) : (s.modGaz p e f).posts = s.posts := rfl
@[simp] theorem modGaz_launches (p e : Nat) (f : GazEntry → GazEntry) : (s.modGaz p e f).launches = s.launches := rfl
@[simp] theorem modGaz_mer (p e : Nat) (f : GazEntry → GazEntry) : (s.modGaz p e f).mer = s.mer := rfl
@[simp] theorem modGaz_sectors (p e : Nat) (f : GazEntry → GazEntry) : (s.modGaz p e f).sectors = s.sectors := rfl
@[simp] theorem modGaz_spineFailed (p e : Nat) (f : GazEntry → GazEntry) : (s.modGaz p e f).spineFailed = s.spineFailed := rfl
@[simp] theorem modGaz_bridgeFailed (p e : Nat) (f : GazEntry → GazEntry) : (s.modGaz p e f).bridgeFailed = s.bridgeFailed := rfl
@[simp] theorem modGaz_log (p e : Nat) (f : GazEntry → GazEntry) : (s.modGaz p e f).log = s.log := rfl
@[simp] theorem modGaz_cart (p e : Nat) (f : GazEntry → GazEntry) : (s.modGaz p e f).cart = s.cart := rfl
@[simp] theorem modGaz_ports (p e : Nat) (f : GazEntry → GazEntry) : (s.modGaz p e f).ports = s.ports := rfl
@[simp] theorem modGaz_lamps (p e : Nat) (f : GazEntry → GazEntry) : (s.modGaz p e f).lamps = s.lamps := rfl
@[simp] theorem modGaz_clocks (p e : Nat) (f : GazEntry → GazEntry) : (s.modGaz p e f).clocks = s.clocks := rfl
@[simp] theorem modGaz_supply (p e : Nat) (f : GazEntry → GazEntry) : (s.modGaz p e f).supply = s.supply := rfl
@[simp] theorem modGaz_sensors (p e : Nat) (f : GazEntry → GazEntry) : (s.modGaz p e f).sensors = s.sensors := rfl
@[simp] theorem modGaz_thermal (p e : Nat) (f : GazEntry → GazEntry) : (s.modGaz p e f).thermal = s.thermal := rfl
@[simp] theorem modGaz_legend (p e : Nat) (f : GazEntry → GazEntry) : (s.modGaz p e f).legend = s.legend := rfl
@[simp] theorem modGaz_vfs (p e : Nat) (f : GazEntry → GazEntry) : (s.modGaz p e f).vfs = s.vfs := rfl
@[simp] theorem modGaz_irq (p e : Nat) (f : GazEntry → GazEntry) : (s.modGaz p e f).irq = s.irq := rfl
@[simp] theorem modGaz_fresh (p e : Nat) (f : GazEntry → GazEntry) : (s.modGaz p e f).fresh = s.fresh := rfl

/-! ### modSector -/

@[simp] theorem modSector_pending (k : Nat) (f : Sector → Sector) : (s.modSector k f).pending = s.pending := rfl
@[simp] theorem modSector_sent (k : Nat) (f : Sector → Sector) : (s.modSector k f).sent = s.sent := rfl
@[simp] theorem modSector_tiles (k : Nat) (f : Sector → Sector) : (s.modSector k f).tiles = s.tiles := rfl
@[simp] theorem modSector_channels (k : Nat) (f : Sector → Sector) : (s.modSector k f).channels = s.channels := rfl
@[simp] theorem modSector_stack (k : Nat) (f : Sector → Sector) : (s.modSector k f).stack = s.stack := rfl
@[simp] theorem modSector_stackErr (k : Nat) (f : Sector → Sector) : (s.modSector k f).stackErr = s.stackErr := rfl
@[simp] theorem modSector_lines (k : Nat) (f : Sector → Sector) : (s.modSector k f).lines = s.lines := rfl
@[simp] theorem modSector_stackModes (k : Nat) (f : Sector → Sector) : (s.modSector k f).stackModes = s.stackModes := rfl
@[simp] theorem modSector_units (k : Nat) (f : Sector → Sector) : (s.modSector k f).units = s.units := rfl
@[simp] theorem modSector_posts (k : Nat) (f : Sector → Sector) : (s.modSector k f).posts = s.posts := rfl
@[simp] theorem modSector_launches (k : Nat) (f : Sector → Sector) : (s.modSector k f).launches = s.launches := rfl
@[simp] theorem modSector_parcels (k : Nat) (f : Sector → Sector) : (s.modSector k f).parcels = s.parcels := rfl
@[simp] theorem modSector_mer (k : Nat) (f : Sector → Sector) : (s.modSector k f).mer = s.mer := rfl
@[simp] theorem modSector_spineFailed (k : Nat) (f : Sector → Sector) : (s.modSector k f).spineFailed = s.spineFailed := rfl
@[simp] theorem modSector_bridgeFailed (k : Nat) (f : Sector → Sector) : (s.modSector k f).bridgeFailed = s.bridgeFailed := rfl
@[simp] theorem modSector_log (k : Nat) (f : Sector → Sector) : (s.modSector k f).log = s.log := rfl
@[simp] theorem modSector_cart (k : Nat) (f : Sector → Sector) : (s.modSector k f).cart = s.cart := rfl
@[simp] theorem modSector_ports (k : Nat) (f : Sector → Sector) : (s.modSector k f).ports = s.ports := rfl
@[simp] theorem modSector_lamps (k : Nat) (f : Sector → Sector) : (s.modSector k f).lamps = s.lamps := rfl
@[simp] theorem modSector_clocks (k : Nat) (f : Sector → Sector) : (s.modSector k f).clocks = s.clocks := rfl
@[simp] theorem modSector_supply (k : Nat) (f : Sector → Sector) : (s.modSector k f).supply = s.supply := rfl
@[simp] theorem modSector_sensors (k : Nat) (f : Sector → Sector) : (s.modSector k f).sensors = s.sensors := rfl
@[simp] theorem modSector_thermal (k : Nat) (f : Sector → Sector) : (s.modSector k f).thermal = s.thermal := rfl
@[simp] theorem modSector_legend (k : Nat) (f : Sector → Sector) : (s.modSector k f).legend = s.legend := rfl
@[simp] theorem modSector_vfs (k : Nat) (f : Sector → Sector) : (s.modSector k f).vfs = s.vfs := rfl
@[simp] theorem modSector_irq (k : Nat) (f : Sector → Sector) : (s.modSector k f).irq = s.irq := rfl
@[simp] theorem modSector_fresh (k : Nat) (f : Sector → Sector) : (s.modSector k f).fresh = s.fresh := rfl

/-! ### send -/

@[simp] theorem send_pending (x : Sent) : (s.send x).pending = s.pending := rfl
@[simp] theorem send_tiles (x : Sent) : (s.send x).tiles = s.tiles := rfl
@[simp] theorem send_channels (x : Sent) : (s.send x).channels = s.channels := rfl
@[simp] theorem send_stack (x : Sent) : (s.send x).stack = s.stack := rfl
@[simp] theorem send_stackErr (x : Sent) : (s.send x).stackErr = s.stackErr := rfl
@[simp] theorem send_lines (x : Sent) : (s.send x).lines = s.lines := rfl
@[simp] theorem send_stackModes (x : Sent) : (s.send x).stackModes = s.stackModes := rfl
@[simp] theorem send_units (x : Sent) : (s.send x).units = s.units := rfl
@[simp] theorem send_posts (x : Sent) : (s.send x).posts = s.posts := rfl
@[simp] theorem send_launches (x : Sent) : (s.send x).launches = s.launches := rfl
@[simp] theorem send_parcels (x : Sent) : (s.send x).parcels = s.parcels := rfl
@[simp] theorem send_mer (x : Sent) : (s.send x).mer = s.mer := rfl
@[simp] theorem send_sectors (x : Sent) : (s.send x).sectors = s.sectors := rfl
@[simp] theorem send_spineFailed (x : Sent) : (s.send x).spineFailed = s.spineFailed := rfl
@[simp] theorem send_bridgeFailed (x : Sent) : (s.send x).bridgeFailed = s.bridgeFailed := rfl
@[simp] theorem send_log (x : Sent) : (s.send x).log = s.log := rfl
@[simp] theorem send_cart (x : Sent) : (s.send x).cart = s.cart := rfl
@[simp] theorem send_ports (x : Sent) : (s.send x).ports = s.ports := rfl
@[simp] theorem send_lamps (x : Sent) : (s.send x).lamps = s.lamps := rfl
@[simp] theorem send_clocks (x : Sent) : (s.send x).clocks = s.clocks := rfl
@[simp] theorem send_supply (x : Sent) : (s.send x).supply = s.supply := rfl
@[simp] theorem send_sensors (x : Sent) : (s.send x).sensors = s.sensors := rfl
@[simp] theorem send_thermal (x : Sent) : (s.send x).thermal = s.thermal := rfl
@[simp] theorem send_legend (x : Sent) : (s.send x).legend = s.legend := rfl
@[simp] theorem send_vfs (x : Sent) : (s.send x).vfs = s.vfs := rfl
@[simp] theorem send_irq (x : Sent) : (s.send x).irq = s.irq := rfl
@[simp] theorem send_fresh (x : Sent) : (s.send x).fresh = s.fresh := rfl

end Sys2Proof.Machine.State
end

