-- ==== Sys2Proof/Laws/Tab.lean ====
section
/-! SUPPORT. Sparse tables: read after write, and every table and memory operation keeps the canonical form. -/

namespace Sys2Proof.Machine

variable {α : Type}

/-! ### Read after write -/

theorem Tab.find_put_self (t : Tab α) (k : Nat) (v : α) : Tab.find (Tab.put t k v) k = some v := by
  induction t with
  | nil => simp [Tab.put, Tab.find]
  | cons x t ih =>
    obtain ⟨j, w⟩ := x
    simp only [Tab.put]
    split
    · simp [Tab.find]
    · split
      · simp [Tab.find]
      · rename_i h; simp [Tab.find, Ne.symm h, ih]

theorem Tab.find_put_ne (t : Tab α) {k i : Nat} (v : α) (h : i ≠ k) : Tab.find (Tab.put t k v) i = Tab.find t i := by
  induction t with
  | nil => simp [Tab.put, Tab.find, Ne.symm h]
  | cons x t ih =>
    obtain ⟨j, w⟩ := x
    simp only [Tab.put]
    split
    · simp [Tab.find, Ne.symm h]
    · split
      · subst_vars; simp [Tab.find, Ne.symm h]
      · simp [Tab.find, ih]

theorem Tab.find_erase_self (t : Tab α) (k : Nat) : Tab.find (Tab.erase t k) k = none := by
  induction t with
  | nil => rfl
  | cons x t ih =>
    obtain ⟨j, w⟩ := x
    simp only [Tab.erase]
    split
    · exact ih
    · rename_i h; simp [Tab.find, Ne.symm h, ih]

theorem Tab.find_erase_ne (t : Tab α) {k i : Nat} (h : i ≠ k) : Tab.find (Tab.erase t k) i = Tab.find t i := by
  induction t with
  | nil => rfl
  | cons x t ih =>
    obtain ⟨j, w⟩ := x
    simp only [Tab.erase]
    split
    · subst_vars; simp [Tab.find, Ne.symm h, ih]
    · simp [Tab.find, ih]

@[simp] theorem Tab.get_put_self (d : α) (t : Tab α) (k : Nat) (v : α) : Tab.get d (Tab.put t k v) k = v := by
  simp [Tab.get, Tab.find_put_self]

theorem Tab.get_put_ne (d : α) (t : Tab α) {k i : Nat} (v : α) (h : i ≠ k) :
    Tab.get d (Tab.put t k v) i = Tab.get d t i := by
  simp [Tab.get, Tab.find_put_ne t v h]

/-- What a key was set to is what it reads as. -/
@[simp] theorem Tab.get_set_self [DecidableEq α] (d : α) (t : Tab α) (k : Nat) (v : α) :
    Tab.get d (Tab.set d t k v) k = v := by
  unfold Tab.set
  split
  · subst_vars; simp [Tab.get, Tab.find_erase_self]
  · simp

/-- Setting one key leaves every other. -/
theorem Tab.get_set_ne [DecidableEq α] (d : α) (t : Tab α) {k i : Nat} (v : α) (h : i ≠ k) :
    Tab.get d (Tab.set d t k v) i = Tab.get d t i := by
  unfold Tab.set
  split
  · simp [Tab.get, Tab.find_erase_ne t h]
  · exact Tab.get_put_ne d t v h

@[simp] theorem Tab.get_modify_self [DecidableEq α] (d : α) (t : Tab α) (k : Nat) (f : α → α) :
    Tab.get d (Tab.modify d t k f) k = f (Tab.get d t k) := by
  simp [Tab.modify]

theorem Tab.get_modify_ne [DecidableEq α] (d : α) (t : Tab α) {k i : Nat} (f : α → α) (h : i ≠ k) :
    Tab.get d (Tab.modify d t k f) i = Tab.get d t i := by
  simp [Tab.modify, Tab.get_set_ne d t _ h]

/-- What a key reads as after an update of the whole table. -/
theorem Tab.get_update [DecidableEq α] (d : α) (f : Nat → α → α) (t : Tab α) (k : Nat) (hd : f k d = d) :
    Tab.get d (Tab.update d f t) k = f k (Tab.get d t k) := by
  induction t with
  | nil => simp [Tab.update, Tab.get, Tab.find, hd]
  | cons x t ih =>
    obtain ⟨j, v⟩ := x
    by_cases h : j = k
    · subst h
      simp only [Tab.update]
      split
      · rename_i hv; simp [Tab.get, Tab.find_erase_self, Tab.find, hv]
      · simp [Tab.get, Tab.find]
    · have e : Tab.get d ((j, v) :: t) k = Tab.get d t k := by simp [Tab.get, Tab.find, h]
      rw [e, ← ih]
      simp only [Tab.update]
      split
      · simp [Tab.get, Tab.find_erase_ne _ (Ne.symm h)]
      · simp [Tab.get, Tab.find, h]

/-! ### The canonical form -/

/-- The canonical form, said with the library's words. -/
theorem Tab.wf_iff [DecidableEq α] (d : α) (t : Tab α) :
    Tab.wf d t = true ↔ t.Pairwise (fun x y => x.1 < y.1) ∧ ∀ x ∈ t, x.2 ≠ d := by
  induction t with
  | nil => simp [Tab.wf]
  | cons x t ih =>
    obtain ⟨j, v⟩ := x
    cases t with
    | nil => simp [Tab.wf]
    | cons y t =>
      obtain ⟨k, w⟩ := y
      simp only [Tab.wf, Bool.and_eq_true, decide_eq_true_eq, bne_iff_ne, ih, List.pairwise_cons, List.mem_cons,
        forall_eq_or_imp]
      constructor
      · rintro ⟨⟨h1, h2⟩, ⟨h3, h4⟩, h5, h6⟩
        exact ⟨⟨⟨h1, fun a ha => lt_trans h1 (h3 a ha)⟩, h3, h4⟩, h2, h5, h6⟩
      · rintro ⟨⟨⟨h1, -⟩, h3, h4⟩, h2, h5, h6⟩
        exact ⟨⟨h1, h2⟩, ⟨h3, h4⟩, h5, h6⟩

theorem Tab.mem_put {t : Tab α} {k : Nat} {v : α} {x : Nat × α} (h : x ∈ Tab.put t k v) : x = (k, v) ∨ x ∈ t := by
  induction t with
  | nil => simpa [Tab.put] using h
  | cons y t ih =>
    obtain ⟨j, w⟩ := y
    simp only [Tab.put] at h
    split at h
    · simpa using h
    · split at h
      · rcases List.mem_cons.1 h with h | h
        · exact .inl h
        · exact .inr (List.mem_cons_of_mem _ h)
      · rcases List.mem_cons.1 h with h | h
        · exact .inr (by simp [h])
        · exact (ih h).imp id (List.mem_cons_of_mem _)

theorem Tab.pairwise_put {t : Tab α} (k : Nat) (v : α) (h : t.Pairwise (fun x y => x.1 < y.1)) :
    (Tab.put t k v).Pairwise (fun x y => x.1 < y.1) := by
  induction t with
  | nil => simp [Tab.put]
  | cons y t ih =>
    obtain ⟨j, w⟩ := y
    obtain ⟨h1, h2⟩ := List.pairwise_cons.1 h
    simp only [Tab.put]
    split
    · rename_i hk
      exact List.pairwise_cons.2 ⟨fun a ha => by
        rcases List.mem_cons.1 ha with ha | ha
        · rw [ha]; exact hk
        · exact lt_trans hk (h1 a ha), h⟩
    · split
      · subst_vars; exact List.pairwise_cons.2 ⟨h1, h2⟩
      · refine List.pairwise_cons.2 ⟨fun a ha => ?_, ih h2⟩
        rcases Tab.mem_put ha with ha | ha
        · rw [ha]; simp only; omega
        · exact h1 a ha

theorem Tab.erase_sublist (t : Tab α) (k : Nat) : (Tab.erase t k).Sublist t := by
  induction t with
  | nil => exact List.Sublist.refl _
  | cons y t ih =>
    obtain ⟨j, w⟩ := y
    simp only [Tab.erase]
    split
    · exact ih.cons _
    · exact ih.cons_cons _

theorem Tab.wf_of_sublist [DecidableEq α] {d : α} {t u : Tab α} (h : u.Sublist t) (ht : Tab.wf d t = true) :
    Tab.wf d u = true := by
  obtain ⟨h1, h2⟩ := (Tab.wf_iff d t).1 ht
  exact (Tab.wf_iff d u).2 ⟨h1.sublist h, fun x hx => h2 x (h.subset hx)⟩

theorem Tab.wf_erase [DecidableEq α] {d : α} {t : Tab α} (k : Nat) (ht : Tab.wf d t = true) :
    Tab.wf d (Tab.erase t k) = true := Tab.wf_of_sublist (Tab.erase_sublist t k) ht

/-- Setting a key keeps the canonical form. -/
theorem Tab.wf_set [DecidableEq α] {d : α} {t : Tab α} (k : Nat) (v : α) (ht : Tab.wf d t = true) :
    Tab.wf d (Tab.set d t k v) = true := by
  unfold Tab.set
  split
  · exact Tab.wf_erase k ht
  · rename_i hv
    obtain ⟨h1, h2⟩ := (Tab.wf_iff d t).1 ht
    refine (Tab.wf_iff d _).2 ⟨Tab.pairwise_put k v h1, fun x hx => ?_⟩
    rcases Tab.mem_put hx with hx | hx
    · rw [hx]; exact hv
    · exact h2 x hx

theorem Tab.wf_modify [DecidableEq α] {d : α} {t : Tab α} (k : Nat) (f : α → α) (ht : Tab.wf d t = true) :
    Tab.wf d (Tab.modify d t k f) = true := Tab.wf_set k _ ht

/-- Dropping a range keeps the canonical form. -/
theorem Tab.wf_clear [DecidableEq α] {d : α} {t : Tab α} (lo hi : Nat) (ht : Tab.wf d t = true) :
    Tab.wf d (Tab.clear t lo hi) = true := Tab.wf_of_sublist List.filter_sublist ht

/-! ### Memories -/

@[simp] theorem Mem.read_write_self (m : Mem) (a : Nat) (v : BitVec 8) : Mem.read (Mem.write m a v) a = v :=
  Tab.get_set_self 0 m a v

theorem Mem.read_write_ne (m : Mem) {a b : Nat} (v : BitVec 8) (h : b ≠ a) : Mem.read (Mem.write m a v) b = Mem.read m b :=
  Tab.get_set_ne 0 m v h

theorem Mem.wf_write {m : Mem} (a : Nat) (v : BitVec 8) (h : Mem.wf m = true) : Mem.wf (Mem.write m a v) = true :=
  Tab.wf_set a v h

theorem Mem.wf_writeBytes {m : Mem} (a : Nat) (bs : List (BitVec 8)) (h : Mem.wf m = true) :
    Mem.wf (Mem.writeBytes m a bs) = true := by
  induction bs generalizing m a with
  | nil => exact h
  | cons b bs ih => exact ih (a + 1) (Mem.wf_write a b h)

theorem Mem.wf_writeNat {m : Mem} (a n v : Nat) (h : Mem.wf m = true) : Mem.wf (Mem.writeNat m a n v) = true :=
  Mem.wf_writeBytes a _ h

theorem Mem.wf_zero {m : Mem} (a n : Nat) (h : Mem.wf m = true) : Mem.wf (Mem.zero m a n) = true := Tab.wf_clear _ _ h

/-- A run of bytes written leaves every byte outside the run. -/
theorem Mem.read_writeBytes_outside (m : Mem) (a : Nat) (bs : List (BitVec 8)) {b : Nat} (h : b < a ∨ a + bs.length ≤ b) :
    Mem.read (Mem.writeBytes m a bs) b = Mem.read m b := by
  induction bs generalizing m a with
  | nil => rfl
  | cons x bs ih =>
    simp only [List.length_cons] at h
    rw [Mem.writeBytes, ih _ _ (by omega), Mem.read_write_ne _ _ (by omega)]

/-- Each byte of the run reads as it was written. -/
theorem Mem.read_writeBytes_inside (m : Mem) (a : Nat) (bs : List (BitVec 8)) {i : Nat} (h : i < bs.length) :
    Mem.read (Mem.writeBytes m a bs) (a + i) = bs[i] := by
  induction bs generalizing m a i with
  | nil => simp at h
  | cons x bs ih =>
    cases i with
    | zero => rw [Mem.writeBytes, Mem.read_writeBytes_outside _ _ _ (by omega)]; simp
    | succ i =>
      have := ih (Mem.write m a x) (a + 1) (i := i) (by simpa using h)
      rw [Mem.writeBytes, show a + (i + 1) = a + 1 + i by omega, this]; simp

theorem Tab.find_filter (f : Nat × α → Bool) (t : Tab α) (k : Nat) (h : ∀ v, f (k, v) = true) :
    Tab.find (t.filter f) k = Tab.find t k := by
  induction t with
  | nil => rfl
  | cons x t ih =>
    obtain ⟨j, w⟩ := x
    by_cases hj : j = k
    · subst hj; simp [h w, Tab.find]
    · simp only [List.filter_cons]
      split <;> simp [Tab.find, hj, ih]

theorem Tab.find_filter_none (f : Nat × α → Bool) (t : Tab α) (k : Nat) (h : ∀ v, f (k, v) = false) :
    Tab.find (t.filter f) k = none := by
  induction t with
  | nil => rfl
  | cons x t ih =>
    obtain ⟨j, w⟩ := x
    by_cases hj : j = k
    · subst hj; simp [h w, ih]
    · simp only [List.filter_cons]
      split <;> simp [Tab.find, hj, ih]

/-- A range zeroed reads 0. -/
theorem Mem.read_zero_inside (m : Mem) (a n : Nat) {b : Nat} (h1 : a ≤ b) (h2 : b < a + n) :
    Mem.read (Mem.zero m a n) b = 0 := by
  have h : Tab.find (Mem.zero m a n) b = none :=
    Tab.find_filter_none _ m b (fun v => by simp; omega)
  simp [Mem.read, Tab.get, h]

theorem Mem.read_zero_outside (m : Mem) (a n : Nat) {b : Nat} (h : b < a ∨ a + n ≤ b) :
    Mem.read (Mem.zero m a n) b = Mem.read m b := by
  have h : Tab.find (Mem.zero m a n) b = Tab.find m b :=
    Tab.find_filter _ m b (fun v => by simp; omega)
  simp [Mem.read, Tab.get, h]

end Sys2Proof.Machine
end

