-- ==== Sys2Proof/Laws/Ops.lean ====
section
/-! SUPPORT. What each shared operation can do, said once: what it reads back, and every field it leaves alone. -/

namespace Sys2Proof.Machine.State

variable (s : State)

/-! ### Reading back a numbered thing -/

@[simp] theorem tile_setTile_self (t : Nat) (v : Tile) : (s.setTile t v).tile t = v := by simp [tile, setTile]
theorem tile_setTile_ne {t i : Nat} (v : Tile) (h : i ≠ t) : (s.setTile t v).tile i = s.tile i := by
  simp [tile, setTile, Tab.get_set_ne _ _ _ h]
@[simp] theorem tile_modTile_self (t : Nat) (f : Tile → Tile) : (s.modTile t f).tile t = f (s.tile t) := by simp [modTile]
theorem tile_modTile_ne {t i : Nat} (f : Tile → Tile) (h : i ≠ t) : (s.modTile t f).tile i = s.tile i :=
  s.tile_setTile_ne _ h
@[simp] theorem engine_setEngine_self (t e : Nat) (v : Engine) : (s.setEngine t e v).engine t e = v := by
  simp [engine, setEngine]
theorem engine_setEngine_ne {t e i : Nat} (v : Engine) (h : i ≠ e) : (s.setEngine t e v).engine t i = s.engine t i := by
  simp [engine, setEngine, Tab.get_set_ne _ _ _ h]
theorem tile_setEngine_ne {t e i : Nat} (v : Engine) (h : i ≠ t) : (s.setEngine t e v).tile i = s.tile i :=
  s.tile_modTile_ne _ h
@[simp] theorem engine_modEngine_self (t e : Nat) (f : Engine → Engine) :
    (s.modEngine t e f).engine t e = f (s.engine t e) := by simp [modEngine]
theorem tile_modEngine_ne {t e i : Nat} (f : Engine → Engine) (h : i ≠ t) : (s.modEngine t e f).tile i = s.tile i :=
  s.tile_setEngine_ne _ h
@[simp] theorem channel_modChannel_self (c : Nat) (f : Channel → Channel) :
    (s.modChannel c f).channel c = f (s.channel c) := by simp [channel, modChannel]
theorem channel_modChannel_ne {c i : Nat} (f : Channel → Channel) (h : i ≠ c) :
    (s.modChannel c f).channel i = s.channel i := by simp [channel, modChannel, Tab.get_set_ne _ _ _ h]
@[simp] theorem cunit_setUnit_self (u : Nat) (v : CUnit) : (s.setUnit u v).cunit u = v := by simp [cunit, setUnit]
theorem cunit_setUnit_ne {u i : Nat} (v : CUnit) (h : i ≠ u) : (s.setUnit u v).cunit i = s.cunit i :=
  Tab.get_put_ne _ _ _ h
@[simp] theorem cunit_modUnit_self (u : Nat) (f : CUnit → CUnit) : (s.modUnit u f).cunit u = f (s.cunit u) := by
  simp [modUnit]
@[simp] theorem parcel_setParcel_self (p : Nat) (v : Parcel) : (s.setParcel p v).parcel p = v := by
  simp [parcel, setParcel]
theorem parcel_setParcel_ne {p i : Nat} (v : Parcel) (h : i ≠ p) : (s.setParcel p v).parcel i = s.parcel i := by
  simp [parcel, setParcel, Tab.get_set_ne _ _ _ h]
@[simp] theorem parcel_modParcel_self (p : Nat) (f : Parcel → Parcel) :
    (s.modParcel p f).parcel p = f (s.parcel p) := by simp [modParcel]
theorem parcel_modParcel_ne {p i : Nat} (f : Parcel → Parcel) (h : i ≠ p) :
    (s.modParcel p f).parcel i = s.parcel i := s.parcel_setParcel_ne _ h
@[simp] theorem sector_modSector_self (k : Nat) (f : Sector → Sector) :
    (s.modSector k f).sector k = f (s.sector k) := by simp [sector, modSector]

/-! ### What each operation touches -/

theorem raise_only (fn vec : Nat) : ∃ i, s.raise fn vec = { s with irq := i } := by
  unfold raise; split
  · exact ⟨s.irq, rfl⟩
  · exact ⟨_, rfl⟩

theorem setSummary_only (b : Nat) : ∃ l i, s.setSummary b = { s with log := l, irq := i } := by
  unfold setSummary; split
  · exact ⟨s.log, s.irq, rfl⟩
  · dsimp only; split
    · obtain ⟨i, h⟩ := raise_only { s with log := { s.log with summary := s.log.summary ||| ((1 : BitVec 32) <<< b) } } 0 0
      exact ⟨_, i, h⟩
    · exact ⟨_, s.irq, rfl⟩

theorem logLost_only : ∃ l i, s.logLost = { s with log := l, irq := i } := by
  obtain ⟨l, i, h⟩ := setSummary_only { s with log := { s.log with lost := s.log.lost + 1 } } 15
  exact ⟨l, i, h⟩

/-- Offering a record touches the log and the interrupts waiting, and nothing else. -/
theorem offer_only (r : LogRec) : ∃ l i, s.offer r = { s with log := l, irq := i } := by
  unfold offer
  obtain ⟨l, i, h⟩ := s.setSummary_only (summaryBit r.code r.source)
  rw [h]; dsimp only; split
  · exact ⟨_, i, rfl⟩
  · obtain ⟨l', i', h'⟩ := logLost_only { s with log := l, irq := i }
    exact ⟨l', i', h'⟩

theorem logEvent_only (code source inst : Nat) (p : Option Nat) (sub detail : Nat) :
    ∃ l i, s.logEvent code source inst p sub detail = { s with log := l, irq := i } := s.offer_only _

theorem logCycle_only (cyc code source inst : Nat) (p : Option Nat) (sub detail : Nat) :
    ∃ l i, s.logCycle cyc code source inst p sub detail = { s with log := l, irq := i } := s.offer_only _

/-- A correctable error touches its bucket, the log and the interrupts waiting, and nothing else. -/
theorem bucketEvent_only (source i : Nat) (p : Option Nat) :
    ∃ l q, s.bucketEvent source i p = { s with log := l, irq := q } := by
  have key : ∀ (l : ErrorLog) (c : Bool) (d : Nat), ∃ l' q,
      (if c then State.logEvent { s with log := l } 1 source i p 0 d else { s with log := l }) =
        { s with log := l', irq := q } := by
    intro l c d
    cases c
    · exact ⟨l, s.irq, rfl⟩
    · exact logEvent_only { s with log := l } 1 source i p 0 d
  exact key _ _ _

theorem bucketEvents_only (source i : Nat) (p : Option Nat) (n : Nat) :
    ∃ l q, bucketEvents s source i p n = { s with log := l, irq := q } := by
  induction n with
  | zero => exact ⟨s.log, s.irq, rfl⟩
  | succ n ih =>
    obtain ⟨l, q, h⟩ := ih
    obtain ⟨l', q', h'⟩ := bucketEvent_only { s with log := l, irq := q } source i p
    exact ⟨l', q', by rw [bucketEvents, h, h']⟩

/-- Counting touches the parcels only. -/
theorem count_only (p : Option Nat) (k n : Nat) : ∃ q, s.count p k n = { s with parcels := q } := by
  unfold count; split
  · exact ⟨s.parcels, rfl⟩
  · split
    · exact ⟨s.parcels, rfl⟩
    · exact ⟨_, rfl⟩

/-- Raising format flags touches the tiles only. -/
theorem tileFlags_only (t e : Nat) (f : FFlags) : ∃ q, s.tileFlags t e f = { s with tiles := q } := by
  unfold tileFlags; split
  · exact ⟨s.tiles, rfl⟩
  · exact ⟨_, rfl⟩

theorem markLegFaulted_only (p : Nat) : ∃ q, s.markLegFaulted p = { s with parcels := q } := ⟨_, rfl⟩

theorem demote_only (t e : Nat) : ∃ a l, s.demote t e = { s with tiles := a, log := l } := ⟨_, _, rfl⟩

/-- An engine's fault touches its tile (and that of a fault it outranks), the log, the interrupts waiting and its parcel,
and nothing else. -/
theorem engineFaultAt_only (t e cyc : Nat) (pc : BitVec 12) (idx : Nat) (cause : Cause) (chan cairn : Nat) :
    ∃ a l i q, s.engineFaultAt t e cyc pc idx cause chan cairn =
      { s with tiles := a, log := l, irq := i, parcels := q } := by
  unfold engineFaultAt; dsimp only
  split
  · exact ⟨s.tiles, s.log, s.irq, s.parcels, rfl⟩
  · cases s.tileParcel t with
    | none =>
      dsimp only [setEngine, modTile, setTile]
      obtain ⟨l, i, h⟩ := logCycle_only _ _ _ _ _ _ _ _
      exact ⟨_, l, i, _, h⟩
    | some p =>
      dsimp only
      generalize hx : (if isPrimary (s.parcel p) cyc t e = true then _ else s) = x
      obtain ⟨a, l, i, q, rfl⟩ : ∃ a l i q, x = { s with tiles := a, log := l, irq := i, parcels := q } := by
        rw [← hx]; split
        · split
          · exact ⟨_, _, _, _, rfl⟩
          · exact ⟨_, _, _, _, rfl⟩
        · exact ⟨s.tiles, s.log, s.irq, s.parcels, rfl⟩
      dsimp only [setEngine, modTile, setTile]
      obtain ⟨l', i', h⟩ := logCycle_only _ _ _ _ _ _ _ _
      rw [h]
      exact ⟨_, _, _, _, rfl⟩

theorem engineFault_only (t e cyc : Nat) (cause : Cause) (chan cairn : Nat) :
    ∃ a l i q, s.engineFault t e cyc cause chan cairn = { s with tiles := a, log := l, irq := i, parcels := q } :=
  s.engineFaultAt_only _ _ _ _ _ _ _ _

/-- A leg that begins touches the parcels only. -/
theorem beginLeg_only (p : Nat) : ∃ q, s.beginLeg p = { s with parcels := q } := by
  unfold beginLeg; split
  · split
    · exact ⟨_, rfl⟩
    · exact ⟨s.parcels, rfl⟩
  · exact ⟨s.parcels, rfl⟩

/-- Putting work in flight touches the parcels only. -/
theorem fly_only (p : Nat) (f : Flight) : ∃ q, s.fly p f = { s with parcels := q } := ⟨_, rfl⟩
theorem flyAll_only (p : Nat) (fs : List Flight) : ∃ q, s.flyAll p fs = { s with parcels := q } := ⟨_, rfl⟩

/-- What flies is exactly what flew before and the new piece of work. -/
theorem mem_placeFlight (f g : Flight) (l : List Flight) : g ∈ placeFlight f l ↔ g = f ∨ g ∈ l := by
  induction l with
  | nil => simp [placeFlight]
  | cons h l ih => rw [placeFlight]; split <;> simp [ih, or_left_comm]

theorem fly_flight (p : Nat) (f : Flight) : ((s.fly p f).parcel p).flight = placeFlight f (s.parcel p).flight := by
  simp [fly]

end Sys2Proof.Machine.State

namespace Sys2Proof.Machine

/-- An instruction that issues touches its tile and its parcel; only running past index 4,095 touches more, by a fault. -/
theorem retireAt_only (s : State) (t e cyc occ ret : Nat) (busy : Bool) :
    ∃ a l i q, retireAt s t e cyc occ ret busy = { s with tiles := a, log := l, irq := i, parcels := q } := by
  unfold retireAt
  dsimp only
  obtain ⟨q, h⟩ := s.count_only (s.tileParcel t) (busyKey t e) (if busy then occ else 0)
  rw [h]
  split
  · exact ⟨_, s.log, s.irq, q, rfl⟩
  · obtain ⟨a, l, i, q', h'⟩ := State.engineFault_only (State.setEngine { s with parcels := q } t e _) t e (cyc + occ) .pcRange 7 0
    exact ⟨a, l, i, q', h'⟩

theorem sramFaultAt_only (s : State) (t e cyc : Nat) (pc : BitVec 12) (idx sub addr : Nat) :
    ∃ a l i q, sramFaultAt s t e cyc pc idx sub addr = { s with tiles := a, log := l, irq := i, parcels := q } := by
  unfold sramFaultAt
  obtain ⟨l, i, h⟩ := s.logCycle_only cyc 2 1 t (s.tileParcel t) sub addr
  rw [h]
  obtain ⟨a, l', i', q', h'⟩ := State.engineFaultAt_only { s with log := l, irq := i } t e cyc pc idx .sramUncorrectable 7 0
  exact ⟨a, l', i', q', h'⟩

theorem State.readScratch_only (s : State) (p t a n : Nat) :
    ∃ l i, s.readScratch p t a n = { s with log := l, irq := i } := by
  unfold State.readScratch; split
  · exact s.bucketEvent_only _ _ _
  · exact ⟨s.log, s.irq, rfl⟩

theorem State.readAcc_only (s : State) (p t a n : Nat) :
    ∃ l i, s.readAcc p t a n = { s with log := l, irq := i } := by
  unfold State.readAcc; split
  · exact s.bucketEvent_only _ _ _
  · exact ⟨s.log, s.irq, rfl⟩

theorem countScratch_only (c : TCtx) (s : State) (l : List (Nat × Nat)) :
    ∃ q i, countScratch c s l = { s with log := q, irq := i } := by
  induction l generalizing s with
  | nil => exact ⟨s.log, s.irq, rfl⟩
  | cons x l ih =>
    obtain ⟨q, i, h⟩ := s.readScratch_only c.p c.t x.1 x.2
    obtain ⟨q', i', h'⟩ := ih { s with log := q, irq := i }
    exact ⟨q', i', by rw [countScratch, List.foldl_cons, h]; exact h'⟩

end Sys2Proof.Machine

/-! ### The same, field by field -/


namespace Sys2Proof.Machine

variable (s : State)

@[simp] theorem State.raise_pending (fn vec : Nat) : (s.raise fn vec).pending = s.pending := by
  obtain ⟨_, h⟩ := s.raise_only fn vec; rw [h]
@[simp] theorem State.raise_sent (fn vec : Nat) : (s.raise fn vec).sent = s.sent := by
  obtain ⟨_, h⟩ := s.raise_only fn vec; rw [h]
@[simp] theorem State.raise_tiles (fn vec : Nat) : (s.raise fn vec).tiles = s.tiles := by
  obtain ⟨_, h⟩ := s.raise_only fn vec; rw [h]
@[simp] theorem State.raise_channels (fn vec : Nat) : (s.raise fn vec).channels = s.channels := by
  obtain ⟨_, h⟩ := s.raise_only fn vec; rw [h]
@[simp] theorem State.raise_stack (fn vec : Nat) : (s.raise fn vec).stack = s.stack := by
  obtain ⟨_, h⟩ := s.raise_only fn vec; rw [h]
@[simp] theorem State.raise_stackErr (fn vec : Nat) : (s.raise fn vec).stackErr = s.stackErr := by
  obtain ⟨_, h⟩ := s.raise_only fn vec; rw [h]
@[simp] theorem State.raise_lines (fn vec : Nat) : (s.raise fn vec).lines = s.lines := by
  obtain ⟨_, h⟩ := s.raise_only fn vec; rw [h]
@[simp] theorem State.raise_stackModes (fn vec : Nat) : (s.raise fn vec).stackModes = s.stackModes := by
  obtain ⟨_, h⟩ := s.raise_only fn vec; rw [h]
@[simp] theorem State.raise_units (fn vec : Nat) : (s.raise fn vec).units = s.units := by
  obtain ⟨_, h⟩ := s.raise_only fn vec; rw [h]
@[simp] theorem State.raise_posts (fn vec : Nat) : (s.raise fn vec).posts = s.posts := by
  obtain ⟨_, h⟩ := s.raise_only fn vec; rw [h]
@[simp] theorem State.raise_launches (fn vec : Nat) : (s.raise fn vec).launches = s.launches := by
  obtain ⟨_, h⟩ := s.raise_only fn vec; rw [h]
@[simp] theorem State.raise_parcels (fn vec : Nat) : (s.raise fn vec).parcels = s.parcels := by
  obtain ⟨_, h⟩ := s.raise_only fn vec; rw [h]
@[simp] theorem State.raise_mer (fn vec : Nat) : (s.raise fn vec).mer = s.mer := by
  obtain ⟨_, h⟩ := s.raise_only fn vec; rw [h]
@[simp] theorem State.raise_sectors (fn vec : Nat) : (s.raise fn vec).sectors = s.sectors := by
  obtain ⟨_, h⟩ := s.raise_only fn vec; rw [h]
@[simp] theorem State.raise_spineFailed (fn vec : Nat) : (s.raise fn vec).spineFailed = s.spineFailed := by
  obtain ⟨_, h⟩ := s.raise_only fn vec; rw [h]
@[simp] theorem State.raise_bridgeFailed (fn vec : Nat) : (s.raise fn vec).bridgeFailed = s.bridgeFailed := by
  obtain ⟨_, h⟩ := s.raise_only fn vec; rw [h]
@[simp] theorem State.raise_log (fn vec : Nat) : (s.raise fn vec).log = s.log := by
  obtain ⟨_, h⟩ := s.raise_only fn vec; rw [h]
@[simp] theorem State.raise_cart (fn vec : Nat) : (s.raise fn vec).cart = s.cart := by
  obtain ⟨_, h⟩ := s.raise_only fn vec; rw [h]
@[simp] theorem State.raise_ports (fn vec : Nat) : (s.raise fn vec).ports = s.ports := by
  obtain ⟨_, h⟩ := s.raise_only fn vec; rw [h]
@[simp] theorem State.raise_lamps (fn vec : Nat) : (s.raise fn vec).lamps = s.lamps := by
  obtain ⟨_, h⟩ := s.raise_only fn vec; rw [h]
@[simp] theorem State.raise_clocks (fn vec : Nat) : (s.raise fn vec).clocks = s.clocks := by
  obtain ⟨_, h⟩ := s.raise_only fn vec; rw [h]
@[simp] theorem State.raise_supply (fn vec : Nat) : (s.raise fn vec).supply = s.supply := by
  obtain ⟨_, h⟩ := s.raise_only fn vec; rw [h]
@[simp] theorem State.raise_sensors (fn vec : Nat) : (s.raise fn vec).sensors = s.sensors := by
  obtain ⟨_, h⟩ := s.raise_only fn vec; rw [h]
@[simp] theorem State.raise_thermal (fn vec : Nat) : (s.raise fn vec).thermal = s.thermal := by
  obtain ⟨_, h⟩ := s.raise_only fn vec; rw [h]
@[simp] theorem State.raise_legend (fn vec : Nat) : (s.raise fn vec).legend = s.legend := by
  obtain ⟨_, h⟩ := s.raise_only fn vec; rw [h]
@[simp] theorem State.raise_vfs (fn vec : Nat) : (s.raise fn vec).vfs = s.vfs := by
  obtain ⟨_, h⟩ := s.raise_only fn vec; rw [h]
@[simp] theorem State.raise_fresh (fn vec : Nat) : (s.raise fn vec).fresh = s.fresh := by
  obtain ⟨_, h⟩ := s.raise_only fn vec; rw [h]

@[simp] theorem State.setSummary_pending (b : Nat) : (s.setSummary b).pending = s.pending := by
  obtain ⟨_, _, h⟩ := s.setSummary_only b; rw [h]
@[simp] theorem State.setSummary_sent (b : Nat) : (s.setSummary b).sent = s.sent := by
  obtain ⟨_, _, h⟩ := s.setSummary_only b; rw [h]
@[simp] theorem State.setSummary_tiles (b : Nat) : (s.setSummary b).tiles = s.tiles := by
  obtain ⟨_, _, h⟩ := s.setSummary_only b; rw [h]
@[simp] theorem State.setSummary_channels (b : Nat) : (s.setSummary b).channels = s.channels := by
  obtain ⟨_, _, h⟩ := s.setSummary_only b; rw [h]
@[simp] theorem State.setSummary_stack (b : Nat) : (s.setSummary b).stack = s.stack := by
  obtain ⟨_, _, h⟩ := s.setSummary_only b; rw [h]
@[simp] theorem State.setSummary_stackErr (b : Nat) : (s.setSummary b).stackErr = s.stackErr := by
  obtain ⟨_, _, h⟩ := s.setSummary_only b; rw [h]
@[simp] theorem State.setSummary_lines (b : Nat) : (s.setSummary b).lines = s.lines := by
  obtain ⟨_, _, h⟩ := s.setSummary_only b; rw [h]
@[simp] theorem State.setSummary_stackModes (b : Nat) : (s.setSummary b).stackModes = s.stackModes := by
  obtain ⟨_, _, h⟩ := s.setSummary_only b; rw [h]
@[simp] theorem State.setSummary_units (b : Nat) : (s.setSummary b).units = s.units := by
  obtain ⟨_, _, h⟩ := s.setSummary_only b; rw [h]
@[simp] theorem State.setSummary_posts (b : Nat) : (s.setSummary b).posts = s.posts := by
  obtain ⟨_, _, h⟩ := s.setSummary_only b; rw [h]
@[simp] theorem State.setSummary_launches (b : Nat) : (s.setSummary b).launches = s.launches := by
  obtain ⟨_, _, h⟩ := s.setSummary_only b; rw [h]
@[simp] theorem State.setSummary_parcels (b : Nat) : (s.setSummary b).parcels = s.parcels := by
  obtain ⟨_, _, h⟩ := s.setSummary_only b; rw [h]
@[simp] theorem State.setSummary_mer (b : Nat) : (s.setSummary b).mer = s.mer := by
  obtain ⟨_, _, h⟩ := s.setSummary_only b; rw [h]
@[simp] theorem State.setSummary_sectors (b : Nat) : (s.setSummary b).sectors = s.sectors := by
  obtain ⟨_, _, h⟩ := s.setSummary_only b; rw [h]
@[simp] theorem State.setSummary_spineFailed (b : Nat) : (s.setSummary b).spineFailed = s.spineFailed := by
  obtain ⟨_, _, h⟩ := s.setSummary_only b; rw [h]
@[simp] theorem State.setSummary_bridgeFailed (b : Nat) : (s.setSummary b).bridgeFailed = s.bridgeFailed := by
  obtain ⟨_, _, h⟩ := s.setSummary_only b; rw [h]
@[simp] theorem State.setSummary_cart (b : Nat) : (s.setSummary b).cart = s.cart := by
  obtain ⟨_, _, h⟩ := s.setSummary_only b; rw [h]
@[simp] theorem State.setSummary_ports (b : Nat) : (s.setSummary b).ports = s.ports := by
  obtain ⟨_, _, h⟩ := s.setSummary_only b; rw [h]
@[simp] theorem State.setSummary_lamps (b : Nat) : (s.setSummary b).lamps = s.lamps := by
  obtain ⟨_, _, h⟩ := s.setSummary_only b; rw [h]
@[simp] theorem State.setSummary_clocks (b : Nat) : (s.setSummary b).clocks = s.clocks := by
  obtain ⟨_, _, h⟩ := s.setSummary_only b; rw [h]
@[simp] theorem State.setSummary_supply (b : Nat) : (s.setSummary b).supply = s.supply := by
  obtain ⟨_, _, h⟩ := s.setSummary_only b; rw [h]
@[simp] theorem State.setSummary_sensors (b : Nat) : (s.setSummary b).sensors = s.sensors := by
  obtain ⟨_, _, h⟩ := s.setSummary_only b; rw [h]
@[simp] theorem State.setSummary_thermal (b : Nat) : (s.setSummary b).thermal = s.thermal := by
  obtain ⟨_, _, h⟩ := s.setSummary_only b; rw [h]
@[simp] theorem State.setSummary_legend (b : Nat) : (s.setSummary b).legend = s.legend := by
  obtain ⟨_, _, h⟩ := s.setSummary_only b; rw [h]
@[simp] theorem State.setSummary_vfs (b : Nat) : (s.setSummary b).vfs = s.vfs := by
  obtain ⟨_, _, h⟩ := s.setSummary_only b; rw [h]
@[simp] theorem State.setSummary_fresh (b : Nat) : (s.setSummary b).fresh = s.fresh := by
  obtain ⟨_, _, h⟩ := s.setSummary_only b; rw [h]

@[simp] theorem State.logLost_pending  : (s.logLost).pending = s.pending := by
  obtain ⟨_, _, h⟩ := s.logLost_only; rw [h]
@[simp] theorem State.logLost_sent  : (s.logLost).sent = s.sent := by
  obtain ⟨_, _, h⟩ := s.logLost_only; rw [h]
@[simp] theorem State.logLost_tiles  : (s.logLost).tiles = s.tiles := by
  obtain ⟨_, _, h⟩ := s.logLost_only; rw [h]
@[simp] theorem State.logLost_channels  : (s.logLost).channels = s.channels := by
  obtain ⟨_, _, h⟩ := s.logLost_only; rw [h]
@[simp] theorem State.logLost_stack  : (s.logLost).stack = s.stack := by
  obtain ⟨_, _, h⟩ := s.logLost_only; rw [h]
@[simp] theorem State.logLost_stackErr  : (s.logLost).stackErr = s.stackErr := by
  obtain ⟨_, _, h⟩ := s.logLost_only; rw [h]
@[simp] theorem State.logLost_lines  : (s.logLost).lines = s.lines := by
  obtain ⟨_, _, h⟩ := s.logLost_only; rw [h]
@[simp] theorem State.logLost_stackModes  : (s.logLost).stackModes = s.stackModes := by
  obtain ⟨_, _, h⟩ := s.logLost_only; rw [h]
@[simp] theorem State.logLost_units  : (s.logLost).units = s.units := by
  obtain ⟨_, _, h⟩ := s.logLost_only; rw [h]
@[simp] theorem State.logLost_posts  : (s.logLost).posts = s.posts := by
  obtain ⟨_, _, h⟩ := s.logLost_only; rw [h]
@[simp] theorem State.logLost_launches  : (s.logLost).launches = s.launches := by
  obtain ⟨_, _, h⟩ := s.logLost_only; rw [h]
@[simp] theorem State.logLost_parcels  : (s.logLost).parcels = s.parcels := by
  obtain ⟨_, _, h⟩ := s.logLost_only; rw [h]
@[simp] theorem State.logLost_mer  : (s.logLost).mer = s.mer := by
  obtain ⟨_, _, h⟩ := s.logLost_only; rw [h]
@[simp] theorem State.logLost_sectors  : (s.logLost).sectors = s.sectors := by
  obtain ⟨_, _, h⟩ := s.logLost_only; rw [h]
@[simp] theorem State.logLost_spineFailed  : (s.logLost).spineFailed = s.spineFailed := by
  obtain ⟨_, _, h⟩ := s.logLost_only; rw [h]
@[simp] theorem State.logLost_bridgeFailed  : (s.logLost).bridgeFailed = s.bridgeFailed := by
  obtain ⟨_, _, h⟩ := s.logLost_only; rw [h]
@[simp] theorem State.logLost_cart  : (s.logLost).cart = s.cart := by
  obtain ⟨_, _, h⟩ := s.logLost_only; rw [h]
@[simp] theorem State.logLost_ports  : (s.logLost).ports = s.ports := by
  obtain ⟨_, _, h⟩ := s.logLost_only; rw [h]
@[simp] theorem State.logLost_lamps  : (s.logLost).lamps = s.lamps := by
  obtain ⟨_, _, h⟩ := s.logLost_only; rw [h]
@[simp] theorem State.logLost_clocks  : (s.logLost).clocks = s.clocks := by
  obtain ⟨_, _, h⟩ := s.logLost_only; rw [h]
@[simp] theorem State.logLost_supply  : (s.logLost).supply = s.supply := by
  obtain ⟨_, _, h⟩ := s.logLost_only; rw [h]
@[simp] theorem State.logLost_sensors  : (s.logLost).sensors = s.sensors := by
  obtain ⟨_, _, h⟩ := s.logLost_only; rw [h]
@[simp] theorem State.logLost_thermal  : (s.logLost).thermal = s.thermal := by
  obtain ⟨_, _, h⟩ := s.logLost_only; rw [h]
@[simp] theorem State.logLost_legend  : (s.logLost).legend = s.legend := by
  obtain ⟨_, _, h⟩ := s.logLost_only; rw [h]
@[simp] theorem State.logLost_vfs  : (s.logLost).vfs = s.vfs := by
  obtain ⟨_, _, h⟩ := s.logLost_only; rw [h]
@[simp] theorem State.logLost_fresh  : (s.logLost).fresh = s.fresh := by
  obtain ⟨_, _, h⟩ := s.logLost_only; rw [h]

@[simp] theorem State.offer_pending (r : LogRec) : (s.offer r).pending = s.pending := by
  obtain ⟨_, _, h⟩ := s.offer_only r; rw [h]
@[simp] theorem State.offer_sent (r : LogRec) : (s.offer r).sent = s.sent := by
  obtain ⟨_, _, h⟩ := s.offer_only r; rw [h]
@[simp] theorem State.offer_tiles (r : LogRec) : (s.offer r).tiles = s.tiles := by
  obtain ⟨_, _, h⟩ := s.offer_only r; rw [h]
@[simp] theorem State.offer_channels (r : LogRec) : (s.offer r).channels = s.channels := by
  obtain ⟨_, _, h⟩ := s.offer_only r; rw [h]
@[simp] theorem State.offer_stack (r : LogRec) : (s.offer r).stack = s.stack := by
  obtain ⟨_, _, h⟩ := s.offer_only r; rw [h]
@[simp] theorem State.offer_stackErr (r : LogRec) : (s.offer r).stackErr = s.stackErr := by
  obtain ⟨_, _, h⟩ := s.offer_only r; rw [h]
@[simp] theorem State.offer_lines (r : LogRec) : (s.offer r).lines = s.lines := by
  obtain ⟨_, _, h⟩ := s.offer_only r; rw [h]
@[simp] theorem State.offer_stackModes (r : LogRec) : (s.offer r).stackModes = s.stackModes := by
  obtain ⟨_, _, h⟩ := s.offer_only r; rw [h]
@[simp] theorem State.offer_units (r : LogRec) : (s.offer r).units = s.units := by
  obtain ⟨_, _, h⟩ := s.offer_only r; rw [h]
@[simp] theorem State.offer_posts (r : LogRec) : (s.offer r).posts = s.posts := by
  obtain ⟨_, _, h⟩ := s.offer_only r; rw [h]
@[simp] theorem State.offer_launches (r : LogRec) : (s.offer r).launches = s.launches := by
  obtain ⟨_, _, h⟩ := s.offer_only r; rw [h]
@[simp] theorem State.offer_parcels (r : LogRec) : (s.offer r).parcels = s.parcels := by
  obtain ⟨_, _, h⟩ := s.offer_only r; rw [h]
@[simp] theorem State.offer_mer (r : LogRec) : (s.offer r).mer = s.mer := by
  obtain ⟨_, _, h⟩ := s.offer_only r; rw [h]
@[simp] theorem State.offer_sectors (r : LogRec) : (s.offer r).sectors = s.sectors := by
  obtain ⟨_, _, h⟩ := s.offer_only r; rw [h]
@[simp] theorem State.offer_spineFailed (r : LogRec) : (s.offer r).spineFailed = s.spineFailed := by
  obtain ⟨_, _, h⟩ := s.offer_only r; rw [h]
@[simp] theorem State.offer_bridgeFailed (r : LogRec) : (s.offer r).bridgeFailed = s.bridgeFailed := by
  obtain ⟨_, _, h⟩ := s.offer_only r; rw [h]
@[simp] theorem State.offer_cart (r : LogRec) : (s.offer r).cart = s.cart := by
  obtain ⟨_, _, h⟩ := s.offer_only r; rw [h]
@[simp] theorem State.offer_ports (r : LogRec) : (s.offer r).ports = s.ports := by
  obtain ⟨_, _, h⟩ := s.offer_only r; rw [h]
@[simp] theorem State.offer_lamps (r : LogRec) : (s.offer r).lamps = s.lamps := by
  obtain ⟨_, _, h⟩ := s.offer_only r; rw [h]
@[simp] theorem State.offer_clocks (r : LogRec) : (s.offer r).clocks = s.clocks := by
  obtain ⟨_, _, h⟩ := s.offer_only r; rw [h]
@[simp] theorem State.offer_supply (r : LogRec) : (s.offer r).supply = s.supply := by
  obtain ⟨_, _, h⟩ := s.offer_only r; rw [h]
@[simp] theorem State.offer_sensors (r : LogRec) : (s.offer r).sensors = s.sensors := by
  obtain ⟨_, _, h⟩ := s.offer_only r; rw [h]
@[simp] theorem State.offer_thermal (r : LogRec) : (s.offer r).thermal = s.thermal := by
  obtain ⟨_, _, h⟩ := s.offer_only r; rw [h]
@[simp] theorem State.offer_legend (r : LogRec) : (s.offer r).legend = s.legend := by
  obtain ⟨_, _, h⟩ := s.offer_only r; rw [h]
@[simp] theorem State.offer_vfs (r : LogRec) : (s.offer r).vfs = s.vfs := by
  obtain ⟨_, _, h⟩ := s.offer_only r; rw [h]
@[simp] theorem State.offer_fresh (r : LogRec) : (s.offer r).fresh = s.fresh := by
  obtain ⟨_, _, h⟩ := s.offer_only r; rw [h]

@[simp] theorem State.logEvent_pending (a b c : Nat) (p : Option Nat) (d e : Nat) : (s.logEvent a b c p d e).pending = s.pending := by
  obtain ⟨_, _, h⟩ := s.logEvent_only a b c p d e; rw [h]
@[simp] theorem State.logEvent_sent (a b c : Nat) (p : Option Nat) (d e : Nat) : (s.logEvent a b c p d e).sent = s.sent := by
  obtain ⟨_, _, h⟩ := s.logEvent_only a b c p d e; rw [h]
@[simp] theorem State.logEvent_tiles (a b c : Nat) (p : Option Nat) (d e : Nat) : (s.logEvent a b c p d e).tiles = s.tiles := by
  obtain ⟨_, _, h⟩ := s.logEvent_only a b c p d e; rw [h]
@[simp] theorem State.logEvent_channels (a b c : Nat) (p : Option Nat) (d e : Nat) : (s.logEvent a b c p d e).channels = s.channels := by
  obtain ⟨_, _, h⟩ := s.logEvent_only a b c p d e; rw [h]
@[simp] theorem State.logEvent_stack (a b c : Nat) (p : Option Nat) (d e : Nat) : (s.logEvent a b c p d e).stack = s.stack := by
  obtain ⟨_, _, h⟩ := s.logEvent_only a b c p d e; rw [h]
@[simp] theorem State.logEvent_stackErr (a b c : Nat) (p : Option Nat) (d e : Nat) : (s.logEvent a b c p d e).stackErr = s.stackErr := by
  obtain ⟨_, _, h⟩ := s.logEvent_only a b c p d e; rw [h]
@[simp] theorem State.logEvent_lines (a b c : Nat) (p : Option Nat) (d e : Nat) : (s.logEvent a b c p d e).lines = s.lines := by
  obtain ⟨_, _, h⟩ := s.logEvent_only a b c p d e; rw [h]
@[simp] theorem State.logEvent_stackModes (a b c : Nat) (p : Option Nat) (d e : Nat) : (s.logEvent a b c p d e).stackModes = s.stackModes := by
  obtain ⟨_, _, h⟩ := s.logEvent_only a b c p d e; rw [h]
@[simp] theorem State.logEvent_units (a b c : Nat) (p : Option Nat) (d e : Nat) : (s.logEvent a b c p d e).units = s.units := by
  obtain ⟨_, _, h⟩ := s.logEvent_only a b c p d e; rw [h]
@[simp] theorem State.logEvent_posts (a b c : Nat) (p : Option Nat) (d e : Nat) : (s.logEvent a b c p d e).posts = s.posts := by
  obtain ⟨_, _, h⟩ := s.logEvent_only a b c p d e; rw [h]
@[simp] theorem State.logEvent_launches (a b c : Nat) (p : Option Nat) (d e : Nat) : (s.logEvent a b c p d e).launches = s.launches := by
  obtain ⟨_, _, h⟩ := s.logEvent_only a b c p d e; rw [h]
@[simp] theorem State.logEvent_parcels (a b c : Nat) (p : Option Nat) (d e : Nat) : (s.logEvent a b c p d e).parcels = s.parcels := by
  obtain ⟨_, _, h⟩ := s.logEvent_only a b c p d e; rw [h]
@[simp] theorem State.logEvent_mer (a b c : Nat) (p : Option Nat) (d e : Nat) : (s.logEvent a b c p d e).mer = s.mer := by
  obtain ⟨_, _, h⟩ := s.logEvent_only a b c p d e; rw [h]
@[simp] theorem State.logEvent_sectors (a b c : Nat) (p : Option Nat) (d e : Nat) : (s.logEvent a b c p d e).sectors = s.sectors := by
  obtain ⟨_, _, h⟩ := s.logEvent_only a b c p d e; rw [h]
@[simp] theorem State.logEvent_spineFailed (a b c : Nat) (p : Option Nat) (d e : Nat) : (s.logEvent a b c p d e).spineFailed = s.spineFailed := by
  obtain ⟨_, _, h⟩ := s.logEvent_only a b c p d e; rw [h]
@[simp] theorem State.logEvent_bridgeFailed (a b c : Nat) (p : Option Nat) (d e : Nat) : (s.logEvent a b c p d e).bridgeFailed = s.bridgeFailed := by
  obtain ⟨_, _, h⟩ := s.logEvent_only a b c p d e; rw [h]
@[simp] theorem State.logEvent_cart (a b c : Nat) (p : Option Nat) (d e : Nat) : (s.logEvent a b c p d e).cart = s.cart := by
  obtain ⟨_, _, h⟩ := s.logEvent_only a b c p d e; rw [h]
@[simp] theorem State.logEvent_ports (a b c : Nat) (p : Option Nat) (d e : Nat) : (s.logEvent a b c p d e).ports = s.ports := by
  obtain ⟨_, _, h⟩ := s.logEvent_only a b c p d e; rw [h]
@[simp] theorem State.logEvent_lamps (a b c : Nat) (p : Option Nat) (d e : Nat) : (s.logEvent a b c p d e).lamps = s.lamps := by
  obtain ⟨_, _, h⟩ := s.logEvent_only a b c p d e; rw [h]
@[simp] theorem State.logEvent_clocks (a b c : Nat) (p : Option Nat) (d e : Nat) : (s.logEvent a b c p d e).clocks = s.clocks := by
  obtain ⟨_, _, h⟩ := s.logEvent_only a b c p d e; rw [h]
@[simp] theorem State.logEvent_supply (a b c : Nat) (p : Option Nat) (d e : Nat) : (s.logEvent a b c p d e).supply = s.supply := by
  obtain ⟨_, _, h⟩ := s.logEvent_only a b c p d e; rw [h]
@[simp] theorem State.logEvent_sensors (a b c : Nat) (p : Option Nat) (d e : Nat) : (s.logEvent a b c p d e).sensors = s.sensors := by
  obtain ⟨_, _, h⟩ := s.logEvent_only a b c p d e; rw [h]
@[simp] theorem State.logEvent_thermal (a b c : Nat) (p : Option Nat) (d e : Nat) : (s.logEvent a b c p d e).thermal = s.thermal := by
  obtain ⟨_, _, h⟩ := s.logEvent_only a b c p d e; rw [h]
@[simp] theorem State.logEvent_legend (a b c : Nat) (p : Option Nat) (d e : Nat) : (s.logEvent a b c p d e).legend = s.legend := by
  obtain ⟨_, _, h⟩ := s.logEvent_only a b c p d e; rw [h]
@[simp] theorem State.logEvent_vfs (a b c : Nat) (p : Option Nat) (d e : Nat) : (s.logEvent a b c p d e).vfs = s.vfs := by
  obtain ⟨_, _, h⟩ := s.logEvent_only a b c p d e; rw [h]
@[simp] theorem State.logEvent_fresh (a b c : Nat) (p : Option Nat) (d e : Nat) : (s.logEvent a b c p d e).fresh = s.fresh := by
  obtain ⟨_, _, h⟩ := s.logEvent_only a b c p d e; rw [h]

@[simp] theorem State.bucketEvent_pending (a b : Nat) (p : Option Nat) : (s.bucketEvent a b p).pending = s.pending := by
  obtain ⟨_, _, h⟩ := s.bucketEvent_only a b p; rw [h]
@[simp] theorem State.bucketEvent_sent (a b : Nat) (p : Option Nat) : (s.bucketEvent a b p).sent = s.sent := by
  obtain ⟨_, _, h⟩ := s.bucketEvent_only a b p; rw [h]
@[simp] theorem State.bucketEvent_tiles (a b : Nat) (p : Option Nat) : (s.bucketEvent a b p).tiles = s.tiles := by
  obtain ⟨_, _, h⟩ := s.bucketEvent_only a b p; rw [h]
@[simp] theorem State.bucketEvent_channels (a b : Nat) (p : Option Nat) : (s.bucketEvent a b p).channels = s.channels := by
  obtain ⟨_, _, h⟩ := s.bucketEvent_only a b p; rw [h]
@[simp] theorem State.bucketEvent_stack (a b : Nat) (p : Option Nat) : (s.bucketEvent a b p).stack = s.stack := by
  obtain ⟨_, _, h⟩ := s.bucketEvent_only a b p; rw [h]
@[simp] theorem State.bucketEvent_stackErr (a b : Nat) (p : Option Nat) : (s.bucketEvent a b p).stackErr = s.stackErr := by
  obtain ⟨_, _, h⟩ := s.bucketEvent_only a b p; rw [h]
@[simp] theorem State.bucketEvent_lines (a b : Nat) (p : Option Nat) : (s.bucketEvent a b p).lines = s.lines := by
  obtain ⟨_, _, h⟩ := s.bucketEvent_only a b p; rw [h]
@[simp] theorem State.bucketEvent_stackModes (a b : Nat) (p : Option Nat) : (s.bucketEvent a b p).stackModes = s.stackModes := by
  obtain ⟨_, _, h⟩ := s.bucketEvent_only a b p; rw [h]
@[simp] theorem State.bucketEvent_units (a b : Nat) (p : Option Nat) : (s.bucketEvent a b p).units = s.units := by
  obtain ⟨_, _, h⟩ := s.bucketEvent_only a b p; rw [h]
@[simp] theorem State.bucketEvent_posts (a b : Nat) (p : Option Nat) : (s.bucketEvent a b p).posts = s.posts := by
  obtain ⟨_, _, h⟩ := s.bucketEvent_only a b p; rw [h]
@[simp] theorem State.bucketEvent_launches (a b : Nat) (p : Option Nat) : (s.bucketEvent a b p).launches = s.launches := by
  obtain ⟨_, _, h⟩ := s.bucketEvent_only a b p; rw [h]
@[simp] theorem State.bucketEvent_parcels (a b : Nat) (p : Option Nat) : (s.bucketEvent a b p).parcels = s.parcels := by
  obtain ⟨_, _, h⟩ := s.bucketEvent_only a b p; rw [h]
@[simp] theorem State.bucketEvent_mer (a b : Nat) (p : Option Nat) : (s.bucketEvent a b p).mer = s.mer := by
  obtain ⟨_, _, h⟩ := s.bucketEvent_only a b p; rw [h]
@[simp] theorem State.bucketEvent_sectors (a b : Nat) (p : Option Nat) : (s.bucketEvent a b p).sectors = s.sectors := by
  obtain ⟨_, _, h⟩ := s.bucketEvent_only a b p; rw [h]
@[simp] theorem State.bucketEvent_spineFailed (a b : Nat) (p : Option Nat) : (s.bucketEvent a b p).spineFailed = s.spineFailed := by
  obtain ⟨_, _, h⟩ := s.bucketEvent_only a b p; rw [h]
@[simp] theorem State.bucketEvent_bridgeFailed (a b : Nat) (p : Option Nat) : (s.bucketEvent a b p).bridgeFailed = s.bridgeFailed := by
  obtain ⟨_, _, h⟩ := s.bucketEvent_only a b p; rw [h]
@[simp] theorem State.bucketEvent_cart (a b : Nat) (p : Option Nat) : (s.bucketEvent a b p).cart = s.cart := by
  obtain ⟨_, _, h⟩ := s.bucketEvent_only a b p; rw [h]
@[simp] theorem State.bucketEvent_ports (a b : Nat) (p : Option Nat) : (s.bucketEvent a b p).ports = s.ports := by
  obtain ⟨_, _, h⟩ := s.bucketEvent_only a b p; rw [h]
@[simp] theorem State.bucketEvent_lamps (a b : Nat) (p : Option Nat) : (s.bucketEvent a b p).lamps = s.lamps := by
  obtain ⟨_, _, h⟩ := s.bucketEvent_only a b p; rw [h]
@[simp] theorem State.bucketEvent_clocks (a b : Nat) (p : Option Nat) : (s.bucketEvent a b p).clocks = s.clocks := by
  obtain ⟨_, _, h⟩ := s.bucketEvent_only a b p; rw [h]
@[simp] theorem State.bucketEvent_supply (a b : Nat) (p : Option Nat) : (s.bucketEvent a b p).supply = s.supply := by
  obtain ⟨_, _, h⟩ := s.bucketEvent_only a b p; rw [h]
@[simp] theorem State.bucketEvent_sensors (a b : Nat) (p : Option Nat) : (s.bucketEvent a b p).sensors = s.sensors := by
  obtain ⟨_, _, h⟩ := s.bucketEvent_only a b p; rw [h]
@[simp] theorem State.bucketEvent_thermal (a b : Nat) (p : Option Nat) : (s.bucketEvent a b p).thermal = s.thermal := by
  obtain ⟨_, _, h⟩ := s.bucketEvent_only a b p; rw [h]
@[simp] theorem State.bucketEvent_legend (a b : Nat) (p : Option Nat) : (s.bucketEvent a b p).legend = s.legend := by
  obtain ⟨_, _, h⟩ := s.bucketEvent_only a b p; rw [h]
@[simp] theorem State.bucketEvent_vfs (a b : Nat) (p : Option Nat) : (s.bucketEvent a b p).vfs = s.vfs := by
  obtain ⟨_, _, h⟩ := s.bucketEvent_only a b p; rw [h]
@[simp] theorem State.bucketEvent_fresh (a b : Nat) (p : Option Nat) : (s.bucketEvent a b p).fresh = s.fresh := by
  obtain ⟨_, _, h⟩ := s.bucketEvent_only a b p; rw [h]

@[simp] theorem State.bucketEvents_pending (a b : Nat) (p : Option Nat) (n : Nat) : (s.bucketEvents a b p n).pending = s.pending := by
  obtain ⟨_, _, h⟩ := s.bucketEvents_only a b p n; rw [h]
@[simp] theorem State.bucketEvents_sent (a b : Nat) (p : Option Nat) (n : Nat) : (s.bucketEvents a b p n).sent = s.sent := by
  obtain ⟨_, _, h⟩ := s.bucketEvents_only a b p n; rw [h]
@[simp] theorem State.bucketEvents_tiles (a b : Nat) (p : Option Nat) (n : Nat) : (s.bucketEvents a b p n).tiles = s.tiles := by
  obtain ⟨_, _, h⟩ := s.bucketEvents_only a b p n; rw [h]
@[simp] theorem State.bucketEvents_channels (a b : Nat) (p : Option Nat) (n : Nat) : (s.bucketEvents a b p n).channels = s.channels := by
  obtain ⟨_, _, h⟩ := s.bucketEvents_only a b p n; rw [h]
@[simp] theorem State.bucketEvents_stack (a b : Nat) (p : Option Nat) (n : Nat) : (s.bucketEvents a b p n).stack = s.stack := by
  obtain ⟨_, _, h⟩ := s.bucketEvents_only a b p n; rw [h]
@[simp] theorem State.bucketEvents_stackErr (a b : Nat) (p : Option Nat) (n : Nat) : (s.bucketEvents a b p n).stackErr = s.stackErr := by
  obtain ⟨_, _, h⟩ := s.bucketEvents_only a b p n; rw [h]
@[simp] theorem State.bucketEvents_lines (a b : Nat) (p : Option Nat) (n : Nat) : (s.bucketEvents a b p n).lines = s.lines := by
  obtain ⟨_, _, h⟩ := s.bucketEvents_only a b p n; rw [h]
@[simp] theorem State.bucketEvents_stackModes (a b : Nat) (p : Option Nat) (n : Nat) : (s.bucketEvents a b p n).stackModes = s.stackModes := by
  obtain ⟨_, _, h⟩ := s.bucketEvents_only a b p n; rw [h]
@[simp] theorem State.bucketEvents_units (a b : Nat) (p : Option Nat) (n : Nat) : (s.bucketEvents a b p n).units = s.units := by
  obtain ⟨_, _, h⟩ := s.bucketEvents_only a b p n; rw [h]
@[simp] theorem State.bucketEvents_posts (a b : Nat) (p : Option Nat) (n : Nat) : (s.bucketEvents a b p n).posts = s.posts := by
  obtain ⟨_, _, h⟩ := s.bucketEvents_only a b p n; rw [h]
@[simp] theorem State.bucketEvents_launches (a b : Nat) (p : Option Nat) (n : Nat) : (s.bucketEvents a b p n).launches = s.launches := by
  obtain ⟨_, _, h⟩ := s.bucketEvents_only a b p n; rw [h]
@[simp] theorem State.bucketEvents_parcels (a b : Nat) (p : Option Nat) (n : Nat) : (s.bucketEvents a b p n).parcels = s.parcels := by
  obtain ⟨_, _, h⟩ := s.bucketEvents_only a b p n; rw [h]
@[simp] theorem State.bucketEvents_mer (a b : Nat) (p : Option Nat) (n : Nat) : (s.bucketEvents a b p n).mer = s.mer := by
  obtain ⟨_, _, h⟩ := s.bucketEvents_only a b p n; rw [h]
@[simp] theorem State.bucketEvents_sectors (a b : Nat) (p : Option Nat) (n : Nat) : (s.bucketEvents a b p n).sectors = s.sectors := by
  obtain ⟨_, _, h⟩ := s.bucketEvents_only a b p n; rw [h]
@[simp] theorem State.bucketEvents_spineFailed (a b : Nat) (p : Option Nat) (n : Nat) : (s.bucketEvents a b p n).spineFailed = s.spineFailed := by
  obtain ⟨_, _, h⟩ := s.bucketEvents_only a b p n; rw [h]
@[simp] theorem State.bucketEvents_bridgeFailed (a b : Nat) (p : Option Nat) (n : Nat) : (s.bucketEvents a b p n).bridgeFailed = s.bridgeFailed := by
  obtain ⟨_, _, h⟩ := s.bucketEvents_only a b p n; rw [h]
@[simp] theorem State.bucketEvents_cart (a b : Nat) (p : Option Nat) (n : Nat) : (s.bucketEvents a b p n).cart = s.cart := by
  obtain ⟨_, _, h⟩ := s.bucketEvents_only a b p n; rw [h]
@[simp] theorem State.bucketEvents_ports (a b : Nat) (p : Option Nat) (n : Nat) : (s.bucketEvents a b p n).ports = s.ports := by
  obtain ⟨_, _, h⟩ := s.bucketEvents_only a b p n; rw [h]
@[simp] theorem State.bucketEvents_lamps (a b : Nat) (p : Option Nat) (n : Nat) : (s.bucketEvents a b p n).lamps = s.lamps := by
  obtain ⟨_, _, h⟩ := s.bucketEvents_only a b p n; rw [h]
@[simp] theorem State.bucketEvents_clocks (a b : Nat) (p : Option Nat) (n : Nat) : (s.bucketEvents a b p n).clocks = s.clocks := by
  obtain ⟨_, _, h⟩ := s.bucketEvents_only a b p n; rw [h]
@[simp] theorem State.bucketEvents_supply (a b : Nat) (p : Option Nat) (n : Nat) : (s.bucketEvents a b p n).supply = s.supply := by
  obtain ⟨_, _, h⟩ := s.bucketEvents_only a b p n; rw [h]
@[simp] theorem State.bucketEvents_sensors (a b : Nat) (p : Option Nat) (n : Nat) : (s.bucketEvents a b p n).sensors = s.sensors := by
  obtain ⟨_, _, h⟩ := s.bucketEvents_only a b p n; rw [h]
@[simp] theorem State.bucketEvents_thermal (a b : Nat) (p : Option Nat) (n : Nat) : (s.bucketEvents a b p n).thermal = s.thermal := by
  obtain ⟨_, _, h⟩ := s.bucketEvents_only a b p n; rw [h]
@[simp] theorem State.bucketEvents_legend (a b : Nat) (p : Option Nat) (n : Nat) : (s.bucketEvents a b p n).legend = s.legend := by
  obtain ⟨_, _, h⟩ := s.bucketEvents_only a b p n; rw [h]
@[simp] theorem State.bucketEvents_vfs (a b : Nat) (p : Option Nat) (n : Nat) : (s.bucketEvents a b p n).vfs = s.vfs := by
  obtain ⟨_, _, h⟩ := s.bucketEvents_only a b p n; rw [h]
@[simp] theorem State.bucketEvents_fresh (a b : Nat) (p : Option Nat) (n : Nat) : (s.bucketEvents a b p n).fresh = s.fresh := by
  obtain ⟨_, _, h⟩ := s.bucketEvents_only a b p n; rw [h]

@[simp] theorem State.count_pending (p : Option Nat) (k n : Nat) : (s.count p k n).pending = s.pending := by
  obtain ⟨_, h⟩ := s.count_only p k n; rw [h]
@[simp] theorem State.count_sent (p : Option Nat) (k n : Nat) : (s.count p k n).sent = s.sent := by
  obtain ⟨_, h⟩ := s.count_only p k n; rw [h]
@[simp] theorem State.count_tiles (p : Option Nat) (k n : Nat) : (s.count p k n).tiles = s.tiles := by
  obtain ⟨_, h⟩ := s.count_only p k n; rw [h]
@[simp] theorem State.count_channels (p : Option Nat) (k n : Nat) : (s.count p k n).channels = s.channels := by
  obtain ⟨_, h⟩ := s.count_only p k n; rw [h]
@[simp] theorem State.count_stack (p : Option Nat) (k n : Nat) : (s.count p k n).stack = s.stack := by
  obtain ⟨_, h⟩ := s.count_only p k n; rw [h]
@[simp] theorem State.count_stackErr (p : Option Nat) (k n : Nat) : (s.count p k n).stackErr = s.stackErr := by
  obtain ⟨_, h⟩ := s.count_only p k n; rw [h]
@[simp] theorem State.count_lines (p : Option Nat) (k n : Nat) : (s.count p k n).lines = s.lines := by
  obtain ⟨_, h⟩ := s.count_only p k n; rw [h]
@[simp] theorem State.count_stackModes (p : Option Nat) (k n : Nat) : (s.count p k n).stackModes = s.stackModes := by
  obtain ⟨_, h⟩ := s.count_only p k n; rw [h]
@[simp] theorem State.count_units (p : Option Nat) (k n : Nat) : (s.count p k n).units = s.units := by
  obtain ⟨_, h⟩ := s.count_only p k n; rw [h]
@[simp] theorem State.count_posts (p : Option Nat) (k n : Nat) : (s.count p k n).posts = s.posts := by
  obtain ⟨_, h⟩ := s.count_only p k n; rw [h]
@[simp] theorem State.count_launches (p : Option Nat) (k n : Nat) : (s.count p k n).launches = s.launches := by
  obtain ⟨_, h⟩ := s.count_only p k n; rw [h]
@[simp] theorem State.count_mer (p : Option Nat) (k n : Nat) : (s.count p k n).mer = s.mer := by
  obtain ⟨_, h⟩ := s.count_only p k n; rw [h]
@[simp] theorem State.count_sectors (p : Option Nat) (k n : Nat) : (s.count p k n).sectors = s.sectors := by
  obtain ⟨_, h⟩ := s.count_only p k n; rw [h]
@[simp] theorem State.count_spineFailed (p : Option Nat) (k n : Nat) : (s.count p k n).spineFailed = s.spineFailed := by
  obtain ⟨_, h⟩ := s.count_only p k n; rw [h]
@[simp] theorem State.count_bridgeFailed (p : Option Nat) (k n : Nat) : (s.count p k n).bridgeFailed = s.bridgeFailed := by
  obtain ⟨_, h⟩ := s.count_only p k n; rw [h]
@[simp] theorem State.count_log (p : Option Nat) (k n : Nat) : (s.count p k n).log = s.log := by
  obtain ⟨_, h⟩ := s.count_only p k n; rw [h]
@[simp] theorem State.count_cart (p : Option Nat) (k n : Nat) : (s.count p k n).cart = s.cart := by
  obtain ⟨_, h⟩ := s.count_only p k n; rw [h]
@[simp] theorem State.count_ports (p : Option Nat) (k n : Nat) : (s.count p k n).ports = s.ports := by
  obtain ⟨_, h⟩ := s.count_only p k n; rw [h]
@[simp] theorem State.count_lamps (p : Option Nat) (k n : Nat) : (s.count p k n).lamps = s.lamps := by
  obtain ⟨_, h⟩ := s.count_only p k n; rw [h]
@[simp] theorem State.count_clocks (p : Option Nat) (k n : Nat) : (s.count p k n).clocks = s.clocks := by
  obtain ⟨_, h⟩ := s.count_only p k n; rw [h]
@[simp] theorem State.count_supply (p : Option Nat) (k n : Nat) : (s.count p k n).supply = s.supply := by
  obtain ⟨_, h⟩ := s.count_only p k n; rw [h]
@[simp] theorem State.count_sensors (p : Option Nat) (k n : Nat) : (s.count p k n).sensors = s.sensors := by
  obtain ⟨_, h⟩ := s.count_only p k n; rw [h]
@[simp] theorem State.count_thermal (p : Option Nat) (k n : Nat) : (s.count p k n).thermal = s.thermal := by
  obtain ⟨_, h⟩ := s.count_only p k n; rw [h]
@[simp] theorem State.count_legend (p : Option Nat) (k n : Nat) : (s.count p k n).legend = s.legend := by
  obtain ⟨_, h⟩ := s.count_only p k n; rw [h]
@[simp] theorem State.count_vfs (p : Option Nat) (k n : Nat) : (s.count p k n).vfs = s.vfs := by
  obtain ⟨_, h⟩ := s.count_only p k n; rw [h]
@[simp] theorem State.count_irq (p : Option Nat) (k n : Nat) : (s.count p k n).irq = s.irq := by
  obtain ⟨_, h⟩ := s.count_only p k n; rw [h]
@[simp] theorem State.count_fresh (p : Option Nat) (k n : Nat) : (s.count p k n).fresh = s.fresh := by
  obtain ⟨_, h⟩ := s.count_only p k n; rw [h]

@[simp] theorem State.tileFlags_pending (t e : Nat) (f : FFlags) : (s.tileFlags t e f).pending = s.pending := by
  obtain ⟨_, h⟩ := s.tileFlags_only t e f; rw [h]
@[simp] theorem State.tileFlags_sent (t e : Nat) (f : FFlags) : (s.tileFlags t e f).sent = s.sent := by
  obtain ⟨_, h⟩ := s.tileFlags_only t e f; rw [h]
@[simp] theorem State.tileFlags_channels (t e : Nat) (f : FFlags) : (s.tileFlags t e f).channels = s.channels := by
  obtain ⟨_, h⟩ := s.tileFlags_only t e f; rw [h]
@[simp] theorem State.tileFlags_stack (t e : Nat) (f : FFlags) : (s.tileFlags t e f).stack = s.stack := by
  obtain ⟨_, h⟩ := s.tileFlags_only t e f; rw [h]
@[simp] theorem State.tileFlags_stackErr (t e : Nat) (f : FFlags) : (s.tileFlags t e f).stackErr = s.stackErr := by
  obtain ⟨_, h⟩ := s.tileFlags_only t e f; rw [h]
@[simp] theorem State.tileFlags_lines (t e : Nat) (f : FFlags) : (s.tileFlags t e f).lines = s.lines := by
  obtain ⟨_, h⟩ := s.tileFlags_only t e f; rw [h]
@[simp] theorem State.tileFlags_stackModes (t e : Nat) (f : FFlags) : (s.tileFlags t e f).stackModes = s.stackModes := by
  obtain ⟨_, h⟩ := s.tileFlags_only t e f; rw [h]
@[simp] theorem State.tileFlags_units (t e : Nat) (f : FFlags) : (s.tileFlags t e f).units = s.units := by
  obtain ⟨_, h⟩ := s.tileFlags_only t e f; rw [h]
@[simp] theorem State.tileFlags_posts (t e : Nat) (f : FFlags) : (s.tileFlags t e f).posts = s.posts := by
  obtain ⟨_, h⟩ := s.tileFlags_only t e f; rw [h]
@[simp] theorem State.tileFlags_launches (t e : Nat) (f : FFlags) : (s.tileFlags t e f).launches = s.launches := by
  obtain ⟨_, h⟩ := s.tileFlags_only t e f; rw [h]
@[simp] theorem State.tileFlags_parcels (t e : Nat) (f : FFlags) : (s.tileFlags t e f).parcels = s.parcels := by
  obtain ⟨_, h⟩ := s.tileFlags_only t e f; rw [h]
@[simp] theorem State.tileFlags_mer (t e : Nat) (f : FFlags) : (s.tileFlags t e f).mer = s.mer := by
  obtain ⟨_, h⟩ := s.tileFlags_only t e f; rw [h]
@[simp] theorem State.tileFlags_sectors (t e : Nat) (f : FFlags) : (s.tileFlags t e f).sectors = s.sectors := by
  obtain ⟨_, h⟩ := s.tileFlags_only t e f; rw [h]
@[simp] theorem State.tileFlags_spineFailed (t e : Nat) (f : FFlags) : (s.tileFlags t e f).spineFailed = s.spineFailed := by
  obtain ⟨_, h⟩ := s.tileFlags_only t e f; rw [h]
@[simp] theorem State.tileFlags_bridgeFailed (t e : Nat) (f : FFlags) : (s.tileFlags t e f).bridgeFailed = s.bridgeFailed := by
  obtain ⟨_, h⟩ := s.tileFlags_only t e f; rw [h]
@[simp] theorem State.tileFlags_log (t e : Nat) (f : FFlags) : (s.tileFlags t e f).log = s.log := by
  obtain ⟨_, h⟩ := s.tileFlags_only t e f; rw [h]
@[simp] theorem State.tileFlags_cart (t e : Nat) (f : FFlags) : (s.tileFlags t e f).cart = s.cart := by
  obtain ⟨_, h⟩ := s.tileFlags_only t e f; rw [h]
@[simp] theorem State.tileFlags_ports (t e : Nat) (f : FFlags) : (s.tileFlags t e f).ports = s.ports := by
  obtain ⟨_, h⟩ := s.tileFlags_only t e f; rw [h]
@[simp] theorem State.tileFlags_lamps (t e : Nat) (f : FFlags) : (s.tileFlags t e f).lamps = s.lamps := by
  obtain ⟨_, h⟩ := s.tileFlags_only t e f; rw [h]
@[simp] theorem State.tileFlags_clocks (t e : Nat) (f : FFlags) : (s.tileFlags t e f).clocks = s.clocks := by
  obtain ⟨_, h⟩ := s.tileFlags_only t e f; rw [h]
@[simp] theorem State.tileFlags_supply (t e : Nat) (f : FFlags) : (s.tileFlags t e f).supply = s.supply := by
  obtain ⟨_, h⟩ := s.tileFlags_only t e f; rw [h]
@[simp] theorem State.tileFlags_sensors (t e : Nat) (f : FFlags) : (s.tileFlags t e f).sensors = s.sensors := by
  obtain ⟨_, h⟩ := s.tileFlags_only t e f; rw [h]
@[simp] theorem State.tileFlags_thermal (t e : Nat) (f : FFlags) : (s.tileFlags t e f).thermal = s.thermal := by
  obtain ⟨_, h⟩ := s.tileFlags_only t e f; rw [h]
@[simp] theorem State.tileFlags_legend (t e : Nat) (f : FFlags) : (s.tileFlags t e f).legend = s.legend := by
  obtain ⟨_, h⟩ := s.tileFlags_only t e f; rw [h]
@[simp] theorem State.tileFlags_vfs (t e : Nat) (f : FFlags) : (s.tileFlags t e f).vfs = s.vfs := by
  obtain ⟨_, h⟩ := s.tileFlags_only t e f; rw [h]
@[simp] theorem State.tileFlags_irq (t e : Nat) (f : FFlags) : (s.tileFlags t e f).irq = s.irq := by
  obtain ⟨_, h⟩ := s.tileFlags_only t e f; rw [h]
@[simp] theorem State.tileFlags_fresh (t e : Nat) (f : FFlags) : (s.tileFlags t e f).fresh = s.fresh := by
  obtain ⟨_, h⟩ := s.tileFlags_only t e f; rw [h]

@[simp] theorem State.logCycle_pending (y a b c : Nat) (p : Option Nat) (d e : Nat) : (s.logCycle y a b c p d e).pending = s.pending := by
  obtain ⟨_, _, h⟩ := s.logCycle_only y a b c p d e; rw [h]
@[simp] theorem State.logCycle_sent (y a b c : Nat) (p : Option Nat) (d e : Nat) : (s.logCycle y a b c p d e).sent = s.sent := by
  obtain ⟨_, _, h⟩ := s.logCycle_only y a b c p d e; rw [h]
@[simp] theorem State.logCycle_tiles (y a b c : Nat) (p : Option Nat) (d e : Nat) : (s.logCycle y a b c p d e).tiles = s.tiles := by
  obtain ⟨_, _, h⟩ := s.logCycle_only y a b c p d e; rw [h]
@[simp] theorem State.logCycle_channels (y a b c : Nat) (p : Option Nat) (d e : Nat) : (s.logCycle y a b c p d e).channels = s.channels := by
  obtain ⟨_, _, h⟩ := s.logCycle_only y a b c p d e; rw [h]
@[simp] theorem State.logCycle_stack (y a b c : Nat) (p : Option Nat) (d e : Nat) : (s.logCycle y a b c p d e).stack = s.stack := by
  obtain ⟨_, _, h⟩ := s.logCycle_only y a b c p d e; rw [h]
@[simp] theorem State.logCycle_stackErr (y a b c : Nat) (p : Option Nat) (d e : Nat) : (s.logCycle y a b c p d e).stackErr = s.stackErr := by
  obtain ⟨_, _, h⟩ := s.logCycle_only y a b c p d e; rw [h]
@[simp] theorem State.logCycle_lines (y a b c : Nat) (p : Option Nat) (d e : Nat) : (s.logCycle y a b c p d e).lines = s.lines := by
  obtain ⟨_, _, h⟩ := s.logCycle_only y a b c p d e; rw [h]
@[simp] theorem State.logCycle_stackModes (y a b c : Nat) (p : Option Nat) (d e : Nat) : (s.logCycle y a b c p d e).stackModes = s.stackModes := by
  obtain ⟨_, _, h⟩ := s.logCycle_only y a b c p d e; rw [h]
@[simp] theorem State.logCycle_units (y a b c : Nat) (p : Option Nat) (d e : Nat) : (s.logCycle y a b c p d e).units = s.units := by
  obtain ⟨_, _, h⟩ := s.logCycle_only y a b c p d e; rw [h]
@[simp] theorem State.logCycle_posts (y a b c : Nat) (p : Option Nat) (d e : Nat) : (s.logCycle y a b c p d e).posts = s.posts := by
  obtain ⟨_, _, h⟩ := s.logCycle_only y a b c p d e; rw [h]
@[simp] theorem State.logCycle_launches (y a b c : Nat) (p : Option Nat) (d e : Nat) : (s.logCycle y a b c p d e).launches = s.launches := by
  obtain ⟨_, _, h⟩ := s.logCycle_only y a b c p d e; rw [h]
@[simp] theorem State.logCycle_parcels (y a b c : Nat) (p : Option Nat) (d e : Nat) : (s.logCycle y a b c p d e).parcels = s.parcels := by
  obtain ⟨_, _, h⟩ := s.logCycle_only y a b c p d e; rw [h]
@[simp] theorem State.logCycle_mer (y a b c : Nat) (p : Option Nat) (d e : Nat) : (s.logCycle y a b c p d e).mer = s.mer := by
  obtain ⟨_, _, h⟩ := s.logCycle_only y a b c p d e; rw [h]
@[simp] theorem State.logCycle_sectors (y a b c : Nat) (p : Option Nat) (d e : Nat) : (s.logCycle y a b c p d e).sectors = s.sectors := by
  obtain ⟨_, _, h⟩ := s.logCycle_only y a b c p d e; rw [h]
@[simp] theorem State.logCycle_spineFailed (y a b c : Nat) (p : Option Nat) (d e : Nat) : (s.logCycle y a b c p d e).spineFailed = s.spineFailed := by
  obtain ⟨_, _, h⟩ := s.logCycle_only y a b c p d e; rw [h]
@[simp] theorem State.logCycle_bridgeFailed (y a b c : Nat) (p : Option Nat) (d e : Nat) : (s.logCycle y a b c p d e).bridgeFailed = s.bridgeFailed := by
  obtain ⟨_, _, h⟩ := s.logCycle_only y a b c p d e; rw [h]
@[simp] theorem State.logCycle_cart (y a b c : Nat) (p : Option Nat) (d e : Nat) : (s.logCycle y a b c p d e).cart = s.cart := by
  obtain ⟨_, _, h⟩ := s.logCycle_only y a b c p d e; rw [h]
@[simp] theorem State.logCycle_ports (y a b c : Nat) (p : Option Nat) (d e : Nat) : (s.logCycle y a b c p d e).ports = s.ports := by
  obtain ⟨_, _, h⟩ := s.logCycle_only y a b c p d e; rw [h]
@[simp] theorem State.logCycle_lamps (y a b c : Nat) (p : Option Nat) (d e : Nat) : (s.logCycle y a b c p d e).lamps = s.lamps := by
  obtain ⟨_, _, h⟩ := s.logCycle_only y a b c p d e; rw [h]
@[simp] theorem State.logCycle_clocks (y a b c : Nat) (p : Option Nat) (d e : Nat) : (s.logCycle y a b c p d e).clocks = s.clocks := by
  obtain ⟨_, _, h⟩ := s.logCycle_only y a b c p d e; rw [h]
@[simp] theorem State.logCycle_supply (y a b c : Nat) (p : Option Nat) (d e : Nat) : (s.logCycle y a b c p d e).supply = s.supply := by
  obtain ⟨_, _, h⟩ := s.logCycle_only y a b c p d e; rw [h]
@[simp] theorem State.logCycle_sensors (y a b c : Nat) (p : Option Nat) (d e : Nat) : (s.logCycle y a b c p d e).sensors = s.sensors := by
  obtain ⟨_, _, h⟩ := s.logCycle_only y a b c p d e; rw [h]
@[simp] theorem State.logCycle_thermal (y a b c : Nat) (p : Option Nat) (d e : Nat) : (s.logCycle y a b c p d e).thermal = s.thermal := by
  obtain ⟨_, _, h⟩ := s.logCycle_only y a b c p d e; rw [h]
@[simp] theorem State.logCycle_legend (y a b c : Nat) (p : Option Nat) (d e : Nat) : (s.logCycle y a b c p d e).legend = s.legend := by
  obtain ⟨_, _, h⟩ := s.logCycle_only y a b c p d e; rw [h]
@[simp] theorem State.logCycle_vfs (y a b c : Nat) (p : Option Nat) (d e : Nat) : (s.logCycle y a b c p d e).vfs = s.vfs := by
  obtain ⟨_, _, h⟩ := s.logCycle_only y a b c p d e; rw [h]
@[simp] theorem State.logCycle_fresh (y a b c : Nat) (p : Option Nat) (d e : Nat) : (s.logCycle y a b c p d e).fresh = s.fresh := by
  obtain ⟨_, _, h⟩ := s.logCycle_only y a b c p d e; rw [h]

@[simp] theorem State.beginLeg_pending (p : Nat) : (s.beginLeg p).pending = s.pending := by
  obtain ⟨_, h⟩ := s.beginLeg_only p; rw [h]
@[simp] theorem State.beginLeg_sent (p : Nat) : (s.beginLeg p).sent = s.sent := by
  obtain ⟨_, h⟩ := s.beginLeg_only p; rw [h]
@[simp] theorem State.beginLeg_tiles (p : Nat) : (s.beginLeg p).tiles = s.tiles := by
  obtain ⟨_, h⟩ := s.beginLeg_only p; rw [h]
@[simp] theorem State.beginLeg_channels (p : Nat) : (s.beginLeg p).channels = s.channels := by
  obtain ⟨_, h⟩ := s.beginLeg_only p; rw [h]
@[simp] theorem State.beginLeg_stack (p : Nat) : (s.beginLeg p).stack = s.stack := by
  obtain ⟨_, h⟩ := s.beginLeg_only p; rw [h]
@[simp] theorem State.beginLeg_stackErr (p : Nat) : (s.beginLeg p).stackErr = s.stackErr := by
  obtain ⟨_, h⟩ := s.beginLeg_only p; rw [h]
@[simp] theorem State.beginLeg_lines (p : Nat) : (s.beginLeg p).lines = s.lines := by
  obtain ⟨_, h⟩ := s.beginLeg_only p; rw [h]
@[simp] theorem State.beginLeg_stackModes (p : Nat) : (s.beginLeg p).stackModes = s.stackModes := by
  obtain ⟨_, h⟩ := s.beginLeg_only p; rw [h]
@[simp] theorem State.beginLeg_units (p : Nat) : (s.beginLeg p).units = s.units := by
  obtain ⟨_, h⟩ := s.beginLeg_only p; rw [h]
@[simp] theorem State.beginLeg_posts (p : Nat) : (s.beginLeg p).posts = s.posts := by
  obtain ⟨_, h⟩ := s.beginLeg_only p; rw [h]
@[simp] theorem State.beginLeg_launches (p : Nat) : (s.beginLeg p).launches = s.launches := by
  obtain ⟨_, h⟩ := s.beginLeg_only p; rw [h]
@[simp] theorem State.beginLeg_mer (p : Nat) : (s.beginLeg p).mer = s.mer := by
  obtain ⟨_, h⟩ := s.beginLeg_only p; rw [h]
@[simp] theorem State.beginLeg_sectors (p : Nat) : (s.beginLeg p).sectors = s.sectors := by
  obtain ⟨_, h⟩ := s.beginLeg_only p; rw [h]
@[simp] theorem State.beginLeg_spineFailed (p : Nat) : (s.beginLeg p).spineFailed = s.spineFailed := by
  obtain ⟨_, h⟩ := s.beginLeg_only p; rw [h]
@[simp] theorem State.beginLeg_bridgeFailed (p : Nat) : (s.beginLeg p).bridgeFailed = s.bridgeFailed := by
  obtain ⟨_, h⟩ := s.beginLeg_only p; rw [h]
@[simp] theorem State.beginLeg_log (p : Nat) : (s.beginLeg p).log = s.log := by
  obtain ⟨_, h⟩ := s.beginLeg_only p; rw [h]
@[simp] theorem State.beginLeg_cart (p : Nat) : (s.beginLeg p).cart = s.cart := by
  obtain ⟨_, h⟩ := s.beginLeg_only p; rw [h]
@[simp] theorem State.beginLeg_ports (p : Nat) : (s.beginLeg p).ports = s.ports := by
  obtain ⟨_, h⟩ := s.beginLeg_only p; rw [h]
@[simp] theorem State.beginLeg_lamps (p : Nat) : (s.beginLeg p).lamps = s.lamps := by
  obtain ⟨_, h⟩ := s.beginLeg_only p; rw [h]
@[simp] theorem State.beginLeg_clocks (p : Nat) : (s.beginLeg p).clocks = s.clocks := by
  obtain ⟨_, h⟩ := s.beginLeg_only p; rw [h]
@[simp] theorem State.beginLeg_supply (p : Nat) : (s.beginLeg p).supply = s.supply := by
  obtain ⟨_, h⟩ := s.beginLeg_only p; rw [h]
@[simp] theorem State.beginLeg_sensors (p : Nat) : (s.beginLeg p).sensors = s.sensors := by
  obtain ⟨_, h⟩ := s.beginLeg_only p; rw [h]
@[simp] theorem State.beginLeg_thermal (p : Nat) : (s.beginLeg p).thermal = s.thermal := by
  obtain ⟨_, h⟩ := s.beginLeg_only p; rw [h]
@[simp] theorem State.beginLeg_legend (p : Nat) : (s.beginLeg p).legend = s.legend := by
  obtain ⟨_, h⟩ := s.beginLeg_only p; rw [h]
@[simp] theorem State.beginLeg_vfs (p : Nat) : (s.beginLeg p).vfs = s.vfs := by
  obtain ⟨_, h⟩ := s.beginLeg_only p; rw [h]
@[simp] theorem State.beginLeg_irq (p : Nat) : (s.beginLeg p).irq = s.irq := by
  obtain ⟨_, h⟩ := s.beginLeg_only p; rw [h]
@[simp] theorem State.beginLeg_fresh (p : Nat) : (s.beginLeg p).fresh = s.fresh := by
  obtain ⟨_, h⟩ := s.beginLeg_only p; rw [h]

@[simp] theorem State.fly_pending (p : Nat) (f : Flight) : (s.fly p f).pending = s.pending := by
  obtain ⟨_, h⟩ := s.fly_only p f; rw [h]
@[simp] theorem State.fly_sent (p : Nat) (f : Flight) : (s.fly p f).sent = s.sent := by
  obtain ⟨_, h⟩ := s.fly_only p f; rw [h]
@[simp] theorem State.fly_tiles (p : Nat) (f : Flight) : (s.fly p f).tiles = s.tiles := by
  obtain ⟨_, h⟩ := s.fly_only p f; rw [h]
@[simp] theorem State.fly_channels (p : Nat) (f : Flight) : (s.fly p f).channels = s.channels := by
  obtain ⟨_, h⟩ := s.fly_only p f; rw [h]
@[simp] theorem State.fly_stack (p : Nat) (f : Flight) : (s.fly p f).stack = s.stack := by
  obtain ⟨_, h⟩ := s.fly_only p f; rw [h]
@[simp] theorem State.fly_stackErr (p : Nat) (f : Flight) : (s.fly p f).stackErr = s.stackErr := by
  obtain ⟨_, h⟩ := s.fly_only p f; rw [h]
@[simp] theorem State.fly_lines (p : Nat) (f : Flight) : (s.fly p f).lines = s.lines := by
  obtain ⟨_, h⟩ := s.fly_only p f; rw [h]
@[simp] theorem State.fly_stackModes (p : Nat) (f : Flight) : (s.fly p f).stackModes = s.stackModes := by
  obtain ⟨_, h⟩ := s.fly_only p f; rw [h]
@[simp] theorem State.fly_units (p : Nat) (f : Flight) : (s.fly p f).units = s.units := by
  obtain ⟨_, h⟩ := s.fly_only p f; rw [h]
@[simp] theorem State.fly_posts (p : Nat) (f : Flight) : (s.fly p f).posts = s.posts := by
  obtain ⟨_, h⟩ := s.fly_only p f; rw [h]
@[simp] theorem State.fly_launches (p : Nat) (f : Flight) : (s.fly p f).launches = s.launches := by
  obtain ⟨_, h⟩ := s.fly_only p f; rw [h]
@[simp] theorem State.fly_mer (p : Nat) (f : Flight) : (s.fly p f).mer = s.mer := by
  obtain ⟨_, h⟩ := s.fly_only p f; rw [h]
@[simp] theorem State.fly_sectors (p : Nat) (f : Flight) : (s.fly p f).sectors = s.sectors := by
  obtain ⟨_, h⟩ := s.fly_only p f; rw [h]
@[simp] theorem State.fly_spineFailed (p : Nat) (f : Flight) : (s.fly p f).spineFailed = s.spineFailed := by
  obtain ⟨_, h⟩ := s.fly_only p f; rw [h]
@[simp] theorem State.fly_bridgeFailed (p : Nat) (f : Flight) : (s.fly p f).bridgeFailed = s.bridgeFailed := by
  obtain ⟨_, h⟩ := s.fly_only p f; rw [h]
@[simp] theorem State.fly_log (p : Nat) (f : Flight) : (s.fly p f).log = s.log := by
  obtain ⟨_, h⟩ := s.fly_only p f; rw [h]
@[simp] theorem State.fly_cart (p : Nat) (f : Flight) : (s.fly p f).cart = s.cart := by
  obtain ⟨_, h⟩ := s.fly_only p f; rw [h]
@[simp] theorem State.fly_ports (p : Nat) (f : Flight) : (s.fly p f).ports = s.ports := by
  obtain ⟨_, h⟩ := s.fly_only p f; rw [h]
@[simp] theorem State.fly_lamps (p : Nat) (f : Flight) : (s.fly p f).lamps = s.lamps := by
  obtain ⟨_, h⟩ := s.fly_only p f; rw [h]
@[simp] theorem State.fly_clocks (p : Nat) (f : Flight) : (s.fly p f).clocks = s.clocks := by
  obtain ⟨_, h⟩ := s.fly_only p f; rw [h]
@[simp] theorem State.fly_supply (p : Nat) (f : Flight) : (s.fly p f).supply = s.supply := by
  obtain ⟨_, h⟩ := s.fly_only p f; rw [h]
@[simp] theorem State.fly_sensors (p : Nat) (f : Flight) : (s.fly p f).sensors = s.sensors := by
  obtain ⟨_, h⟩ := s.fly_only p f; rw [h]
@[simp] theorem State.fly_thermal (p : Nat) (f : Flight) : (s.fly p f).thermal = s.thermal := by
  obtain ⟨_, h⟩ := s.fly_only p f; rw [h]
@[simp] theorem State.fly_legend (p : Nat) (f : Flight) : (s.fly p f).legend = s.legend := by
  obtain ⟨_, h⟩ := s.fly_only p f; rw [h]
@[simp] theorem State.fly_vfs (p : Nat) (f : Flight) : (s.fly p f).vfs = s.vfs := by
  obtain ⟨_, h⟩ := s.fly_only p f; rw [h]
@[simp] theorem State.fly_irq (p : Nat) (f : Flight) : (s.fly p f).irq = s.irq := by
  obtain ⟨_, h⟩ := s.fly_only p f; rw [h]
@[simp] theorem State.fly_fresh (p : Nat) (f : Flight) : (s.fly p f).fresh = s.fresh := by
  obtain ⟨_, h⟩ := s.fly_only p f; rw [h]

@[simp] theorem State.flyAll_pending (p : Nat) (f : List Flight) : (s.flyAll p f).pending = s.pending := by
  obtain ⟨_, h⟩ := s.flyAll_only p f; rw [h]
@[simp] theorem State.flyAll_sent (p : Nat) (f : List Flight) : (s.flyAll p f).sent = s.sent := by
  obtain ⟨_, h⟩ := s.flyAll_only p f; rw [h]
@[simp] theorem State.flyAll_tiles (p : Nat) (f : List Flight) : (s.flyAll p f).tiles = s.tiles := by
  obtain ⟨_, h⟩ := s.flyAll_only p f; rw [h]
@[simp] theorem State.flyAll_channels (p : Nat) (f : List Flight) : (s.flyAll p f).channels = s.channels := by
  obtain ⟨_, h⟩ := s.flyAll_only p f; rw [h]
@[simp] theorem State.flyAll_stack (p : Nat) (f : List Flight) : (s.flyAll p f).stack = s.stack := by
  obtain ⟨_, h⟩ := s.flyAll_only p f; rw [h]
@[simp] theorem State.flyAll_stackErr (p : Nat) (f : List Flight) : (s.flyAll p f).stackErr = s.stackErr := by
  obtain ⟨_, h⟩ := s.flyAll_only p f; rw [h]
@[simp] theorem State.flyAll_lines (p : Nat) (f : List Flight) : (s.flyAll p f).lines = s.lines := by
  obtain ⟨_, h⟩ := s.flyAll_only p f; rw [h]
@[simp] theorem State.flyAll_stackModes (p : Nat) (f : List Flight) : (s.flyAll p f).stackModes = s.stackModes := by
  obtain ⟨_, h⟩ := s.flyAll_only p f; rw [h]
@[simp] theorem State.flyAll_units (p : Nat) (f : List Flight) : (s.flyAll p f).units = s.units := by
  obtain ⟨_, h⟩ := s.flyAll_only p f; rw [h]
@[simp] theorem State.flyAll_posts (p : Nat) (f : List Flight) : (s.flyAll p f).posts = s.posts := by
  obtain ⟨_, h⟩ := s.flyAll_only p f; rw [h]
@[simp] theorem State.flyAll_launches (p : Nat) (f : List Flight) : (s.flyAll p f).launches = s.launches := by
  obtain ⟨_, h⟩ := s.flyAll_only p f; rw [h]
@[simp] theorem State.flyAll_mer (p : Nat) (f : List Flight) : (s.flyAll p f).mer = s.mer := by
  obtain ⟨_, h⟩ := s.flyAll_only p f; rw [h]
@[simp] theorem State.flyAll_sectors (p : Nat) (f : List Flight) : (s.flyAll p f).sectors = s.sectors := by
  obtain ⟨_, h⟩ := s.flyAll_only p f; rw [h]
@[simp] theorem State.flyAll_spineFailed (p : Nat) (f : List Flight) : (s.flyAll p f).spineFailed = s.spineFailed := by
  obtain ⟨_, h⟩ := s.flyAll_only p f; rw [h]
@[simp] theorem State.flyAll_bridgeFailed (p : Nat) (f : List Flight) : (s.flyAll p f).bridgeFailed = s.bridgeFailed := by
  obtain ⟨_, h⟩ := s.flyAll_only p f; rw [h]
@[simp] theorem State.flyAll_log (p : Nat) (f : List Flight) : (s.flyAll p f).log = s.log := by
  obtain ⟨_, h⟩ := s.flyAll_only p f; rw [h]
@[simp] theorem State.flyAll_cart (p : Nat) (f : List Flight) : (s.flyAll p f).cart = s.cart := by
  obtain ⟨_, h⟩ := s.flyAll_only p f; rw [h]
@[simp] theorem State.flyAll_ports (p : Nat) (f : List Flight) : (s.flyAll p f).ports = s.ports := by
  obtain ⟨_, h⟩ := s.flyAll_only p f; rw [h]
@[simp] theorem State.flyAll_lamps (p : Nat) (f : List Flight) : (s.flyAll p f).lamps = s.lamps := by
  obtain ⟨_, h⟩ := s.flyAll_only p f; rw [h]
@[simp] theorem State.flyAll_clocks (p : Nat) (f : List Flight) : (s.flyAll p f).clocks = s.clocks := by
  obtain ⟨_, h⟩ := s.flyAll_only p f; rw [h]
@[simp] theorem State.flyAll_supply (p : Nat) (f : List Flight) : (s.flyAll p f).supply = s.supply := by
  obtain ⟨_, h⟩ := s.flyAll_only p f; rw [h]
@[simp] theorem State.flyAll_sensors (p : Nat) (f : List Flight) : (s.flyAll p f).sensors = s.sensors := by
  obtain ⟨_, h⟩ := s.flyAll_only p f; rw [h]
@[simp] theorem State.flyAll_thermal (p : Nat) (f : List Flight) : (s.flyAll p f).thermal = s.thermal := by
  obtain ⟨_, h⟩ := s.flyAll_only p f; rw [h]
@[simp] theorem State.flyAll_legend (p : Nat) (f : List Flight) : (s.flyAll p f).legend = s.legend := by
  obtain ⟨_, h⟩ := s.flyAll_only p f; rw [h]
@[simp] theorem State.flyAll_vfs (p : Nat) (f : List Flight) : (s.flyAll p f).vfs = s.vfs := by
  obtain ⟨_, h⟩ := s.flyAll_only p f; rw [h]
@[simp] theorem State.flyAll_irq (p : Nat) (f : List Flight) : (s.flyAll p f).irq = s.irq := by
  obtain ⟨_, h⟩ := s.flyAll_only p f; rw [h]
@[simp] theorem State.flyAll_fresh (p : Nat) (f : List Flight) : (s.flyAll p f).fresh = s.fresh := by
  obtain ⟨_, h⟩ := s.flyAll_only p f; rw [h]

@[simp] theorem State.readScratch_pending (p t a n : Nat) : (s.readScratch p t a n).pending = s.pending := by
  obtain ⟨_, _, h⟩ := s.readScratch_only p t a n; rw [h]
@[simp] theorem State.readScratch_sent (p t a n : Nat) : (s.readScratch p t a n).sent = s.sent := by
  obtain ⟨_, _, h⟩ := s.readScratch_only p t a n; rw [h]
@[simp] theorem State.readScratch_tiles (p t a n : Nat) : (s.readScratch p t a n).tiles = s.tiles := by
  obtain ⟨_, _, h⟩ := s.readScratch_only p t a n; rw [h]
@[simp] theorem State.readScratch_channels (p t a n : Nat) : (s.readScratch p t a n).channels = s.channels := by
  obtain ⟨_, _, h⟩ := s.readScratch_only p t a n; rw [h]
@[simp] theorem State.readScratch_stack (p t a n : Nat) : (s.readScratch p t a n).stack = s.stack := by
  obtain ⟨_, _, h⟩ := s.readScratch_only p t a n; rw [h]
@[simp] theorem State.readScratch_stackErr (p t a n : Nat) : (s.readScratch p t a n).stackErr = s.stackErr := by
  obtain ⟨_, _, h⟩ := s.readScratch_only p t a n; rw [h]
@[simp] theorem State.readScratch_lines (p t a n : Nat) : (s.readScratch p t a n).lines = s.lines := by
  obtain ⟨_, _, h⟩ := s.readScratch_only p t a n; rw [h]
@[simp] theorem State.readScratch_stackModes (p t a n : Nat) : (s.readScratch p t a n).stackModes = s.stackModes := by
  obtain ⟨_, _, h⟩ := s.readScratch_only p t a n; rw [h]
@[simp] theorem State.readScratch_units (p t a n : Nat) : (s.readScratch p t a n).units = s.units := by
  obtain ⟨_, _, h⟩ := s.readScratch_only p t a n; rw [h]
@[simp] theorem State.readScratch_posts (p t a n : Nat) : (s.readScratch p t a n).posts = s.posts := by
  obtain ⟨_, _, h⟩ := s.readScratch_only p t a n; rw [h]
@[simp] theorem State.readScratch_launches (p t a n : Nat) : (s.readScratch p t a n).launches = s.launches := by
  obtain ⟨_, _, h⟩ := s.readScratch_only p t a n; rw [h]
@[simp] theorem State.readScratch_parcels (p t a n : Nat) : (s.readScratch p t a n).parcels = s.parcels := by
  obtain ⟨_, _, h⟩ := s.readScratch_only p t a n; rw [h]
@[simp] theorem State.readScratch_mer (p t a n : Nat) : (s.readScratch p t a n).mer = s.mer := by
  obtain ⟨_, _, h⟩ := s.readScratch_only p t a n; rw [h]
@[simp] theorem State.readScratch_sectors (p t a n : Nat) : (s.readScratch p t a n).sectors = s.sectors := by
  obtain ⟨_, _, h⟩ := s.readScratch_only p t a n; rw [h]
@[simp] theorem State.readScratch_spineFailed (p t a n : Nat) : (s.readScratch p t a n).spineFailed = s.spineFailed := by
  obtain ⟨_, _, h⟩ := s.readScratch_only p t a n; rw [h]
@[simp] theorem State.readScratch_bridgeFailed (p t a n : Nat) : (s.readScratch p t a n).bridgeFailed = s.bridgeFailed := by
  obtain ⟨_, _, h⟩ := s.readScratch_only p t a n; rw [h]
@[simp] theorem State.readScratch_cart (p t a n : Nat) : (s.readScratch p t a n).cart = s.cart := by
  obtain ⟨_, _, h⟩ := s.readScratch_only p t a n; rw [h]
@[simp] theorem State.readScratch_ports (p t a n : Nat) : (s.readScratch p t a n).ports = s.ports := by
  obtain ⟨_, _, h⟩ := s.readScratch_only p t a n; rw [h]
@[simp] theorem State.readScratch_lamps (p t a n : Nat) : (s.readScratch p t a n).lamps = s.lamps := by
  obtain ⟨_, _, h⟩ := s.readScratch_only p t a n; rw [h]
@[simp] theorem State.readScratch_clocks (p t a n : Nat) : (s.readScratch p t a n).clocks = s.clocks := by
  obtain ⟨_, _, h⟩ := s.readScratch_only p t a n; rw [h]
@[simp] theorem State.readScratch_supply (p t a n : Nat) : (s.readScratch p t a n).supply = s.supply := by
  obtain ⟨_, _, h⟩ := s.readScratch_only p t a n; rw [h]
@[simp] theorem State.readScratch_sensors (p t a n : Nat) : (s.readScratch p t a n).sensors = s.sensors := by
  obtain ⟨_, _, h⟩ := s.readScratch_only p t a n; rw [h]
@[simp] theorem State.readScratch_thermal (p t a n : Nat) : (s.readScratch p t a n).thermal = s.thermal := by
  obtain ⟨_, _, h⟩ := s.readScratch_only p t a n; rw [h]
@[simp] theorem State.readScratch_legend (p t a n : Nat) : (s.readScratch p t a n).legend = s.legend := by
  obtain ⟨_, _, h⟩ := s.readScratch_only p t a n; rw [h]
@[simp] theorem State.readScratch_vfs (p t a n : Nat) : (s.readScratch p t a n).vfs = s.vfs := by
  obtain ⟨_, _, h⟩ := s.readScratch_only p t a n; rw [h]
@[simp] theorem State.readScratch_fresh (p t a n : Nat) : (s.readScratch p t a n).fresh = s.fresh := by
  obtain ⟨_, _, h⟩ := s.readScratch_only p t a n; rw [h]

@[simp] theorem State.readAcc_pending (p t a n : Nat) : (s.readAcc p t a n).pending = s.pending := by
  obtain ⟨_, _, h⟩ := s.readAcc_only p t a n; rw [h]
@[simp] theorem State.readAcc_sent (p t a n : Nat) : (s.readAcc p t a n).sent = s.sent := by
  obtain ⟨_, _, h⟩ := s.readAcc_only p t a n; rw [h]
@[simp] theorem State.readAcc_tiles (p t a n : Nat) : (s.readAcc p t a n).tiles = s.tiles := by
  obtain ⟨_, _, h⟩ := s.readAcc_only p t a n; rw [h]
@[simp] theorem State.readAcc_channels (p t a n : Nat) : (s.readAcc p t a n).channels = s.channels := by
  obtain ⟨_, _, h⟩ := s.readAcc_only p t a n; rw [h]
@[simp] theorem State.readAcc_stack (p t a n : Nat) : (s.readAcc p t a n).stack = s.stack := by
  obtain ⟨_, _, h⟩ := s.readAcc_only p t a n; rw [h]
@[simp] theorem State.readAcc_stackErr (p t a n : Nat) : (s.readAcc p t a n).stackErr = s.stackErr := by
  obtain ⟨_, _, h⟩ := s.readAcc_only p t a n; rw [h]
@[simp] theorem State.readAcc_lines (p t a n : Nat) : (s.readAcc p t a n).lines = s.lines := by
  obtain ⟨_, _, h⟩ := s.readAcc_only p t a n; rw [h]
@[simp] theorem State.readAcc_stackModes (p t a n : Nat) : (s.readAcc p t a n).stackModes = s.stackModes := by
  obtain ⟨_, _, h⟩ := s.readAcc_only p t a n; rw [h]
@[simp] theorem State.readAcc_units (p t a n : Nat) : (s.readAcc p t a n).units = s.units := by
  obtain ⟨_, _, h⟩ := s.readAcc_only p t a n; rw [h]
@[simp] theorem State.readAcc_posts (p t a n : Nat) : (s.readAcc p t a n).posts = s.posts := by
  obtain ⟨_, _, h⟩ := s.readAcc_only p t a n; rw [h]
@[simp] theorem State.readAcc_launches (p t a n : Nat) : (s.readAcc p t a n).launches = s.launches := by
  obtain ⟨_, _, h⟩ := s.readAcc_only p t a n; rw [h]
@[simp] theorem State.readAcc_parcels (p t a n : Nat) : (s.readAcc p t a n).parcels = s.parcels := by
  obtain ⟨_, _, h⟩ := s.readAcc_only p t a n; rw [h]
@[simp] theorem State.readAcc_mer (p t a n : Nat) : (s.readAcc p t a n).mer = s.mer := by
  obtain ⟨_, _, h⟩ := s.readAcc_only p t a n; rw [h]
@[simp] theorem State.readAcc_sectors (p t a n : Nat) : (s.readAcc p t a n).sectors = s.sectors := by
  obtain ⟨_, _, h⟩ := s.readAcc_only p t a n; rw [h]
@[simp] theorem State.readAcc_spineFailed (p t a n : Nat) : (s.readAcc p t a n).spineFailed = s.spineFailed := by
  obtain ⟨_, _, h⟩ := s.readAcc_only p t a n; rw [h]
@[simp] theorem State.readAcc_bridgeFailed (p t a n : Nat) : (s.readAcc p t a n).bridgeFailed = s.bridgeFailed := by
  obtain ⟨_, _, h⟩ := s.readAcc_only p t a n; rw [h]
@[simp] theorem State.readAcc_cart (p t a n : Nat) : (s.readAcc p t a n).cart = s.cart := by
  obtain ⟨_, _, h⟩ := s.readAcc_only p t a n; rw [h]
@[simp] theorem State.readAcc_ports (p t a n : Nat) : (s.readAcc p t a n).ports = s.ports := by
  obtain ⟨_, _, h⟩ := s.readAcc_only p t a n; rw [h]
@[simp] theorem State.readAcc_lamps (p t a n : Nat) : (s.readAcc p t a n).lamps = s.lamps := by
  obtain ⟨_, _, h⟩ := s.readAcc_only p t a n; rw [h]
@[simp] theorem State.readAcc_clocks (p t a n : Nat) : (s.readAcc p t a n).clocks = s.clocks := by
  obtain ⟨_, _, h⟩ := s.readAcc_only p t a n; rw [h]
@[simp] theorem State.readAcc_supply (p t a n : Nat) : (s.readAcc p t a n).supply = s.supply := by
  obtain ⟨_, _, h⟩ := s.readAcc_only p t a n; rw [h]
@[simp] theorem State.readAcc_sensors (p t a n : Nat) : (s.readAcc p t a n).sensors = s.sensors := by
  obtain ⟨_, _, h⟩ := s.readAcc_only p t a n; rw [h]
@[simp] theorem State.readAcc_thermal (p t a n : Nat) : (s.readAcc p t a n).thermal = s.thermal := by
  obtain ⟨_, _, h⟩ := s.readAcc_only p t a n; rw [h]
@[simp] theorem State.readAcc_legend (p t a n : Nat) : (s.readAcc p t a n).legend = s.legend := by
  obtain ⟨_, _, h⟩ := s.readAcc_only p t a n; rw [h]
@[simp] theorem State.readAcc_vfs (p t a n : Nat) : (s.readAcc p t a n).vfs = s.vfs := by
  obtain ⟨_, _, h⟩ := s.readAcc_only p t a n; rw [h]
@[simp] theorem State.readAcc_fresh (p t a n : Nat) : (s.readAcc p t a n).fresh = s.fresh := by
  obtain ⟨_, _, h⟩ := s.readAcc_only p t a n; rw [h]

@[simp] theorem State.engineFaultAt_pending (t e y : Nat) (k : BitVec 12) (x : Nat) (c : Cause) (a b : Nat) : (s.engineFaultAt t e y k x c a b).pending = s.pending := by
  obtain ⟨_, _, _, _, h⟩ := s.engineFaultAt_only t e y k x c a b; rw [h]
@[simp] theorem State.engineFaultAt_sent (t e y : Nat) (k : BitVec 12) (x : Nat) (c : Cause) (a b : Nat) : (s.engineFaultAt t e y k x c a b).sent = s.sent := by
  obtain ⟨_, _, _, _, h⟩ := s.engineFaultAt_only t e y k x c a b; rw [h]
@[simp] theorem State.engineFaultAt_channels (t e y : Nat) (k : BitVec 12) (x : Nat) (c : Cause) (a b : Nat) : (s.engineFaultAt t e y k x c a b).channels = s.channels := by
  obtain ⟨_, _, _, _, h⟩ := s.engineFaultAt_only t e y k x c a b; rw [h]
@[simp] theorem State.engineFaultAt_stack (t e y : Nat) (k : BitVec 12) (x : Nat) (c : Cause) (a b : Nat) : (s.engineFaultAt t e y k x c a b).stack = s.stack := by
  obtain ⟨_, _, _, _, h⟩ := s.engineFaultAt_only t e y k x c a b; rw [h]
@[simp] theorem State.engineFaultAt_stackErr (t e y : Nat) (k : BitVec 12) (x : Nat) (c : Cause) (a b : Nat) : (s.engineFaultAt t e y k x c a b).stackErr = s.stackErr := by
  obtain ⟨_, _, _, _, h⟩ := s.engineFaultAt_only t e y k x c a b; rw [h]
@[simp] theorem State.engineFaultAt_lines (t e y : Nat) (k : BitVec 12) (x : Nat) (c : Cause) (a b : Nat) : (s.engineFaultAt t e y k x c a b).lines = s.lines := by
  obtain ⟨_, _, _, _, h⟩ := s.engineFaultAt_only t e y k x c a b; rw [h]
@[simp] theorem State.engineFaultAt_stackModes (t e y : Nat) (k : BitVec 12) (x : Nat) (c : Cause) (a b : Nat) : (s.engineFaultAt t e y k x c a b).stackModes = s.stackModes := by
  obtain ⟨_, _, _, _, h⟩ := s.engineFaultAt_only t e y k x c a b; rw [h]
@[simp] theorem State.engineFaultAt_units (t e y : Nat) (k : BitVec 12) (x : Nat) (c : Cause) (a b : Nat) : (s.engineFaultAt t e y k x c a b).units = s.units := by
  obtain ⟨_, _, _, _, h⟩ := s.engineFaultAt_only t e y k x c a b; rw [h]
@[simp] theorem State.engineFaultAt_posts (t e y : Nat) (k : BitVec 12) (x : Nat) (c : Cause) (a b : Nat) : (s.engineFaultAt t e y k x c a b).posts = s.posts := by
  obtain ⟨_, _, _, _, h⟩ := s.engineFaultAt_only t e y k x c a b; rw [h]
@[simp] theorem State.engineFaultAt_launches (t e y : Nat) (k : BitVec 12) (x : Nat) (c : Cause) (a b : Nat) : (s.engineFaultAt t e y k x c a b).launches = s.launches := by
  obtain ⟨_, _, _, _, h⟩ := s.engineFaultAt_only t e y k x c a b; rw [h]
@[simp] theorem State.engineFaultAt_mer (t e y : Nat) (k : BitVec 12) (x : Nat) (c : Cause) (a b : Nat) : (s.engineFaultAt t e y k x c a b).mer = s.mer := by
  obtain ⟨_, _, _, _, h⟩ := s.engineFaultAt_only t e y k x c a b; rw [h]
@[simp] theorem State.engineFaultAt_sectors (t e y : Nat) (k : BitVec 12) (x : Nat) (c : Cause) (a b : Nat) : (s.engineFaultAt t e y k x c a b).sectors = s.sectors := by
  obtain ⟨_, _, _, _, h⟩ := s.engineFaultAt_only t e y k x c a b; rw [h]
@[simp] theorem State.engineFaultAt_spineFailed (t e y : Nat) (k : BitVec 12) (x : Nat) (c : Cause) (a b : Nat) : (s.engineFaultAt t e y k x c a b).spineFailed = s.spineFailed := by
  obtain ⟨_, _, _, _, h⟩ := s.engineFaultAt_only t e y k x c a b; rw [h]
@[simp] theorem State.engineFaultAt_bridgeFailed (t e y : Nat) (k : BitVec 12) (x : Nat) (c : Cause) (a b : Nat) : (s.engineFaultAt t e y k x c a b).bridgeFailed = s.bridgeFailed := by
  obtain ⟨_, _, _, _, h⟩ := s.engineFaultAt_only t e y k x c a b; rw [h]
@[simp] theorem State.engineFaultAt_cart (t e y : Nat) (k : BitVec 12) (x : Nat) (c : Cause) (a b : Nat) : (s.engineFaultAt t e y k x c a b).cart = s.cart := by
  obtain ⟨_, _, _, _, h⟩ := s.engineFaultAt_only t e y k x c a b; rw [h]
@[simp] theorem State.engineFaultAt_ports (t e y : Nat) (k : BitVec 12) (x : Nat) (c : Cause) (a b : Nat) : (s.engineFaultAt t e y k x c a b).ports = s.ports := by
  obtain ⟨_, _, _, _, h⟩ := s.engineFaultAt_only t e y k x c a b; rw [h]
@[simp] theorem State.engineFaultAt_lamps (t e y : Nat) (k : BitVec 12) (x : Nat) (c : Cause) (a b : Nat) : (s.engineFaultAt t e y k x c a b).lamps = s.lamps := by
  obtain ⟨_, _, _, _, h⟩ := s.engineFaultAt_only t e y k x c a b; rw [h]
@[simp] theorem State.engineFaultAt_clocks (t e y : Nat) (k : BitVec 12) (x : Nat) (c : Cause) (a b : Nat) : (s.engineFaultAt t e y k x c a b).clocks = s.clocks := by
  obtain ⟨_, _, _, _, h⟩ := s.engineFaultAt_only t e y k x c a b; rw [h]
@[simp] theorem State.engineFaultAt_supply (t e y : Nat) (k : BitVec 12) (x : Nat) (c : Cause) (a b : Nat) : (s.engineFaultAt t e y k x c a b).supply = s.supply := by
  obtain ⟨_, _, _, _, h⟩ := s.engineFaultAt_only t e y k x c a b; rw [h]
@[simp] theorem State.engineFaultAt_sensors (t e y : Nat) (k : BitVec 12) (x : Nat) (c : Cause) (a b : Nat) : (s.engineFaultAt t e y k x c a b).sensors = s.sensors := by
  obtain ⟨_, _, _, _, h⟩ := s.engineFaultAt_only t e y k x c a b; rw [h]
@[simp] theorem State.engineFaultAt_thermal (t e y : Nat) (k : BitVec 12) (x : Nat) (c : Cause) (a b : Nat) : (s.engineFaultAt t e y k x c a b).thermal = s.thermal := by
  obtain ⟨_, _, _, _, h⟩ := s.engineFaultAt_only t e y k x c a b; rw [h]
@[simp] theorem State.engineFaultAt_legend (t e y : Nat) (k : BitVec 12) (x : Nat) (c : Cause) (a b : Nat) : (s.engineFaultAt t e y k x c a b).legend = s.legend := by
  obtain ⟨_, _, _, _, h⟩ := s.engineFaultAt_only t e y k x c a b; rw [h]
@[simp] theorem State.engineFaultAt_vfs (t e y : Nat) (k : BitVec 12) (x : Nat) (c : Cause) (a b : Nat) : (s.engineFaultAt t e y k x c a b).vfs = s.vfs := by
  obtain ⟨_, _, _, _, h⟩ := s.engineFaultAt_only t e y k x c a b; rw [h]
@[simp] theorem State.engineFaultAt_fresh (t e y : Nat) (k : BitVec 12) (x : Nat) (c : Cause) (a b : Nat) : (s.engineFaultAt t e y k x c a b).fresh = s.fresh := by
  obtain ⟨_, _, _, _, h⟩ := s.engineFaultAt_only t e y k x c a b; rw [h]

@[simp] theorem State.engineFault_pending (t e y : Nat) (c : Cause) (a b : Nat) : (s.engineFault t e y c a b).pending = s.pending := by
  obtain ⟨_, _, _, _, h⟩ := s.engineFault_only t e y c a b; rw [h]
@[simp] theorem State.engineFault_sent (t e y : Nat) (c : Cause) (a b : Nat) : (s.engineFault t e y c a b).sent = s.sent := by
  obtain ⟨_, _, _, _, h⟩ := s.engineFault_only t e y c a b; rw [h]
@[simp] theorem State.engineFault_channels (t e y : Nat) (c : Cause) (a b : Nat) : (s.engineFault t e y c a b).channels = s.channels := by
  obtain ⟨_, _, _, _, h⟩ := s.engineFault_only t e y c a b; rw [h]
@[simp] theorem State.engineFault_stack (t e y : Nat) (c : Cause) (a b : Nat) : (s.engineFault t e y c a b).stack = s.stack := by
  obtain ⟨_, _, _, _, h⟩ := s.engineFault_only t e y c a b; rw [h]
@[simp] theorem State.engineFault_stackErr (t e y : Nat) (c : Cause) (a b : Nat) : (s.engineFault t e y c a b).stackErr = s.stackErr := by
  obtain ⟨_, _, _, _, h⟩ := s.engineFault_only t e y c a b; rw [h]
@[simp] theorem State.engineFault_lines (t e y : Nat) (c : Cause) (a b : Nat) : (s.engineFault t e y c a b).lines = s.lines := by
  obtain ⟨_, _, _, _, h⟩ := s.engineFault_only t e y c a b; rw [h]
@[simp] theorem State.engineFault_stackModes (t e y : Nat) (c : Cause) (a b : Nat) : (s.engineFault t e y c a b).stackModes = s.stackModes := by
  obtain ⟨_, _, _, _, h⟩ := s.engineFault_only t e y c a b; rw [h]
@[simp] theorem State.engineFault_units (t e y : Nat) (c : Cause) (a b : Nat) : (s.engineFault t e y c a b).units = s.units := by
  obtain ⟨_, _, _, _, h⟩ := s.engineFault_only t e y c a b; rw [h]
@[simp] theorem State.engineFault_posts (t e y : Nat) (c : Cause) (a b : Nat) : (s.engineFault t e y c a b).posts = s.posts := by
  obtain ⟨_, _, _, _, h⟩ := s.engineFault_only t e y c a b; rw [h]
@[simp] theorem State.engineFault_launches (t e y : Nat) (c : Cause) (a b : Nat) : (s.engineFault t e y c a b).launches = s.launches := by
  obtain ⟨_, _, _, _, h⟩ := s.engineFault_only t e y c a b; rw [h]
@[simp] theorem State.engineFault_mer (t e y : Nat) (c : Cause) (a b : Nat) : (s.engineFault t e y c a b).mer = s.mer := by
  obtain ⟨_, _, _, _, h⟩ := s.engineFault_only t e y c a b; rw [h]
@[simp] theorem State.engineFault_sectors (t e y : Nat) (c : Cause) (a b : Nat) : (s.engineFault t e y c a b).sectors = s.sectors := by
  obtain ⟨_, _, _, _, h⟩ := s.engineFault_only t e y c a b; rw [h]
@[simp] theorem State.engineFault_spineFailed (t e y : Nat) (c : Cause) (a b : Nat) : (s.engineFault t e y c a b).spineFailed = s.spineFailed := by
  obtain ⟨_, _, _, _, h⟩ := s.engineFault_only t e y c a b; rw [h]
@[simp] theorem State.engineFault_bridgeFailed (t e y : Nat) (c : Cause) (a b : Nat) : (s.engineFault t e y c a b).bridgeFailed = s.bridgeFailed := by
  obtain ⟨_, _, _, _, h⟩ := s.engineFault_only t e y c a b; rw [h]
@[simp] theorem State.engineFault_cart (t e y : Nat) (c : Cause) (a b : Nat) : (s.engineFault t e y c a b).cart = s.cart := by
  obtain ⟨_, _, _, _, h⟩ := s.engineFault_only t e y c a b; rw [h]
@[simp] theorem State.engineFault_ports (t e y : Nat) (c : Cause) (a b : Nat) : (s.engineFault t e y c a b).ports = s.ports := by
  obtain ⟨_, _, _, _, h⟩ := s.engineFault_only t e y c a b; rw [h]
@[simp] theorem State.engineFault_lamps (t e y : Nat) (c : Cause) (a b : Nat) : (s.engineFault t e y c a b).lamps = s.lamps := by
  obtain ⟨_, _, _, _, h⟩ := s.engineFault_only t e y c a b; rw [h]
@[simp] theorem State.engineFault_clocks (t e y : Nat) (c : Cause) (a b : Nat) : (s.engineFault t e y c a b).clocks = s.clocks := by
  obtain ⟨_, _, _, _, h⟩ := s.engineFault_only t e y c a b; rw [h]
@[simp] theorem State.engineFault_supply (t e y : Nat) (c : Cause) (a b : Nat) : (s.engineFault t e y c a b).supply = s.supply := by
  obtain ⟨_, _, _, _, h⟩ := s.engineFault_only t e y c a b; rw [h]
@[simp] theorem State.engineFault_sensors (t e y : Nat) (c : Cause) (a b : Nat) : (s.engineFault t e y c a b).sensors = s.sensors := by
  obtain ⟨_, _, _, _, h⟩ := s.engineFault_only t e y c a b; rw [h]
@[simp] theorem State.engineFault_thermal (t e y : Nat) (c : Cause) (a b : Nat) : (s.engineFault t e y c a b).thermal = s.thermal := by
  obtain ⟨_, _, _, _, h⟩ := s.engineFault_only t e y c a b; rw [h]
@[simp] theorem State.engineFault_legend (t e y : Nat) (c : Cause) (a b : Nat) : (s.engineFault t e y c a b).legend = s.legend := by
  obtain ⟨_, _, _, _, h⟩ := s.engineFault_only t e y c a b; rw [h]
@[simp] theorem State.engineFault_vfs (t e y : Nat) (c : Cause) (a b : Nat) : (s.engineFault t e y c a b).vfs = s.vfs := by
  obtain ⟨_, _, _, _, h⟩ := s.engineFault_only t e y c a b; rw [h]
@[simp] theorem State.engineFault_fresh (t e y : Nat) (c : Cause) (a b : Nat) : (s.engineFault t e y c a b).fresh = s.fresh := by
  obtain ⟨_, _, _, _, h⟩ := s.engineFault_only t e y c a b; rw [h]

@[simp] theorem retireAt_pending (t e c o r : Nat) (b : Bool) : (retireAt s t e c o r b).pending = s.pending := by
  obtain ⟨_, _, _, _, h⟩ := retireAt_only s t e c o r b; rw [h]
@[simp] theorem retireAt_sent (t e c o r : Nat) (b : Bool) : (retireAt s t e c o r b).sent = s.sent := by
  obtain ⟨_, _, _, _, h⟩ := retireAt_only s t e c o r b; rw [h]
@[simp] theorem retireAt_channels (t e c o r : Nat) (b : Bool) : (retireAt s t e c o r b).channels = s.channels := by
  obtain ⟨_, _, _, _, h⟩ := retireAt_only s t e c o r b; rw [h]
@[simp] theorem retireAt_stack (t e c o r : Nat) (b : Bool) : (retireAt s t e c o r b).stack = s.stack := by
  obtain ⟨_, _, _, _, h⟩ := retireAt_only s t e c o r b; rw [h]
@[simp] theorem retireAt_stackErr (t e c o r : Nat) (b : Bool) : (retireAt s t e c o r b).stackErr = s.stackErr := by
  obtain ⟨_, _, _, _, h⟩ := retireAt_only s t e c o r b; rw [h]
@[simp] theorem retireAt_lines (t e c o r : Nat) (b : Bool) : (retireAt s t e c o r b).lines = s.lines := by
  obtain ⟨_, _, _, _, h⟩ := retireAt_only s t e c o r b; rw [h]
@[simp] theorem retireAt_stackModes (t e c o r : Nat) (b : Bool) : (retireAt s t e c o r b).stackModes = s.stackModes := by
  obtain ⟨_, _, _, _, h⟩ := retireAt_only s t e c o r b; rw [h]
@[simp] theorem retireAt_units (t e c o r : Nat) (b : Bool) : (retireAt s t e c o r b).units = s.units := by
  obtain ⟨_, _, _, _, h⟩ := retireAt_only s t e c o r b; rw [h]
@[simp] theorem retireAt_posts (t e c o r : Nat) (b : Bool) : (retireAt s t e c o r b).posts = s.posts := by
  obtain ⟨_, _, _, _, h⟩ := retireAt_only s t e c o r b; rw [h]
@[simp] theorem retireAt_launches (t e c o r : Nat) (b : Bool) : (retireAt s t e c o r b).launches = s.launches := by
  obtain ⟨_, _, _, _, h⟩ := retireAt_only s t e c o r b; rw [h]
@[simp] theorem retireAt_mer (t e c o r : Nat) (b : Bool) : (retireAt s t e c o r b).mer = s.mer := by
  obtain ⟨_, _, _, _, h⟩ := retireAt_only s t e c o r b; rw [h]
@[simp] theorem retireAt_sectors (t e c o r : Nat) (b : Bool) : (retireAt s t e c o r b).sectors = s.sectors := by
  obtain ⟨_, _, _, _, h⟩ := retireAt_only s t e c o r b; rw [h]
@[simp] theorem retireAt_spineFailed (t e c o r : Nat) (b : Bool) : (retireAt s t e c o r b).spineFailed = s.spineFailed := by
  obtain ⟨_, _, _, _, h⟩ := retireAt_only s t e c o r b; rw [h]
@[simp] theorem retireAt_bridgeFailed (t e c o r : Nat) (b : Bool) : (retireAt s t e c o r b).bridgeFailed = s.bridgeFailed := by
  obtain ⟨_, _, _, _, h⟩ := retireAt_only s t e c o r b; rw [h]
@[simp] theorem retireAt_cart (t e c o r : Nat) (b : Bool) : (retireAt s t e c o r b).cart = s.cart := by
  obtain ⟨_, _, _, _, h⟩ := retireAt_only s t e c o r b; rw [h]
@[simp] theorem retireAt_ports (t e c o r : Nat) (b : Bool) : (retireAt s t e c o r b).ports = s.ports := by
  obtain ⟨_, _, _, _, h⟩ := retireAt_only s t e c o r b; rw [h]
@[simp] theorem retireAt_lamps (t e c o r : Nat) (b : Bool) : (retireAt s t e c o r b).lamps = s.lamps := by
  obtain ⟨_, _, _, _, h⟩ := retireAt_only s t e c o r b; rw [h]
@[simp] theorem retireAt_clocks (t e c o r : Nat) (b : Bool) : (retireAt s t e c o r b).clocks = s.clocks := by
  obtain ⟨_, _, _, _, h⟩ := retireAt_only s t e c o r b; rw [h]
@[simp] theorem retireAt_supply (t e c o r : Nat) (b : Bool) : (retireAt s t e c o r b).supply = s.supply := by
  obtain ⟨_, _, _, _, h⟩ := retireAt_only s t e c o r b; rw [h]
@[simp] theorem retireAt_sensors (t e c o r : Nat) (b : Bool) : (retireAt s t e c o r b).sensors = s.sensors := by
  obtain ⟨_, _, _, _, h⟩ := retireAt_only s t e c o r b; rw [h]
@[simp] theorem retireAt_thermal (t e c o r : Nat) (b : Bool) : (retireAt s t e c o r b).thermal = s.thermal := by
  obtain ⟨_, _, _, _, h⟩ := retireAt_only s t e c o r b; rw [h]
@[simp] theorem retireAt_legend (t e c o r : Nat) (b : Bool) : (retireAt s t e c o r b).legend = s.legend := by
  obtain ⟨_, _, _, _, h⟩ := retireAt_only s t e c o r b; rw [h]
@[simp] theorem retireAt_vfs (t e c o r : Nat) (b : Bool) : (retireAt s t e c o r b).vfs = s.vfs := by
  obtain ⟨_, _, _, _, h⟩ := retireAt_only s t e c o r b; rw [h]
@[simp] theorem retireAt_fresh (t e c o r : Nat) (b : Bool) : (retireAt s t e c o r b).fresh = s.fresh := by
  obtain ⟨_, _, _, _, h⟩ := retireAt_only s t e c o r b; rw [h]

@[simp] theorem sramFaultAt_pending (t e y : Nat) (k : BitVec 12) (x u a : Nat) : (sramFaultAt s t e y k x u a).pending = s.pending := by
  obtain ⟨_, _, _, _, h⟩ := sramFaultAt_only s t e y k x u a; rw [h]
@[simp] theorem sramFaultAt_sent (t e y : Nat) (k : BitVec 12) (x u a : Nat) : (sramFaultAt s t e y k x u a).sent = s.sent := by
  obtain ⟨_, _, _, _, h⟩ := sramFaultAt_only s t e y k x u a; rw [h]
@[simp] theorem sramFaultAt_channels (t e y : Nat) (k : BitVec 12) (x u a : Nat) : (sramFaultAt s t e y k x u a).channels = s.channels := by
  obtain ⟨_, _, _, _, h⟩ := sramFaultAt_only s t e y k x u a; rw [h]
@[simp] theorem sramFaultAt_stack (t e y : Nat) (k : BitVec 12) (x u a : Nat) : (sramFaultAt s t e y k x u a).stack = s.stack := by
  obtain ⟨_, _, _, _, h⟩ := sramFaultAt_only s t e y k x u a; rw [h]
@[simp] theorem sramFaultAt_stackErr (t e y : Nat) (k : BitVec 12) (x u a : Nat) : (sramFaultAt s t e y k x u a).stackErr = s.stackErr := by
  obtain ⟨_, _, _, _, h⟩ := sramFaultAt_only s t e y k x u a; rw [h]
@[simp] theorem sramFaultAt_lines (t e y : Nat) (k : BitVec 12) (x u a : Nat) : (sramFaultAt s t e y k x u a).lines = s.lines := by
  obtain ⟨_, _, _, _, h⟩ := sramFaultAt_only s t e y k x u a; rw [h]
@[simp] theorem sramFaultAt_stackModes (t e y : Nat) (k : BitVec 12) (x u a : Nat) : (sramFaultAt s t e y k x u a).stackModes = s.stackModes := by
  obtain ⟨_, _, _, _, h⟩ := sramFaultAt_only s t e y k x u a; rw [h]
@[simp] theorem sramFaultAt_units (t e y : Nat) (k : BitVec 12) (x u a : Nat) : (sramFaultAt s t e y k x u a).units = s.units := by
  obtain ⟨_, _, _, _, h⟩ := sramFaultAt_only s t e y k x u a; rw [h]
@[simp] theorem sramFaultAt_posts (t e y : Nat) (k : BitVec 12) (x u a : Nat) : (sramFaultAt s t e y k x u a).posts = s.posts := by
  obtain ⟨_, _, _, _, h⟩ := sramFaultAt_only s t e y k x u a; rw [h]
@[simp] theorem sramFaultAt_launches (t e y : Nat) (k : BitVec 12) (x u a : Nat) : (sramFaultAt s t e y k x u a).launches = s.launches := by
  obtain ⟨_, _, _, _, h⟩ := sramFaultAt_only s t e y k x u a; rw [h]
@[simp] theorem sramFaultAt_mer (t e y : Nat) (k : BitVec 12) (x u a : Nat) : (sramFaultAt s t e y k x u a).mer = s.mer := by
  obtain ⟨_, _, _, _, h⟩ := sramFaultAt_only s t e y k x u a; rw [h]
@[simp] theorem sramFaultAt_sectors (t e y : Nat) (k : BitVec 12) (x u a : Nat) : (sramFaultAt s t e y k x u a).sectors = s.sectors := by
  obtain ⟨_, _, _, _, h⟩ := sramFaultAt_only s t e y k x u a; rw [h]
@[simp] theorem sramFaultAt_spineFailed (t e y : Nat) (k : BitVec 12) (x u a : Nat) : (sramFaultAt s t e y k x u a).spineFailed = s.spineFailed := by
  obtain ⟨_, _, _, _, h⟩ := sramFaultAt_only s t e y k x u a; rw [h]
@[simp] theorem sramFaultAt_bridgeFailed (t e y : Nat) (k : BitVec 12) (x u a : Nat) : (sramFaultAt s t e y k x u a).bridgeFailed = s.bridgeFailed := by
  obtain ⟨_, _, _, _, h⟩ := sramFaultAt_only s t e y k x u a; rw [h]
@[simp] theorem sramFaultAt_cart (t e y : Nat) (k : BitVec 12) (x u a : Nat) : (sramFaultAt s t e y k x u a).cart = s.cart := by
  obtain ⟨_, _, _, _, h⟩ := sramFaultAt_only s t e y k x u a; rw [h]
@[simp] theorem sramFaultAt_ports (t e y : Nat) (k : BitVec 12) (x u a : Nat) : (sramFaultAt s t e y k x u a).ports = s.ports := by
  obtain ⟨_, _, _, _, h⟩ := sramFaultAt_only s t e y k x u a; rw [h]
@[simp] theorem sramFaultAt_lamps (t e y : Nat) (k : BitVec 12) (x u a : Nat) : (sramFaultAt s t e y k x u a).lamps = s.lamps := by
  obtain ⟨_, _, _, _, h⟩ := sramFaultAt_only s t e y k x u a; rw [h]
@[simp] theorem sramFaultAt_clocks (t e y : Nat) (k : BitVec 12) (x u a : Nat) : (sramFaultAt s t e y k x u a).clocks = s.clocks := by
  obtain ⟨_, _, _, _, h⟩ := sramFaultAt_only s t e y k x u a; rw [h]
@[simp] theorem sramFaultAt_supply (t e y : Nat) (k : BitVec 12) (x u a : Nat) : (sramFaultAt s t e y k x u a).supply = s.supply := by
  obtain ⟨_, _, _, _, h⟩ := sramFaultAt_only s t e y k x u a; rw [h]
@[simp] theorem sramFaultAt_sensors (t e y : Nat) (k : BitVec 12) (x u a : Nat) : (sramFaultAt s t e y k x u a).sensors = s.sensors := by
  obtain ⟨_, _, _, _, h⟩ := sramFaultAt_only s t e y k x u a; rw [h]
@[simp] theorem sramFaultAt_thermal (t e y : Nat) (k : BitVec 12) (x u a : Nat) : (sramFaultAt s t e y k x u a).thermal = s.thermal := by
  obtain ⟨_, _, _, _, h⟩ := sramFaultAt_only s t e y k x u a; rw [h]
@[simp] theorem sramFaultAt_legend (t e y : Nat) (k : BitVec 12) (x u a : Nat) : (sramFaultAt s t e y k x u a).legend = s.legend := by
  obtain ⟨_, _, _, _, h⟩ := sramFaultAt_only s t e y k x u a; rw [h]
@[simp] theorem sramFaultAt_vfs (t e y : Nat) (k : BitVec 12) (x u a : Nat) : (sramFaultAt s t e y k x u a).vfs = s.vfs := by
  obtain ⟨_, _, _, _, h⟩ := sramFaultAt_only s t e y k x u a; rw [h]
@[simp] theorem sramFaultAt_fresh (t e y : Nat) (k : BitVec 12) (x u a : Nat) : (sramFaultAt s t e y k x u a).fresh = s.fresh := by
  obtain ⟨_, _, _, _, h⟩ := sramFaultAt_only s t e y k x u a; rw [h]

end Sys2Proof.Machine
end

