-- ==== Sys2Proof/Laws/Settle.lean ====
section
/-! SUPPORT. What the work in flight of a leg can touch: the tiles, the units, the log, the interrupts waiting, the parcels
and the model's own counter of free values. -/

namespace Sys2Proof.Machine

/-- The two states agree on everything but what work in flight touches. -/
abbrev WorkOnly (s s' : State) : Prop :=
  s' = { s with tiles := s'.tiles, units := s'.units, log := s'.log, irq := s'.irq, parcels := s'.parcels, fresh := s'.fresh }

theorem WorkOnly.rfl {s : State} : WorkOnly s s := Eq.refl s

theorem WorkOnly.trans {s s' s'' : State} (h : WorkOnly s s') (h' : WorkOnly s' s'') : WorkOnly s s'' := by
  unfold WorkOnly at *; rw [h'] ; rw [h]

theorem workOnly_modTile (s : State) (t : Nat) (f : Tile → Tile) : WorkOnly s (s.modTile t f) := Eq.refl _
theorem workOnly_modParcel (s : State) (p : Nat) (f : Parcel → Parcel) : WorkOnly s (s.modParcel p f) := Eq.refl _
theorem workOnly_fly (s : State) (p : Nat) (f : Flight) : WorkOnly s (s.fly p f) := Eq.refl _
theorem workOnly_flyAll (s : State) (p : Nat) (f : List Flight) : WorkOnly s (s.flyAll p f) := Eq.refl _

theorem workOnly_fresh (s : State) (n : Nat) : WorkOnly s { s with fresh := n } := Eq.refl _

theorem workOnly_tileFlags (s : State) (t e : Nat) (f : FFlags) : WorkOnly s (s.tileFlags t e f) := by
  obtain ⟨q, h⟩ := s.tileFlags_only t e f; rw [WorkOnly, h]
theorem workOnly_readScratch (s : State) (p t a n : Nat) : WorkOnly s (s.readScratch p t a n) := by
  obtain ⟨l, i, h⟩ := s.readScratch_only p t a n; rw [WorkOnly, h]
theorem workOnly_readAcc (s : State) (p t a n : Nat) : WorkOnly s (s.readAcc p t a n) := by
  obtain ⟨l, i, h⟩ := s.readAcc_only p t a n; rw [WorkOnly, h]
theorem workOnly_count (s : State) (p : Option Nat) (k n : Nat) : WorkOnly s (s.count p k n) := by
  obtain ⟨q, h⟩ := s.count_only p k n; rw [WorkOnly, h]
theorem workOnly_logCycle (s : State) (y a b c : Nat) (p : Option Nat) (d e : Nat) :
    WorkOnly s (s.logCycle y a b c p d e) := by
  obtain ⟨l, i, h⟩ := s.logCycle_only y a b c p d e; rw [WorkOnly, h]
theorem workOnly_writeScratch (s : State) (t a : Nat) (b : List Byte) : WorkOnly s (writeScratch s t a b) := Eq.refl _
theorem workOnly_writeUnitData (s : State) (u o : Nat) (b : List Byte) : WorkOnly s (writeUnitData s u o b) := by
  unfold writeUnitData; split <;> exact Eq.refl _

theorem workOnly_lateFault (s : State) (p t e cyc : Nat) (pc : BitVec 12) (idx sub addr : Nat) :
    WorkOnly s (lateFault s p t e cyc pc idx sub addr) := by
  obtain ⟨a, l, i, q, h⟩ := sramFaultAt_only s t e cyc pc idx sub addr
  unfold lateFault
  exact .trans (s' := sramFaultAt s t e cyc pc idx sub addr) (by rw [WorkOnly, h]) (workOnly_modParcel _ _ _)

theorem workOnly_recordGroup (s : State) (t p cyc ri tm g n : Nat) (v : GroupVerdict) :
    WorkOnly s (recordGroup s t p cyc ri tm g n v) := by
  unfold recordGroup
  extract_lets s₁
  have h : WorkOnly s s₁ := by
    dsimp only [s₁]; split
    · exact workOnly_modTile _ _ _
    · exact .rfl
  clear_value s₁
  split
  · exact h
  · refine .trans ?_ (workOnly_logCycle _ _ _ _ _ _ _ _)
    exact h.trans (workOnly_modTile _ _ _)

theorem workOnly_doWeightRead (s : State) (p t cyc : Nat) (x : WloadOp) (j : Nat) :
    WorkOnly s (doWeightRead s p t cyc x j) := by
  unfold doWeightRead; dsimp only
  split
  · exact workOnly_lateFault _ _ _ _ _ _ _ _ _
  · exact workOnly_lateFault _ _ _ _ _ _ _ _ _
  · refine .trans ?_ (workOnly_tileFlags _ _ _ _)
    refine .trans ?_ (workOnly_modTile _ _ _)
    split
    · exact (workOnly_readScratch _ _ _ _ _).trans (workOnly_readScratch _ _ _ _ _)
    · exact workOnly_readScratch _ _ _ _ _

theorem workOnly_doStreamRow (s : State) (p t cyc : Nat) (x : StreamOp) (m : Nat) :
    WorkOnly s (doStreamRow s p t cyc x m) := by
  unfold doStreamRow; dsimp only
  split
  · exact workOnly_lateFault _ _ _ _ _ _ _ _ _
  · exact workOnly_lateFault _ _ _ _ _ _ _ _ _
  · refine .trans ?_ (workOnly_fly _ _ _)
    refine .trans ?_ (workOnly_tileFlags _ _ _ _)
    refine .trans ?_ (workOnly_modTile _ _ _)
    split
    · exact (workOnly_readScratch _ _ _ _ _).trans (workOnly_readScratch _ _ _ _ _)
    · exact workOnly_readScratch _ _ _ _ _

theorem workOnly_doClosure (s : State) (p t cyc : Nat) (x : StreamOp) (g : Nat) :
    WorkOnly s (doClosure s p t cyc x g) := Eq.refl _

theorem workOnly_doAccRow (s : State) (p t cyc : Nat) (x : StreamOp) (m : Nat) (int : Bool) (v : List Word) :
    WorkOnly s (doAccRow s p t cyc x m int v) := by
  unfold doAccRow; dsimp only
  split
  · exact workOnly_lateFault _ _ _ _ _ _ _ _ _
  · refine .trans ?_ (workOnly_tileFlags _ _ _ _)
    refine .trans ?_ (workOnly_modTile _ _ _)
    split
    · exact .rfl
    · exact workOnly_readAcc _ _ _ _ _

theorem workOnly_doDrainRow (s : State) (p t cyc : Nat) (x : DrainOp) (m : Nat) :
    WorkOnly s (doDrainRow s p t cyc x m) := by
  unfold doDrainRow; dsimp only
  split
  · exact workOnly_lateFault _ _ _ _ _ _ _ _ _
  · refine .trans ?_ (workOnly_flyAll _ _ _)
    have base := workOnly_readAcc s p t (x.base + m * x.pitch) x.cols
    split
    · exact (base.trans (workOnly_tileFlags _ _ _ _)).trans (workOnly_fresh _ _)
    · exact ((base.trans (workOnly_tileFlags _ _ _ _)).trans (workOnly_fresh _ _)).trans (workOnly_count _ _ _ _)

/-- One piece of work. -/
theorem workOnly_doWork (s : State) (p cyc : Nat) (w : Work) : WorkOnly s (doWork s p cyc w) := by
  cases w with
  | weightRead => exact workOnly_doWeightRead _ _ _ _ _ _
  | streamRow => exact workOnly_doStreamRow _ _ _ _ _ _
  | closure => exact workOnly_doClosure _ _ _ _ _ _
  | accRow => exact workOnly_doAccRow _ _ _ _ _ _ _ _
  | verdict => exact workOnly_recordGroup _ _ _ _ _ _ _ _ _
  | drainRow => exact workOnly_doDrainRow _ _ _ _ _ _
  | scratch => exact workOnly_writeScratch _ _ _ _
  | sram => exact workOnly_writeUnitData _ _ _ _

theorem workOnly_settleRun (p upto n : Nat) (s : State) : WorkOnly s (settleRun p upto n s) := by
  induction n generalizing s with
  | zero => exact .rfl
  | succ n ih =>
    unfold settleRun; split
    · exact .rfl
    · split
      · exact ((workOnly_modParcel _ _ _).trans (workOnly_doWork _ _ _ _)).trans (ih _)
      · exact .rfl

/-- All the work in flight before a cycle. -/
theorem workOnly_settle (s : State) (p upto : Nat) : WorkOnly s (s.settle p upto) :=
  (workOnly_settleRun _ _ _ _).trans (workOnly_modParcel _ _ _)

theorem workOnly_settleTile (s : State) (t upto : Nat) : WorkOnly s (s.settleTile t upto) := by
  unfold State.settleTile; split
  · exact workOnly_settle _ _ _
  · exact .rfl

theorem workOnly_settleAll (s : State) (p : Nat) : WorkOnly s (s.settleAll p) := workOnly_settle _ _ _

/-! ### Work in flight leaves who holds what -/

/-- Every parcel's control state is as it was. -/
def CtlKept (s s' : State) : Prop := ∀ q, (s'.parcel q).ctl = (s.parcel q).ctl

theorem CtlKept.of_parcels {s s' : State} (h : s'.parcels = s.parcels) : CtlKept s s' := fun q => by
  simp [State.parcel, h]

theorem CtlKept.trans {s s' s'' : State} (h : CtlKept s s') (h' : CtlKept s' s'') : CtlKept s s'' := fun q =>
  (h' q).trans (h q)

theorem ctlKept_modParcel (s : State) (p : Nat) (f : Parcel → Parcel) (h : (f (s.parcel p)).ctl = (s.parcel p).ctl) :
    CtlKept s (s.modParcel p f) := fun q => by
  by_cases hq : q = p
  · subst hq; rw [State.parcel_modParcel_self, h]
  · rw [State.parcel_modParcel_ne _ _ hq]

theorem CtlKept.tileParcel {s s' : State} (h : CtlKept s s') (t : Nat) : s'.tileParcel t = s.tileParcel t := by
  unfold State.tileParcel State.sectorParcel
  congr 1; funext p; rw [h p]

theorem ctlKept_count (s : State) (p : Option Nat) (k n : Nat) : CtlKept s (s.count p k n) := by
  unfold State.count; split
  · exact .of_parcels rfl
  · split
    · exact .of_parcels rfl
    · exact ctlKept_modParcel _ _ _ rfl

theorem ctlKept_beginLeg (s : State) (p : Nat) : CtlKept s (s.beginLeg p) := by
  unfold State.beginLeg; split
  · split
    · exact ctlKept_modParcel _ _ _ rfl
    · exact .of_parcels rfl
  · exact .of_parcels rfl

theorem ctlKept_markLegFaulted (s : State) (p : Nat) : CtlKept s (s.markLegFaulted p) :=
  ctlKept_modParcel _ _ _ (by split <;> rfl)

theorem ctlKept_engineFaultAt (s : State) (t e cyc : Nat) (pc : BitVec 12) (idx : Nat) (cause : Cause)
    (chan cairn : Nat) : CtlKept s (s.engineFaultAt t e cyc pc idx cause chan cairn) := by
  have logged : ∀ x : State, ∀ y a b c d p f, CtlKept x (x.logCycle y a b c p d f) := fun x y a b c d p f => by
    obtain ⟨l, i, h⟩ := x.logCycle_only y a b c p d f; rw [h]; exact .of_parcels rfl
  unfold State.engineFaultAt; dsimp only
  split
  · exact .of_parcels rfl
  · cases s.tileParcel t with
    | none => exact CtlKept.trans (s' := s.setEngine t e _) (.of_parcels rfl) (logged _ _ _ _ _ _ _ _)
    | some p =>
      dsimp only
      generalize hx : (if State.isPrimary (s.parcel p) cyc t e = true then _ else s) = x
      have hsx : CtlKept s x := by
        rw [← hx]; split
        · refine CtlKept.trans (s' := match (s.parcel p).primary with | some (_, t', e') => s.demote t' e' | none => s) ?_
            (ctlKept_modParcel _ _ _ rfl)
          split <;> exact .of_parcels rfl
        · exact .of_parcels rfl
      refine .trans ?_ (ctlKept_markLegFaulted _ _)
      exact .trans (s' := x.setEngine t e _) (hsx.trans (.of_parcels rfl)) (logged _ _ _ _ _ _ _ _)

theorem ctlKept_lateFault (s : State) (p t e cyc : Nat) (pc : BitVec 12) (idx sub addr : Nat) :
    CtlKept s (lateFault s p t e cyc pc idx sub addr) := by
  unfold lateFault
  refine CtlKept.trans (s' := sramFaultAt s t e cyc pc idx sub addr) ?_ (ctlKept_modParcel _ _ _ rfl)
  unfold sramFaultAt
  refine CtlKept.trans (s' := s.logCycle cyc 2 1 t (s.tileParcel t) sub addr) ?_ (ctlKept_engineFaultAt _ _ _ _ _ _ _ _ _)
  exact .of_parcels (State.logCycle_parcels _ _ _ _ _ _ _ _)

theorem ctlKept_fly (s : State) (p : Nat) (f : Flight) : CtlKept s (s.fly p f) := ctlKept_modParcel _ _ _ rfl
theorem ctlKept_flyAll (s : State) (p : Nat) (fs : List Flight) : CtlKept s (s.flyAll p fs) := ctlKept_modParcel _ _ _ rfl
theorem ctlKept_modTile (s : State) (t : Nat) (f : Tile → Tile) : CtlKept s (s.modTile t f) := .of_parcels rfl
theorem ctlKept_tileFlags (s : State) (t e : Nat) (f : FFlags) : CtlKept s (s.tileFlags t e f) := by
  obtain ⟨q, h⟩ := s.tileFlags_only t e f; rw [h]; exact .of_parcels rfl
theorem ctlKept_readScratch (s : State) (p t a n : Nat) : CtlKept s (s.readScratch p t a n) := by
  obtain ⟨l, i, h⟩ := s.readScratch_only p t a n; rw [h]; exact .of_parcels rfl
theorem ctlKept_readAcc (s : State) (p t a n : Nat) : CtlKept s (s.readAcc p t a n) := by
  obtain ⟨l, i, h⟩ := s.readAcc_only p t a n; rw [h]; exact .of_parcels rfl

theorem ctlKept_doWeightRead (s : State) (p t cyc : Nat) (x : WloadOp) (j : Nat) :
    CtlKept s (doWeightRead s p t cyc x j) := by
  unfold doWeightRead; dsimp only
  split
  · exact ctlKept_lateFault _ _ _ _ _ _ _ _ _
  · exact ctlKept_lateFault _ _ _ _ _ _ _ _ _
  · refine .trans ?_ (ctlKept_tileFlags _ _ _ _)
    refine .trans ?_ (ctlKept_modTile _ _ _)
    split
    · exact (ctlKept_readScratch _ _ _ _ _).trans (ctlKept_readScratch _ _ _ _ _)
    · exact ctlKept_readScratch _ _ _ _ _

theorem ctlKept_doStreamRow (s : State) (p t cyc : Nat) (x : StreamOp) (m : Nat) :
    CtlKept s (doStreamRow s p t cyc x m) := by
  unfold doStreamRow; dsimp only
  split
  · exact ctlKept_lateFault _ _ _ _ _ _ _ _ _
  · exact ctlKept_lateFault _ _ _ _ _ _ _ _ _
  · refine .trans ?_ (ctlKept_fly _ _ _)
    refine .trans ?_ (ctlKept_tileFlags _ _ _ _)
    refine .trans ?_ (ctlKept_modTile _ _ _)
    split
    · exact (ctlKept_readScratch _ _ _ _ _).trans (ctlKept_readScratch _ _ _ _ _)
    · exact ctlKept_readScratch _ _ _ _ _

theorem ctlKept_doAccRow (s : State) (p t cyc : Nat) (x : StreamOp) (m : Nat) (int : Bool) (v : List Word) :
    CtlKept s (doAccRow s p t cyc x m int v) := by
  unfold doAccRow; dsimp only
  split
  · exact ctlKept_lateFault _ _ _ _ _ _ _ _ _
  · refine .trans ?_ (ctlKept_tileFlags _ _ _ _)
    refine .trans ?_ (ctlKept_modTile _ _ _)
    split
    · exact .of_parcels rfl
    · exact ctlKept_readAcc _ _ _ _ _

theorem ctlKept_doDrainRow (s : State) (p t cyc : Nat) (x : DrainOp) (m : Nat) :
    CtlKept s (doDrainRow s p t cyc x m) := by
  unfold doDrainRow; dsimp only
  split
  · exact ctlKept_lateFault _ _ _ _ _ _ _ _ _
  · refine .trans ?_ (ctlKept_flyAll _ _ _)
    have base := ctlKept_readAcc s p t (x.base + m * x.pitch) x.cols
    split
    · exact (base.trans (ctlKept_tileFlags _ _ _ _)).trans (.of_parcels rfl)
    · exact ((base.trans (ctlKept_tileFlags _ _ _ _)).trans (.of_parcels rfl)).trans (ctlKept_count _ _ _ _)

theorem ctlKept_recordGroup (s : State) (t p cyc ri tm g n : Nat) (v : GroupVerdict) :
    CtlKept s (recordGroup s t p cyc ri tm g n v) := by
  unfold recordGroup
  extract_lets s₁
  have h : CtlKept s s₁ := by
    dsimp only [s₁]; split
    · exact ctlKept_modTile _ _ _
    · exact .of_parcels rfl
  clear_value s₁
  split
  · exact h
  · refine .trans ?_ (.of_parcels (State.logCycle_parcels _ _ _ _ _ _ _ _))
    exact h.trans (ctlKept_modTile _ _ _)

/-- One piece of work keeps every parcel's control state: it adds to what flies, counts, and faults engines. -/
theorem ctlKept_doWork (s : State) (p cyc : Nat) (w : Work) : CtlKept s (doWork s p cyc w) := by
  cases w with
  | weightRead => exact ctlKept_doWeightRead _ _ _ _ _ _
  | streamRow => exact ctlKept_doStreamRow _ _ _ _ _ _
  | closure => exact ctlKept_fly _ _ _
  | accRow => exact ctlKept_doAccRow _ _ _ _ _ _ _ _
  | verdict => exact ctlKept_recordGroup _ _ _ _ _ _ _ _ _
  | drainRow => exact ctlKept_doDrainRow _ _ _ _ _ _
  | scratch => exact .of_parcels rfl
  | sram => exact .of_parcels (by simp only [doWork, writeUnitData]; split <;> rfl)

theorem ctlKept_settleRun (p upto n : Nat) (s : State) : CtlKept s (settleRun p upto n s) := by
  induction n generalizing s with
  | zero => exact .of_parcels rfl
  | succ n ih =>
    unfold settleRun; split
    · exact .of_parcels rfl
    · split
      · exact ((ctlKept_modParcel _ _ _ rfl).trans (ctlKept_doWork _ _ _ _)).trans (ih _)
      · exact .of_parcels rfl

/-- All the work in flight before a cycle keeps every parcel's control state, and so who holds each tile. -/
theorem ctlKept_settle (s : State) (p upto : Nat) : CtlKept s (s.settle p upto) :=
  (ctlKept_settleRun _ _ _ _).trans (ctlKept_modParcel _ _ _ rfl)

/-- With nothing in flight, settling only moves the parcel's clock. -/
theorem settle_of_nil (s : State) (p upto : Nat) (h : (s.parcel p).flight = []) :
    s.settle p upto = s.modParcel p fun P => { P with clock := max P.clock upto } := by
  simp [State.settle, h, settleRun]

end Sys2Proof.Machine
end

