-- ==== Sys2Proof/Laws/Tile.lean ====
section
/-! SUPPORT. The issue of a tile instruction, its retirement and its faults: what each does to the tile and its engines. -/

namespace Sys2Proof.Machine

open Sys2Proof.Claims

/-! ### What a fault or a retirement may touch -/

/-- Every tile is as it was but for its engines, and every engine but engine `e` of tile `t` but for its fault record. -/
def EngineOnly (s s' : State) (t e : Nat) : Prop :=
  (∀ i, s'.tile i = { s.tile i with engines := (s'.tile i).engines }) ∧
  ∀ i j, ¬ (i = t ∧ j = e) → s'.engine i j = { s.engine i j with faultRecord := (s'.engine i j).faultRecord }

theorem EngineOnly.of_tiles {s s' : State} (t e : Nat) (h : s'.tiles = s.tiles) : EngineOnly s s' t e := by
  constructor
  · intro i; simp [State.tile, h]
  · intro i j _; simp [State.engine, State.tile, h]

theorem EngineOnly.trans {s s' s'' : State} {t e : Nat} (h : EngineOnly s s' t e) (h' : EngineOnly s' s'' t e) :
    EngineOnly s s'' t e := by
  constructor
  · intro i; rw [h'.1 i, h.1 i]
  · intro i j hij; rw [h'.2 i j hij, h.2 i j hij]

theorem State.setEngine_engineOnly (s : State) (t e : Nat) (v : Engine) : EngineOnly s (s.setEngine t e v) t e := by
  constructor
  · intro i
    by_cases hi : i = t
    · subst hi; simp [State.setEngine]
    · rw [State.tile_setEngine_ne _ _ hi]
  · intro i j hij
    by_cases hi : i = t
    · subst hi
      have hj : j ≠ e := fun h => hij ⟨rfl, h⟩
      rw [State.engine_setEngine_ne _ _ hj]
    · simp [State.engine, State.tile_setEngine_ne _ _ hi]

/-- Changing the fault record of an engine, whichever it is. -/
theorem State.setRecord_engineOnly (s : State) (t e t' e' : Nat) (r : BitVec 64) :
    EngineOnly s (s.modEngine t' e' fun E => { E with faultRecord := r }) t e := by
  constructor
  · intro i
    by_cases hi : i = t'
    · subst hi; simp [State.modEngine, State.setEngine]
    · rw [State.tile_modEngine_ne _ _ hi]
  · intro i j _
    by_cases hi : i = t'
    · subst hi
      by_cases hj : j = e'
      · subst hj; rw [State.engine_modEngine_self]
      · have : (s.modEngine i e' fun E => { E with faultRecord := r }).engine i j = s.engine i j :=
          State.engine_setEngine_ne s _ hj
        rw [this]
    · simp [State.engine, State.tile_modEngine_ne _ _ hi]

theorem State.demote_engineOnly (s : State) (t e t' e' : Nat) : EngineOnly s (s.demote t' e') t e :=
  (s.setRecord_engineOnly t e t' e' ((s.engine t' e').faultRecord &&& ~~~(0x100 : BitVec 64))).trans (.of_tiles _ _ rfl)

/-- The engine that a fault leaves. -/
theorem State.engineFaultAt_engine (s : State) (t e cyc : Nat) (pc : BitVec 12) (idx : Nat) (cause : Cause)
    (chan cairn : Nat) (h : (s.engine t e).mode ≠ .faulted) :
    ∃ primary, (s.engineFaultAt t e cyc pc idx cause chan cairn).engine t e =
      { s.engine t e with
          mode := .faulted, pc := pc, ending := false, retired := idx
          faultRecord := faultRecordOf cause.code primary chan cairn pc.toNat idx, retireLast := BitVec.ofNat 32 idx } := by
  unfold State.engineFaultAt; dsimp only
  rw [if_neg h]
  refine ⟨match s.tileParcel t with | some p => State.isPrimary (s.parcel p) cyc t e | none => true, ?_⟩
  cases s.tileParcel t <;> simp only [State.markLegFaulted, State.engine, State.tile, State.logCycle_tiles, State.modParcel,
    State.setParcel, State.setEngine, State.modTile, State.setTile, Tab.get_set_self]

theorem State.engineFaultAt_engineOnly (s : State) (t e cyc : Nat) (pc : BitVec 12) (idx : Nat) (cause : Cause)
    (chan cairn : Nat) : EngineOnly s (s.engineFaultAt t e cyc pc idx cause chan cairn) t e := by
  unfold State.engineFaultAt; dsimp only
  split
  · exact .of_tiles _ _ rfl
  · cases s.tileParcel t with
    | none => exact (s.setEngine_engineOnly t e _).trans (.of_tiles _ _ (State.logCycle_tiles _ _ _ _ _ _ _ _))
    | some p =>
      dsimp only
      generalize hx : (if State.isPrimary (s.parcel p) cyc t e = true then _ else s) = x
      have hsx : EngineOnly s x t e := by
        rw [← hx]; split
        · refine .trans (s' := match (s.parcel p).primary with | some (_, t', e') => s.demote t' e' | none => s) ?_
            (.of_tiles _ _ rfl)
          split
          · exact s.demote_engineOnly _ _ _ _
          · exact .of_tiles _ _ rfl
        · exact .of_tiles _ _ rfl
      exact (hsx.trans (x.setEngine_engineOnly t e _)).trans
        (.of_tiles _ _ (State.logCycle_tiles _ _ _ _ _ _ _ _))

theorem State.engineFault_engineOnly (s : State) (t e cyc : Nat) (cause : Cause) (chan cairn : Nat) :
    EngineOnly s (s.engineFault t e cyc cause chan cairn) t e := s.engineFaultAt_engineOnly _ _ _ _ _ _ _ _

/-! ### Retirement -/

theorem retireAt_engineOnly (s : State) (t e cyc occ ret : Nat) (b : Bool) :
    EngineOnly s (retireAt s t e cyc occ ret b) t e := by
  unfold retireAt; dsimp only
  have hc : EngineOnly s (s.count (s.tileParcel t) (busyKey t e) (if b = true then occ else 0)) t e :=
    .of_tiles _ _ (by simp)
  split
  · exact hc.trans (State.setEngine_engineOnly _ _ _ _)
  · exact (hc.trans (State.setEngine_engineOnly _ _ _ _)).trans (State.engineFault_engineOnly _ _ _ _ _ _ _)

/-- The engine after a retirement: where it goes, what it keeps, and the fault of one that runs past index 4,095. -/
theorem retireAt_engine (s : State) (t e cyc occ ret : Nat) (b : Bool) :
    let E := s.engine t e
    let next := afterInstr E.pc.toNat E.loops
    let E' := (retireAt s t e cyc occ ret b).engine t e
    E'.retired = E.retired + 1 ∧ E'.loops = next.2.1 ∧ E'.nextIssue = cyc + occ + (if next.2.2 then 8 else 0) ∧
    E'.retireAt = max E.retireAt (cyc + ret) ∧ E'.queue = queueAfter (s.tile t) E next.1 E.pc.toNat next.2.2 ∧
    (next.1 < 4096 → E'.mode = .issuing ∧ E'.pc = BitVec.ofNat 12 next.1) ∧
    (4096 ≤ next.1 → E'.mode = .faulted ∧ fld E'.faultRecord.toNat 0 8 = 4) ∧
    E'.offs = E.offs ∧ E'.chans = E.chans ∧ E'.launches = E.launches := by
  unfold retireAt; dsimp only
  generalize afterInstr (s.engine t e).pc.toNat (s.engine t e).loops = x
  obtain ⟨npc, loops, back⟩ := x
  dsimp only
  by_cases h : npc < 4096
  · rw [if_pos h, State.engine_setEngine_self]
    simp [State.engine, State.tile, h, Nat.not_le.mpr h]
  · rw [if_neg h]
    obtain ⟨pr, hf⟩ := State.engineFaultAt_engine
      ((s.count (s.tileParcel t) (busyKey t e) (if b = true then occ else 0)).setEngine t e
        { s.engine t e with
            mode := .issuing, retired := (s.engine t e).retired + 1, loops := loops
            nextIssue := cyc + occ + (if back = true then 8 else 0)
            retireAt := max (s.engine t e).retireAt (cyc + ret)
            queue := queueAfter (s.tile t) (s.engine t e) npc (s.engine t e).pc.toNat back
            fetchAt := if back = true then cyc + occ + (if back = true then 8 else 0) else (s.engine t e).fetchAt
            busyTo := if b = true then cyc + occ else (s.engine t e).busyTo })
      t e (cyc + occ) (s.engine t e).pc ((s.engine t e).retired + 1) .pcRange 7 0 (by simp)
    rw [State.engine_setEngine_self] at hf
    unfold State.engineFault
    rw [State.engine_setEngine_self, hf]
    have hcode : ∀ k, k < 2 ^ 12 → ∀ pr, fld (faultRecordOf 4 pr 7 0 k ((s.engine t e).retired + 1)).toNat 0 8 = 4 := by
      intro k _ pr
      simp only [faultRecordOf, fld, BitVec.toNat_ofNat]
      cases pr <;> simp only [Bool.false_eq_true, if_false, if_true, Nat.shiftRight_zero] <;> omega
    simpa [Cause.code, Nat.not_lt.mp h, h] using hcode _ (s.engine t e).pc.isLt pr

/-- A fault of a leg's first faulting engine leaves every other tile whole. -/
theorem State.engineFaultAt_tile_ne (s : State) (t e cyc : Nat) (pc : BitVec 12) (idx : Nat) (cause : Cause)
    (chan cairn : Nat) {p i : Nat} (hp : s.tileParcel t = some p) (h : (s.parcel p).primary = none) (hi : i ≠ t) :
    (s.engineFaultAt t e cyc pc idx cause chan cairn).tile i = s.tile i := by
  have of : ∀ x y : State, x.tiles = y.tiles → x.tile i = y.tile i := fun x y h => by simp [State.tile, h]
  unfold State.engineFaultAt; dsimp only
  split
  · rfl
  · rw [hp]; dsimp only; rw [h]; dsimp only
    generalize hx : (if State.isPrimary (s.parcel p) cyc t e = true then _ else s) = x
    have hsx : x.tiles = s.tiles := by rw [← hx]; split <;> rfl
    refine (of _ _ (State.logCycle_tiles _ _ _ _ _ _ _ _)).trans ?_
    rw [State.tile_setEngine_ne _ _ hi, of _ _ hsx]

/-- Counting touches a parcel's counters alone. -/
theorem State.count_parcel (s : State) (q : Option Nat) (k n p : Nat) :
    (s.count q k n).parcel p = { s.parcel p with acct := ((s.count q k n).parcel p).acct } := by
  unfold State.count
  cases q with
  | none => rfl
  | some q =>
    dsimp only; split
    · rfl
    · by_cases h : p = q
      · subst h; rw [State.parcel_modParcel_self]
      · rw [State.parcel_modParcel_ne _ _ h]

theorem State.count_tileParcel (s : State) (q : Option Nat) (k n t : Nat) :
    (s.count q k n).tileParcel t = s.tileParcel t := by
  unfold State.tileParcel State.sectorParcel
  congr 1; funext p; rw [State.count_parcel]

theorem retireAt_tile_ne (s : State) (t e cyc occ ret : Nat) (b : Bool) {p i : Nat} (hp : s.tileParcel t = some p)
    (h : (s.parcel p).primary = none) (hi : i ≠ t) : (retireAt s t e cyc occ ret b).tile i = s.tile i := by
  have hc : (s.count (s.tileParcel t) (busyKey t e) (if b = true then occ else 0)).tile i = s.tile i := by
    simp [State.tile]
  unfold retireAt; dsimp only
  split
  · rw [State.tile_setEngine_ne _ _ hi, hc]
  · refine (State.engineFaultAt_tile_ne _ _ _ _ _ _ _ _ _ (p := p) ?_ ?_ hi).trans ?_
    · exact (s.count_tileParcel _ _ _ t).trans hp
    · refine (?_ : ((s.count (s.tileParcel t) (busyKey t e) (if b = true then occ else 0)).parcel p).primary = none)
      rw [State.count_parcel]; exact h
    · rw [State.tile_setEngine_ne _ _ hi, hc]

/-! ### Issue -/

theorem issued_engine (s : State) (t e cyc p : Nat) : (issued s t e cyc p).s.engine t e = (issued s t e cyc p).E := by
  obtain ⟨q, h⟩ := State.beginLeg_only ((begun s p cyc).setEngine t e (engineBegun s t e p cyc)) p
  have key : ∀ x : State, x.tiles = ((begun s p cyc).setEngine t e (engineBegun s t e p cyc)).tiles →
      x.engine t e = engineBegun s t e p cyc := by
    intro x hx
    have := State.engine_setEngine_self (begun s p cyc) t e (engineBegun s t e p cyc)
    simpa [State.engine, State.tile, hx] using this
  refine key _ ?_
  unfold issued atIssue; dsimp only
  rw [h]
  split <;> simp

/-- The tile is still the parcel's where its instruction issues. -/
theorem issued_tileParcel (s : State) (t e cyc p : Nat) : (issued s t e cyc p).s.tileParcel t = s.tileParcel t := by
  refine CtlKept.tileParcel ?_ t
  have h : CtlKept s (((begun s p cyc).setEngine t e (engineBegun s t e p cyc)).beginLeg p) :=
    ((ctlKept_settle s p cyc).trans (.of_parcels rfl)).trans (ctlKept_beginLeg _ _)
  unfold issued atIssue; dsimp only
  split
  · exact h.trans (.of_parcels (by simp))
  · exact h

/-- A row whose word is ready and is its own answers with its body's effect, or with the fault that the body meets. -/
theorem issue_ready {s : State} {t : TileId} {e : EngineId} {cyc p op : Nat} {mine : Nat → Bool}
    {body : TCtx → Except Cause State} (h : Ready s t e cyc p op) (hm : mine op = true) :
    issue s t e cyc mine body = .next
      (match body (issued s t e cyc p) with
       | .ok s' => s'
       | .error cause => (issued s t e cyc p).s.engineFault t e cyc cause 7 0) := by
  obtain ⟨h1, h2, h3, h4, h5, h6, h7⟩ := h
  unfold accepts at h7
  unfold issue issueAs
  split at h7
  · rename_i k hk
    rw [hk]; dsimp only
    rw [h1]; dsimp only
    rw [h2, h3, h4]
    simp only [Bool.not_true, Bool.or_self, Bool.false_eq_true, if_false]
    cases hw : issueWord ((begun s p cyc).tile t) (engineBegun s t e p cyc) with
    | none => rw [hw] at h6; cases h6
    | some w =>
      rw [hw] at h6
      obtain rfl : w.toNat % 256 = op := by simpa using h6
      have h5' : TCtx.slotsBad ((s.settle p cyc).tile t)
        (fetched ((s.settle p cyc).tile t) ((s.settle p cyc).engine t e) cyc).pc.toNat 1 = false := h5
      dsimp only
      rw [h5', h7, hm]
      simp only [issued, hw, Option.getD_some, Bool.not_true, Bool.false_eq_true, if_false]
      rfl
  · cases h7

/-! ### The frames of the statements -/

theorem EngineOnly.dataKept {s s' : State} {t e : Nat} (h : EngineOnly s s' t e) : TileDataKept s s' t := h.1 t

theorem EngineOnly.siblingsKept {s s' : State} {t e : Nat} (h : EngineOnly s s' t e) : SiblingsKept s s' t e :=
  fun i hi => h.2 t i fun x => hi x.2

theorem retireAt_within (s : State) (t e cyc occ ret : Nat) (b : Bool) {p : Nat} (hp : s.tileParcel t = some p) :
    WithinTile s (retireAt s t e cyc occ ret b) t p := by
  have ho := retireAt_engineOnly s t e cyc occ ret b
  refine ⟨?_, ⟨fun i hi => ⟨ho.1 i, fun j => ho.2 i j fun x => hi x.1⟩, fun h i hi =>
    retireAt_tile_ne s t e cyc occ ret b hp h hi⟩⟩
  obtain ⟨a, l, i, q, h⟩ := retireAt_only s t e cyc occ ret b
  rw [h]

theorem engineFault_within (s : State) (t e cyc : Nat) (cause : Cause) (chan cairn : Nat) {p : Nat}
    (hp : s.tileParcel t = some p) : WithinTile s (s.engineFault t e cyc cause chan cairn) t p := by
  have ho := s.engineFault_engineOnly t e cyc cause chan cairn
  refine ⟨?_, ⟨fun i hi => ⟨ho.1 i, fun j => ho.2 i j fun x => hi x.1⟩, fun h i hi =>
    s.engineFaultAt_tile_ne t e cyc _ _ cause chan cairn hp h hi⟩⟩
  obtain ⟨a, l, i, q, h⟩ := s.engineFault_only t e cyc cause chan cairn
  rw [h]

/-- An instruction whose whole effect is to retire. -/
theorem retireAt_issued (s : State) (t e cyc p occ ret : Nat) (b : Bool) (c : TCtx) (hc : c = issued s t e cyc p)
    (hs : s.tileParcel t = some p) :
    RetiredQuietly c (retireAt c.s t e cyc occ ret b) occ ret ∧ EngineKept c (retireAt c.s t e cyc occ ret b) := by
  have hp : c.s.tileParcel t = some p := by rw [hc, issued_tileParcel]; exact hs
  have he : c.s.engine t e = c.E := by rw [hc]; exact issued_engine s t e cyc p
  obtain ⟨h1, h2, h3, h4, h5, h6, h7, h8, h9, h10⟩ := retireAt_engine c.s t e cyc occ ret b
  have ho := retireAt_engineOnly c.s t e cyc occ ret b
  rw [he] at h1 h2 h3 h4 h5 h6 h7 h8 h9 h10
  have ht : c.t = t := by rw [hc]; rfl
  have hee : c.e = e := by rw [hc]; rfl
  have hcc : c.cyc = cyc := by rw [hc]; rfl
  have hpp : c.p = p := by rw [hc]; rfl
  have hT : c.T = c.s.tile t := by rw [hc]; rfl
  simp only [RetiredQuietly, RetiredOne, EngineKept, ht, hee, hcc, hpp, hT]
  exact ⟨⟨⟨h1, h2, h3, h4, h5, ho.siblingsKept, h6, h7⟩, retireAt_within _ _ _ _ _ _ _ hp, ho.dataKept⟩, h8, h9, h10⟩

end Sys2Proof.Machine
end

