-- ==== Sys2Proof/Safety.lean ====
section
/-! DEFINITION. What counts as a safe step and a safe run: no stop that the spec does not back. -/

namespace Sys2Proof.Safety

open Sys2Proof.Machine

/-- The step went on. -/
def goesOn (o : Host.Outcome State Fault Refusal) : Bool :=
  match o with
  | .next _ => true
  | .fault _ => false
  | .refused _ => false

/-- The next `k` steps all go on. -/
def runsOn : Nat → State → Bool
  | 0, _ => true
  | k + 1, s =>
    match step s with
    | .next s' => runsOn k s'
    | .fault _ => false
    | .refused _ => false

end Sys2Proof.Safety
end

