-- ==== Sys2Proof/WellFormed.lean ====
section
/-! DEFINITION. Which terms of Instr are commands of this module: the operands lie in the ranges of the tables that name
them. Values that the module itself judges (a refused setting, a bad address) are well-formed. -/

namespace Sys2Proof

/-- Tile `t` has an engine `e`: a vector tile (numbers 16 to 31 of its sector) has engines 0 to 3 only (Table 5.1). -/
def engineNamed (t : TileId) (e : EngineId) : Bool := t.val % 32 < 16 || e.val < 4

/-- The part has clock domain `d` (Table 16.2). -/
def domainNamed (d : DomainId) : Bool := d.val ≤ 4 || (0x10 ≤ d.val && d.val ≤ 0x2B) || 0x30 ≤ d.val

/-- A clock-gate node: a tile below 32, a steward core or the domain's own (R402). -/
def nodeNamed (n : GateNode) : Bool := match n with | .tile k => k < 32 | .steward => true | .own => true

/-- A transport of Table 18.4 that carries Legend requests: BAR0 of the physical function, MCTP on PCIe and I3C, BAR0 and
the mailbox of each virtual function. -/
def transportNamed (tr : Nat) : Bool := tr ≤ 2 || (16 ≤ tr && tr < 48)

/-- A transport that carries Legend, MCTP and PLDM messages (Table 18.4). -/
def messageTransportNamed (tr : Nat) : Bool := tr = 1 || tr = 2 || (32 ≤ tr && tr < 48)

/-- A transport that carries SPDM: those, and the DOE mailbox (Table 18.4). -/
def spdmTransportNamed (tr : Nat) : Bool := messageTransportNamed tr || tr = 3

/-- The command's operands lie in their tables' ranges. -/
def Instr.wellFormed (i : Instr) : Bool :=
  match i with
  | .clearEnqueue _ page => page < 24576
  | .engineEndRetire t e _ | .engineHalt t e _ | .waitTimeout t e _ | .waitqTimeout t e _ | .copyRun t e _ _
  | .descriptorComplete t e _ _ | .tileNop t e _ | .tileEnd t e _ | .tileLoop t e _ | .tileWait t e _
  | .tilePost t e _ | .tileSeto t e _ | .tileAddo t e _ | .tileCopy t e _ | .tileWaitq t e _ | .tileClaunch t e _
  | .tileWload t e _ | .tileStream t e _ | .tileDrain t e _ | .tileVadd t e _ | .tileVsub t e _ | .tileVmul t e _
  | .tileVfma t e _ | .tileVmax t e _ | .tileVmin t e _ | .tileVabs t e _ | .tileVneg t e _ | .tileVcvt t e _
  | .tileVexp2 t e _ | .tileVlog2 t e _ | .tileVrcp t e _ | .tileVrsqrt t e _ | .tileVsig t e _ | .tileVrsum t e _
  | .tileVrmax t e _ | .tileVrssq t e _ | .tileVrot t e _ | .tileVsplit32 t e _ | .tileVsplit16 t e _
  | .tileGxpose t e _ | .tileGperm t e _ | .launchCompletionPost t e _ => engineNamed t e
  | .segmentTurn _ _ laneErrors => (laneErrors.all fun x => x.1 < 32 && x.2 < 74)
  | .atomicAdd _ addr size _ | .atomicAnd _ addr size _ | .atomicOr _ addr size _ | .atomicXor _ addr size _
  | .atomicMax _ addr size _ | .atomicMin _ addr size _ | .atomicMaxu _ addr size _ | .atomicMinu _ addr size _
  | .atomicSwap _ addr size _ | .atomicCas _ addr size _ _ | .atomicFadd32 _ addr size _
  | .atomicFadd16b _ addr size _ => 0 < size && size ≤ 8 && addr < 2 ^ 48
  | .retrain _ _ value | .tgStart _ _ value | .tgStop _ _ value | .parcelSectors _ _ value | .retireTile _ _ value
  | .retireChannel _ _ value | .retireSteward _ _ value | .retirePage _ _ value | .retirePair _ _ value
  | .intervalSteps _ value | .overrunClear _ _ value | .bucketDepth _ value | .deliveryAbort _ _ value
  | .moduleReset _ value | .refClear _ value _ | .sscConfig _ value | .sensorClear _ _ value | .treatment _ _ value
  | .portParcel _ _ value | .lampControl _ _ value => value < 2 ^ 32
  | .trainingComplete _ failing _ _ _ _ => (failing.all fun l => l < 74)
  | .deliveryChunk _ _ cipher _ => (match cipher with | some b => b.length ≤ 2 ^ 20 | none => true)
  | .exportAuth _ _ request => request.regions.length ≤ 64 && request.parcel < 16
  | .tamperEvent sources _ => !sources.isEmpty
  | .getVersion tr | .getCapabilities tr | .negotiateAlgorithms tr | .getDigests tr | .getMeasurements tr _ _ _
  | .keyExchange tr _ | .finish tr _ | .keyUpdate tr _ | .heartbeat tr _ | .endSession tr _ | .chunkSend tr _ _ _
  | .chunkGet tr _ | .lockInterfaceRequest tr _ | .stopInterfaceRequest tr _ | .ideKm tr _ _ _ _
  | .spdmUnsupported tr _ | .startInterfaceRequest tr _ | .getDeviceInterfaceReport tr _ => spdmTransportNamed tr
  | .factoryAuth tr _ | .getEndpointId tr | .getMctpVersionSupport tr
  | .getMessageTypeSupport tr | .getVendorDefinedMessageSupport tr | .getTid tr | .getPldmVersion tr _
  | .getPldmTypes tr | .getPldmCommands tr _ | .getPdrRepositoryInfo tr | .getPdr tr _ | .getSensorReading tr _
  | .getStateSensorReadings tr _ | .queryDeviceIdentifiers tr | .getFirmwareParameters tr | .requestUpdate tr _
  | .passComponentTable tr _ _ | .updateComponent tr _ _ _ | .requestFirmwareData tr _ | .transferComplete tr _
  | .verifyComplete tr | .applyComplete tr | .activateFirmware tr | .getStatus tr | .cancelUpdateComponent tr
  | .cancelUpdate tr | .pldmUnsupported tr _ => messageTransportNamed tr
  | .getCertificate tr slot _ _ | .challenge tr slot _ => spdmTransportNamed tr && slot < 8
  | .configRequest fn register => fn ≤ 16 && register < 1024
  | .pllCoast d | .switchComplete d | .switchHung d | .forcedSwitchDone d | .crossingRearm d => domainNamed d
  | .refSel _ d value | .forceSwitch _ d value => domainNamed d && value < 2 ^ 32
  | .gateStop _ d node | .gateStart _ d node => domainNamed d && nodeNamed node
  | .idleFlit _ _ body _ _ | .dataFlit _ _ body _ _ | .controlFlit _ _ body _ _
  | .linkManagementFlit _ _ body _ _ _ => body.length ≤ 256
  | .read tr reqId index sub offset length =>
    transportNamed tr && reqId < 2 ^ 8 && index < 2 ^ 16 && sub < 2 ^ 8 && offset < 2 ^ 32 && length < 2 ^ 16
  | .write tr reqId index sub offset data =>
    transportNamed tr && reqId < 2 ^ 8 && index < 2 ^ 16 && sub < 2 ^ 8 && offset < 2 ^ 32 && data.length < 2 ^ 16
  | .poll tr reqId ticket => transportNamed tr && reqId < 2 ^ 8 && ticket < 2 ^ 16
  | .readSet tr reqId entries =>
    transportNamed tr && reqId < 2 ^ 8 && (entries.all fun x => x.1 < 2 ^ 16 && x.2 < 2 ^ 8)
  | .slowResultReady tr ticket | .ticketExpire tr ticket => transportNamed tr && ticket < 2 ^ 16
  | .registerWrite fn offset size value _ =>
    fn ≤ 16 && offset < 2 ^ 24 && 0 < size && size ≤ 8 && value < 2 ^ (8 * size)
  | .entdaa address => address < 2 ^ 7
  | .setEndpointId tr eid | .setEventReceiver tr eid => messageTransportNamed tr && eid < 2 ^ 8
  | .setTid tr tid => messageTransportNamed tr && tid < 2 ^ 8
  | .tickBoundary .. | .stretchChange | .bucketLeak | .laneCountRestart | .powerDemandUpdate .. | .powerWUpdate
  | .refreshSlot .. | .scrubSlot .. | .clearSlot .. | .channelClearDone .. | .admissionEvaluate ..
  | .pendingExpired .. | .planCompose .. | .commandSample .. | .legLaunch .. | .legComplete .. | .legDump ..
  | .postArrival .. | .faultStop .. | .contextTeardown .. | .celuloLaunch .. | .portFrame ..
  | .celuloFaultReport .. | .celuloAlu .. | .celuloAddi .. | .celuloAndi .. | .celuloShi .. | .celuloLui ..
  | .celuloFalu .. | .celuloSel .. | .celuloLdw .. | .celuloStw .. | .celuloVld .. | .celuloVst .. | .celuloVlds ..
  | .celuloVstw .. | .celuloRstr .. | .celuloWstr .. | .celuloWaitw .. | .celuloVdot .. | .celuloVmacm ..
  | .celuloVf .. | .celuloVcvt .. | .celuloSetf .. | .celuloSets .. | .celuloLoop .. | .celuloDone ..
  | .celuloFail .. | .celuloEret .. | .celuloNop .. | .tgRunBegin .. | .tgRunEnd .. | .doorbell .. | .entryRead ..
  | .submitNop .. | .submit .. | .cancel .. | .registerDatum .. | .releaseDatum .. | .insetPublish ..
  | .insetRetire .. | .promptReadDone .. | .completionWrite .. | .seal .. | .start .. | .jobEnd .. | .abort ..
  | .preempt .. | .resume .. | .stop .. | .release .. | .logWrite | .deliveryStart .. | .exportChunk ..
  | .spdmResponseRelease .. | .powerOnReset | .moduleResetN .. | .bootRelease .. | .v48InRange | .v48Dip .. | .v48Loss
  | .v3p3SbLoss | .thermTripRelease .. | .flashExtN .. | .hostInterfaceReset .. | .vfFlr .. | .vfPowerState ..
  | .ideStreamInsecure .. | .refDead .. | .sensorConversion .. | .remoteSend .. | .rput .. | .rget .. | .ratomic ..
  | .rsignal .. | .response .. | .laneLossTimeout .. | .portTrainingDone .. | .downRetry ..
  | .trainingPatternDetect .. | .lowPowerIdle .. | .forcedBurst .. | .portVerdict .. | .lampPresence ..
  | .mbDoorbell .. | .mbAck .. | .privateRead | .spineFailure .. | .bridgeFailure | .moduleResetNRise => true

end Sys2Proof
end

