-- ==== Sys2Proof/Tests/Slice0.lean ====
section
/-! SUPPORT. Tests: for each statement a state and operands that meet its hypotheses, clause by clause (the witness
theorems, named after the statements), the spec's worked examples, and a smoke test of the well-formedness checks. -/

namespace Sys2Proof.Tests

set_option Elab.async false

open Sys2Proof Sys2Proof.Machine Sys2Proof.Claims

/-! ### Small states -/

/-- A word whose field at each bit position holds the given value. -/
def fields (fs : List (Nat × Nat)) : Nat := fs.foldl (fun a x => a + x.2 * 2 ^ x.1) 0
/-- A tile instruction word. -/
def word (fs : List (Nat × Nat)) : BitVec 128 := BitVec.ofNat 128 (fields fs)

def leg : Leg :=
  { kind := .decode 0 0, template := 7, batch := [], cost := 1000, state := .running, recompute := false, tick := 1,
    dumped := false, masked := [], launched := true }

/-- A sealed parcel on sector 0 whose job runs with one leg running. -/
def par : Parcel :=
  { Parcel.init with
      ctl := { ParcelCtl.init with mask := 1, mode := .sealed, job := .running }
      legs := [leg] }

/-- A released module whose meridian runs, with parcel 0 as `P`. -/
def withParcel (P : Parcel) : State :=
  { State.reset with
      parcels := [(0, P)]
      mer := { Meridian.init with started := true, tick := 5 }
      supply := { Supply.init with v48 := true, converters := true }
      cart := { Cartouche.init with stage := 7, result := 1, keysAlive := true } }

def base : State := withParcel par

/-- `base` with tile `t` as `T`. -/
def withTile (t : Nat) (T : Tile) : State := { base with tiles := [(t, T)] }

/-- `base` with engine `e` of tile `t` about to issue the word. -/
def issuing (t e : Nat) (w : BitVec 128) : State :=
  withTile t { Tile.init with
    engines := [(e, { Engine.idle with mode := .issuing })]
    imem := [(0, w)] }

/-- The state with virtual function 0 present, in D0. -/
def present (s : State) : State := { s with vfs := [(0, { VFun.init with present := true, d0 := true })] }

/-! ### Witnesses: tile engines -/

def nopWord : BitVec 128 := word [(0, 0x00), (8, 9)]
def setoWord : BitVec 128 := word [(0, 0x05), (8, 7), (20, 2 ^ 40 - 1)]
/-- The ADDO of R149's double buffer: 16,384 added, wrapped at 32,768. -/
def addoWord : BitVec 128 := word [(0, 0x06), (8, 1), (11, 16384), (51, 32768)]
def loopWord : BitVec 128 := word [(0, 0x02), (8, 1), (25, 2)]
def waitWord (target : Nat) : BitVec 128 := word [(0, 0x03), (8, 63), (14, target)]
def waitqWord : BitVec 128 := word [(0, 0x11), (10, 16)]
def postWord : BitVec 128 := word [(0, 0x04), (8, 1), (9, 1), (19, 3), (25, 255)]

theorem witness_NopWaitsAndEndDiscardsLoops :
    Ready (issuing 0 0 nopWord) 0 0 0 0 0x00 ∧ Ready (issuing 31 3 0x01) 31 3 7 0 0x01 := by decide +kernel

theorem witness_OffsetRegisterWrites :
    (Ready (issuing 0 0 setoWord) 0 0 0 0 0x05 ∧ fld (issued (issuing 0 0 setoWord) 0 0 0 0).w 8 3 ≠ 0 ∧
      setoValue (issued (issuing 0 0 setoWord) 0 0 0 0) < 2 ^ 40) ∧
    (Ready (issuing 0 4 addoWord) 0 4 0 0 0x06 ∧ fld (issued (issuing 0 4 addoWord) 0 4 0 0).w 8 3 ≠ 0) ∧
    (Ready (issuing 0 0 0x05) 0 0 0 0 0x05 ∧ fld (issued (issuing 0 0 0x05) 0 0 0 0).w 8 3 = 0) ∧
    (Ready (issuing 0 0 0x06) 0 0 0 0 0x06 ∧ fld (issued (issuing 0 0 0x06) 0 0 0 0).w 8 3 = 0) := by decide +kernel

/-- Engine 2 after the run of one more ADDO of R149's double buffer: the value of O1, or -1. -/
def afterAddo (o1 : BitVec 40) : Int :=
  let s := withTile 0 { Tile.init with
    engines := [(2, { Engine.idle with mode := .issuing, offs := [(1, o1)] })]
    imem := [(0, addoWord)] }
  match exec (.tileAddo 0 2 0) s with
  | .next s' => (Tab.get 0 (s'.engine 0 2).offs 1).toNat
  | _ => -1

/-- R149's double buffer: 0, 16,384, 0, ... -/
theorem test_addo_double_buffer : afterAddo 0 = 16384 ∧ afterAddo 16384 = 0 := by decide +kernel

theorem witness_LoopWaitAndPostComplete :
    (Ready (issuing 0 1 loopWord) 0 1 0 0 0x02 ∧ fld (issued (issuing 0 1 loopWord) 0 1 0 0).w 8 12 ≠ 0 ∧
      LoopAllowed (issued (issuing 0 1 loopWord) 0 1 0 0)) ∧
    (Ready (issuing 0 0 (waitWord 0)) 0 0 0 0 0x03 ∧ waitTarget (issued (issuing 0 0 (waitWord 0)) 0 0 0 0) ≤ 65535) ∧
    (Ready (issuing 0 0 (waitWord 65535)) 0 0 0 0 0x03 ∧
      waitTarget (issued (issuing 0 0 (waitWord 65535)) 0 0 0 0) = 65535) ∧
    (Ready (issuing 0 0 waitqWord) 0 0 0 0 0x11 ∧ fld (issued (issuing 0 0 waitqWord) 0 0 0 0).w 10 5 = 16) ∧
    (Ready (issuing 0 0 postWord) 0 0 9 0 0x04 ∧ ((issuing 0 0 postWord).engine 0 0).retireAt < 9 ∧
      (postField (issued (issuing 0 0 postWord) 0 0 9 0).w 8).en = true ∧
      (postField (issued (issuing 0 0 postWord) 0 0 9 0).w 8).inc ≠ 0 ∧
      (postField (issued (issuing 0 0 postWord) 0 0 9 0).w 8).self = true) := by
  refine ⟨⟨by decide +kernel, by decide +kernel, by decide +kernel, by decide +kernel, by decide +kernel, ?_,
    by decide +kernel, by decide +kernel⟩, by decide +kernel⟩
  intro f h
  have hn : (issued (issuing 0 1 loopWord) 0 1 0 0).E.loops.head? = none := by decide +kernel
  rw [hn] at h; exact absurd h (by simp)

/-- COPY on channel 3 with its descriptor (all zero: one run of 16 B at 0) in the last four slots. -/
def copyWord : BitVec 128 := word [(0, 0x10), (8, 3), (10, 4092)]
/-- CLAUNCH of pairs 62 and 63 of two channels. -/
def claunchWord : BitVec 128 := word [(0, 0x50), (17, 1), (26, 62), (32, 1), (38, 5), (54, 77)]

theorem witness_CopyAndClaunchEnqueue :
    (Ready (issuing 0 0 copyWord) 0 0 0 0 0x10 ∧ PostStands (issued (issuing 0 0 copyWord) 0 0 0 0) 28 none ∧
      CopyAllowed (issued (issuing 0 0 copyWord) 0 0 0 0) (copyDescriptor (issued (issuing 0 0 copyWord) 0 0 0 0))) ∧
    (Ready (issuing 16 3 claunchWord) 16 3 0 0 0x50 ∧ PostStands (issued (issuing 16 3 claunchWord) 16 3 0 0) 86 none ∧
      fld (issued (issuing 16 3 claunchWord) 16 3 0 0).w 26 6 + fld (issued (issuing 16 3 claunchWord) 16 3 0 0).w 32 6 ≤ 63 ∧
      claunchUnits (issued (issuing 16 3 claunchWord) 16 3 0 0) = some [62, 63, 2110, 2111] ∧
      ((issuing 16 3 claunchWord).engine 16 3).launches.length < 8) := by
  refine ⟨⟨by decide +kernel, ⟨rfl, by decide +kernel⟩, by decide +kernel⟩, by decide +kernel, ⟨rfl, by decide +kernel⟩, ?_⟩
  decide +kernel

/-- WLOAD of one INT8 column of two lanes from byte 0 into plane 1. -/
def wloadWord : BitVec 128 := word [(0, 0x20), (8, 1), (9, 5), (69, 1)]

theorem witness_WloadFillsPlane :
    Ready (issuing 0 1 wloadWord) 0 1 3 0 0x20 ∧ WloadAllowed (issued (issuing 0 1 wloadWord) 0 1 3 0) .int8 := by
  refine ⟨by decide +kernel, ?_⟩
  simp only [WloadAllowed]
  decide +kernel

/-- A READY plane of one INT8 column with the weights 3 and -2. -/
def readyPlane : Plane :=
  { Plane.empty with mode := .ready, fmt := 5, kUsed := 2, nUsed := 1, weights := [[3, 254]], closeInt := [3, -2] }

/-- STREAM of one INT8 row from byte 0 on plane 0 into entry 0, ACC. -/
def streamWord : BitVec 128 := word [(0, 0x30), (9, 5), (79, 1)]
def streaming : State := withTile 0 { Tile.init with
  engines := [(2, { Engine.idle with mode := .issuing })]
  imem := [(0, streamWord)]
  scratch := [(0, 10), (1, 4)]
  acc := [(0, 5)]
  plane0 := readyPlane }

theorem witness_StreamPutsItsSlotsInFlight :
    Ready streaming 0 2 0 0 0x30 ∧ StreamAllowed (issued streaming 0 2 0 0) .int8 .int8 := by
  refine ⟨by decide +kernel, ?_⟩
  simp only [StreamAllowed]
  decide +kernel

/-- `s` once all the work in flight in parcel 0 before cycle 600 has happened. -/
def landed (s : State) : State := s.settle 0 600

/-- 5 + 3 * 10 - 2 * 4 (R58, R82), 259 cycles after the slot; before that the entry is as it was (R85). -/
theorem test_stream_int8 :
    (match exec (.tileStream 0 2 0) streaming with
      | .next s' => (Tab.get 0 ((landed s').tile 0).acc 0, Tab.get 0 ((s'.settle 0 259).tile 0).acc 0)
      | _ => (0, 0)) = (27, 5) := by
  decide +kernel

/-- DRAIN of four FP32 entries (300, -1, 0, 7) as INT8 with saturation into byte 0 of vector tile 16. -/
def drainWord : BitVec 128 := word [(0, 0x40), (27, 4), (46, 3), (55, 1), (56, 5), (62, 1), (88, 1), (98, 16)]
def draining : State := withTile 0 { Tile.init with
  engines := [(3, { Engine.idle with mode := .issuing })]
  imem := [(0, drainWord)]
  acc := [(0, 0x43960000), (1, 0xBF800000), (3, 0x40E00000)] }

theorem witness_DrainPutsItsRowsInFlight :
    Ready draining 0 3 0 0 0x40 ∧ DrainAllowed (issued draining 0 3 0 0) .int8 .rne 16 := by
  refine ⟨by decide +kernel, ?_⟩
  simp only [DrainAllowed]
  decide +kernel

/-- 300.0, -1.0, 0.0 and 7.0 as INT8, saturated (R63). -/
theorem test_drain_saturates :
    (drainRow .int8 .rne true false true 0 [0x43960000, 0xBF800000, 0, 0x40E00000]).1 = [127, 255, 0, 7] := by decide +kernel

/-- The state that a command answers. -/
def after (i : Instr) (s : State) : State := match exec i s with | .next s' => s' | _ => s
/-- What flies in parcel 0. -/
def flying (s : State) : List Flight := (s.parcel 0).flight
/-- `base` with this work in flight. -/
def withFlight (fs : List Flight) : State := withParcel { par with flight := fs }

/-- The operands of the STREAM and the DRAIN above. -/
def streamX : StreamOp := streamOp (issued streaming 0 2 0 0)
def drainX : DrainOp := drainOp (issued draining 0 3 0 0) .int8 16

theorem witness_WorkInFlightLandsInItsCycle :
    flying base = [] ∧
    NextWork (withFlight [⟨3, 2, .scratch 0 0 [1]⟩, ⟨4, 2, .scratch 0 0 [2]⟩]) 0 ⟨3, 2, .scratch 0 0 [1]⟩ [⟨4, 2, .scratch 0 0 [2]⟩] ∧
    NextWork (withFlight [⟨2, 1, .sram 1 0 [1]⟩]) 0 ⟨2, 1, .sram 1 0 [1]⟩ [] ∧
    (let s := after (.tileStream 0 2 0) streaming
     NextWork s 0 ⟨0, 0, .streamRow 0 streamX 0⟩ [⟨2, 0, .closure 0 streamX 0⟩] ∧
     Fmt.ofCode streamX.fmt = some .int8 ∧ Fmt.ofCode (plane (s.tile 0) 0).fmt = some .int8 ∧
     TCtx.scratchBad (s.tile 0) 0 (streamRowBytes .int8 2) = false ∧ streamX.scl = none) ∧
    (let s := (after (.tileStream 0 2 0) streaming).settle 0 3
     NextWork s 0 ⟨259, 1, .accRow 0 streamX 0 true [22]⟩ ((flying s).drop 1) ∧ streamX.set = false ∧
     TCtx.accBad (s.tile 0) 0 1 = false) ∧
    (let s := after (.tileDrain 0 3 0) draining
     NextWork s 0 ⟨0, 0, .drainRow 0 drainX 0⟩ [] ∧ 0 ≤ drainX.start + drainX.perRow ∧
     Fmt.ofCode drainX.fmt = some .int8 ∧ Rnd.ofField drainX.rnd = some .rne ∧ TCtx.accBad (s.tile 0) 0 4 = false ∧
     Fmt.rowBytes .int8 4 ≤ 2048) := by decide +kernel

/-- A VECTOR instruction over 16 elements: A at 0, B at 256, D at 512. -/
def vecWord (op fa fb fd : Nat) : BitVec 128 :=
  word [(0, op), (31, 256), (54, 512), (77, 15), (89, fa), (93, fb), (97, fd)]

/-- The operation is a row, may issue on engine 1 of tile 16, and meets VectorAllowed with these formats. -/
def vecFits (op ca cb cd : Nat) (fa fb fd : Fmt) : Bool :=
  (vectorRow op 16 1 0).isSome && decide (Ready (issuing 16 1 (vecWord op ca cb cd)) 16 1 0 0 op) &&
  decide (VectorAllowed (issued (issuing 16 1 (vecWord op ca cb cd)) 16 1 0 0) op fa fb fd .rne)

theorem witness_VectorOperationsWriteResults :
    (∀ op ∈ [0x60, 0x61, 0x62, 0x63, 0x64, 0x65, 0x66, 0x67, 0x68, 0x69, 0x6A, 0x6B, 0x6C, 0x6D, 0x70, 0x71, 0x72, 0x78],
      vecFits op 0xC 0xC 0xC .fp32 .fp32 .fp32 = true) ∧
    vecFits 0x7C 0xC 0xB 0xB .fp32 .bf16 .bf16 = true ∧ vecFits 0x7D 9 6 5 .int16 .uint8 .int8 = true := by
  decide +kernel

/-- VADD of 1.0 and 2.5 in FP32 (R165). -/
theorem test_vadd :
    (match exec (.tileVadd 16 1 0) (withTile 16 { Tile.init with
        engines := [(1, { Engine.idle with mode := .issuing })]
        imem := [(0, vecWord 0x60 0xC 0xC 0xC)]
        scratch := [(2, 0x80), (3, 0x3F), (258, 0x20), (259, 0x40)] }) with
      | .next s' => Mem.readNat ((landed s').tile 16).scratch 512 4
      | _ => 0) = 0x40600000 := by decide +kernel

/-- GXPOSE of a 2 by 3 block of 16-bit elements, rows 16 B apart, to 1,024. -/
def gxposeWord : BitVec 128 := word [(0, 0xA0), (31, 1), (43, 1024), (66, 1), (78, 1), (86, 2), (94, 1)]
/-- GPERM of one block of 8-bit elements with a program in the last 16 slots, to 1,024. -/
def gpermWord : BitVec 128 := word [(0, 0xA1), (31, 1024), (62, 4080)]

def permuting : State := withTile 16 { Tile.init with
  engines := [(2, { Engine.idle with mode := .issuing })]
  imem := [(0, gpermWord), (4095, 0x100)] }

theorem witness_GraticuleTransposesAndPermutes :
    (Ready (issuing 16 2 gxposeWord) 16 2 0 0 0xA0 ∧ GxposeAllowed (issued (issuing 16 2 gxposeWord) 16 2 0 0)) ∧
    (Ready permuting 16 2 0 0 0xA1 ∧ GpermAllowed (issued permuting 16 2 0 0)) := by
  refine ⟨⟨by decide +kernel, ?_⟩, by decide +kernel, ?_⟩
  · simp only [GxposeAllowed]; decide +kernel
  · simp only [GpermAllowed]; decide +kernel

/-- Tile 0 with engine 0 as `E`. -/
def withEngine (E : Engine) : State := withTile 0 { Tile.init with engines := [(0, E)] }

/-- A post on its way to cairn 63 of tile 0. -/
def flight (inc : Nat) : PostFlight := ⟨1, 0, ⟨0, 63, inc⟩⟩
def posted (inc : Nat) : State :=
  { withTile 0 { Tile.init with cairns := [(63, 65533)] } with posts := [flight inc] }

theorem witness_EngineEventsComplete :
    (let s := State.settleTile (withEngine { Engine.idle with
        mode := .issuing
        ending := true }) 0 1
     (s.engine 0 0).mode = .issuing ∧ (s.engine 0 0).ending = true ∧ outstandingDone s 0 0 = true ∧
      (s.engine 0 0).retireAt < 1 ∧ (s.engine 0 0).nextIssue ≤ 1) ∧
    (let s := State.settleTile (withTile 0 { Tile.init with
        engines := [(0, { Engine.idle with mode := .issuing, retired := 2 })]
        launch := BitVec.ofNat 1024 (2 * 2 ^ 64) }) 0 0
     (s.engine 0 0).mode = .issuing ∧ (s.engine 0 0).ending = false ∧ launchHalt (s.tile 0).launch 0 ≠ 0 ∧
      (s.engine 0 0).retired = launchHalt (s.tile 0).launch 0 ∧ outstandingDone s 0 0 = true ∧ (s.engine 0 0).retireAt ≤ 0) ∧
    (takeFirst (fun x : PostFlight => x.dst.tile = (0 : TileId).val && x.dst.cairn = (63 : BitVec 6).toNat) (posted 2).posts =
        some (flight 2, []) ∧ Tab.get 0 (((posted 2).settleTile 0 9).tile 0).cairns 63 + 2 ≤ 65535) ∧
    (takeFirst (fun x : PostFlight => x.dst.tile = (0 : TileId).val && x.dst.cairn = (63 : BitVec 6).toNat) (posted 3).posts =
        some (flight 3, []) ∧ 65535 < Tab.get 0 (((posted 3).settleTile 0 9).tile 0).cairns 63 + 3) ∧
    (let s := State.settleTile (withEngine { Engine.idle with mode := .waitCairn }) 0 1137600
     (s.engine 0 0).mode = .waitCairn ∧ (s.engine 0 0).waitSince + s.legBudget ≤ 1137600) ∧
    (let s := State.settleTile (withEngine { Engine.idle with mode := .waitQueue }) 0 1137600
     (s.engine 0 0).mode = .waitQueue ∧ (s.engine 0 0).waitSince + s.legBudget ≤ 1137600) := by decide +kernel

/-- A descriptor of one 16 B run: KIND, far address. -/
def desc (kind far : Nat) (started : Nat) : CopyDesc :=
  { raw := BitVec.ofNat 512 (fields [(0, kind)]), localBase := 0, farBase := far, post := none, started := started, inFlight := 0, landAt := 0 }
def copying (t e : Nat) (d : CopyDesc) : State :=
  withTile t { Tile.init with engines := [(e, { Engine.idle with chans := [(3, { CopyChan.idle with queue := [d] })] })] }

theorem witness_CopyRunsAndCompletion :
    (MayStart (copying 0 0 (desc 0 0x5FFFFFF0 0)) (begun (copying 0 0 (desc 0 0x5FFFFFF0 0)) 0 0) 0 0 3 0 0 0 (desc 0 0x5FFFFFF0 0) ∧
      nextFar (copying 0 0 (desc 0 0x5FFFFFF0 0)) 0 (desc 0 0x5FFFFFF0 0) = .stack 0 0x5FFFFFF0) ∧
    (MayStart (copying 16 3 (desc 2 0x1100000 0)) (begun (copying 16 3 (desc 2 0x1100000 0)) 0 0) 16 3 3 0 0 0 (desc 2 0x1100000 0) ∧
      nextFar (copying 16 3 (desc 2 0x1100000 0)) 0 (desc 2 0x1100000 0) = .tile 17 0 ∧
      TCtx.scratchBad ((copying 16 3 (desc 2 0x1100000 0)).tile 16) (nextLocal (desc 2 0x1100000 0)) 16 = false) ∧
    (MayStart (copying 16 3 (desc 1 0x4000 0)) (begun (copying 16 3 (desc 1 0x4000 0)) 0 0) 16 3 3 0 0 0 (desc 1 0x4000 0) ∧
      nextFar (copying 16 3 (desc 1 0x4000 0)) 0 (desc 1 0x4000 0) = .unit 1 0 ∧
      TCtx.scratchBad ((copying 16 3 (desc 1 0x4000 0)).tile 16) (nextLocal (desc 1 0x4000 0)) 16 = false) ∧
    ((((copying 0 0 (desc 0 0 1)).settleTile 0 0).copyChan 0 0 3).queue = [desc 0 0 1] ∧
      (((copying 0 0 (desc 0 0 1)).settleTile 0 0).copyChan 0 0 3).halted = false ∧ Desc.runs (desc 0 0 1).raw ≤ 1 ∧
      (desc 0 0 1).inFlight = 0 ∧ (desc 0 0 1).landAt ≤ 0) := by decide +kernel

/-! ### Witnesses: channels and stack memory -/

/-- `base` with channel 0 as `K`; and a released module without parcels with it, trained. -/
def withChannel (K : Channel) : State := { base with channels := [(0, K)] }
def ready : State := { base with parcels := [] }
def idleChannel (K : Channel) : State := { ready with channels := [(0, { K with trained := true, training := false })] }

theorem witness_FixedSlots :
    base.channelParcel 0 = some 0 ∧ (base.parcel 0).ctl.mode = .sealed ∧
    slotPages (withChannel { Channel.init with clearQueue := [(24575, 1)] }) 0 = [24575] := by decide +kernel

theorem witness_ChannelClearingAndTraining :
    ((base.channelParcel 0).isSome = true ∧ 24575 < 24576 ∧ (base.channel 0).clearQueue.length < 256) ∧
    ((withChannel { Channel.init with clearing := true }).channel 0).clearing = true ∧
    (ready.channelParcel 383 = none ∧ (ready.channel 383).clearing = false ∧ tgBusy (ready.channel 383).tg = false ∧
      Answers ready .operator (0x4000 + 383)) ∧
    (State.reset.channel 383).training = true := by decide +kernel

/-- The atomic operation `code` on the last `size` bytes of a channel may run. -/
def atomicFits (code size : Nat) : Bool :=
  (atomicRow code 0 (0x60000000 - size) size 1 2).isSome && atomicSizeOk code size &&
  decide ((0x60000000 - size) % size = 0) && decide (base.stackPlace 0 (0x60000000 - size) = some (0, 0x60000000 - size)) &&
  !base.rangeRetired 0 (0x60000000 - size) size && !(Tab.get Domain.init base.clocks.domains (0x20 + channelStack 0)).disconnected &&
  decide (granuleErr (atStewardTurn base 0) (stackKey 0 (0x60000000 - size) / 64) ≠ 2)

theorem witness_AtomicsReplaceTheirBytes :
    ([0, 1, 2, 3, 4, 5, 6, 7, 8, 9].all fun code => atomicFits code 4 && atomicFits code 8) ∧ atomicFits 0xA 4 = true ∧
    atomicFits 0xB 2 = true ∧ base.channelParcel 0 = some 0 ∧ requesters base 0 (base.parcel 0).clock = [] := by
  decide +kernel

/-- A 32-bit add wraps within its size and leaves the byte after it (R257). -/
theorem test_atomic_add_wraps :
    (match exec (.atomicAdd 0 0 4 2) { base with stack := [(0, 0xFF), (1, 0xFF), (2, 0xFF), (3, 0xFF), (4, 9)] } with
      | .next s' => s'.stack
      | _ => []) = [(0, 1), (4, 9)] := by decide +kernel

theorem witness_TrafficGeneratorRuns :
    (TgMayStart (idleChannel Channel.init) 0 1 ∧ Answers (idleChannel Channel.init) .operator 0x4000) ∧
    (2 < 2 ^ 32 ∧ bitAt 2 0 = false ∧ bitAt 2 1 = true ∧
      tgBusy ((idleChannel { Channel.init with tg := { TrafficGen.init with state := .reading } }).channel 0).tg = true ∧
      Answers (idleChannel { Channel.init with tg := { TrafficGen.init with state := .reading } }) .operator 0x4000) ∧
    (let g := { TrafficGen.init with state := .waiting, startTick := 4 }
     let s := idleChannel { Channel.init with tg := g }
     (s.channel 0).tg.state = .waiting ∧ (s.channel 0).tg.startTick < s.now ∧ tgMayRun s 0 = true ∧
      tgBad (s.channel 0).tg.control (s.channel 0).tg.offset.toNat (s.channel 0).tg.length.toNat (s.channel 0).tg.seed = false) ∧
    (let s := withChannel { Channel.init with tg := { TrafficGen.init with state := .waiting, startTick := 4 } }
     (s.channel 0).tg.state = .waiting ∧ (s.channel 0).tg.startTick < s.now ∧ tgMayRun s 0 = false) ∧
    (let s := idleChannel { Channel.init with tg := { TrafficGen.init with state := .writing, finished := true } }
     tgBusy (s.channel 0).tg = true ∧ ((s.channel 0).tg.finished = true ∨ (s.channel 0).tg.stopping = true)) ∧
    (let s := idleChannel { Channel.init with
        training := false
        tg := { TrafficGen.init with state := .writing, runLength := 64 } }
     (s.channel 0).clearing = false ∧ (s.channel 0).training = false ∧ (s.channel 0).tg.state = .writing ∧
      (s.channel 0).tg.stopping = false ∧ (s.channel 0).tg.finished = false ∧ tgMode (s.channel 0).tg.runControl ≤ 1) ∧
    (tgActive (State.reset.channel 0).tg = false ∧ State.reset.channelParcel 0 = none) ∧
    (tgActive ((base.settle 0 4).channel 0).tg = false ∧ base.channelParcel 0 = some 0 ∧
      requesters (base.settle 0 4) 0 4 = []) := by decide +kernel

/-- A run of 64 B between byte 0 of the scratchpad and the last 64 B of channel 0. -/
def run : Run :=
  { seq := 0, desc := 0, volatile := true, scratch := 0, channel := 0, offset := 0x5FFFFFC0, len := 64, pos := 0 }
/-- Engine `e` of tile `t` has `run` in flight on copy channel 1; channel 0 is trained. -/
def moving (t e : Nat) : State :=
  { withTile t { Tile.init with engines := [(e, { Engine.idle with chans := [(1, { CopyChan.idle with runs := [run] })] })] } with
    channels := [(0, { Channel.init with trained := true, training := false })] }

/-- A LOAD run that is not volatile, with its segment in a staging line. -/
def cached : Run := { run with volatile := false }
def line : Line := { channel := 0, segment := segOf 0x5FFFFFC0, data := [(2000, 7)], errs := [] }
def staged : State :=
  { withTile 0 { Tile.init with engines := [(0, { Engine.idle with chans := [(1, { CopyChan.idle with runs := [cached] })] })] } with
    channels := [(0, { Channel.init with trained := true, training := false })]
    lines := [(lineKey 0, [line])] }

theorem witness_SegmentTurnMovesBytes :
    (Grants (moving 0 4) ((moving 0 4).settle 0 7) 0 7 0 34 0 4 1 run ∧
      TCtx.scratchBad (((moving 0 4).settle 0 7).tile 0) 0 (turnLen run) = false ∧ LanesGood 0 [(31, 70)] run) ∧
    (Grants (moving 0 0) ((moving 0 0).settle 0 7) 0 7 0 2 0 0 1 run ∧ run.volatile = true ∧
      (∀ g ∈ granulesOf 0 (turnAt run) (turnLen run), granuleErr ((moving 0 0).settle 0 7) g ≠ 2)) ∧
    (Grants staged (staged.settle 0 7) 0 7 0 2 0 0 1 cached ∧ cached.volatile = false ∧
      lineOf (staged.settle 0 7) 0 (segOf (turnAt cached)) = some line ∧
      ∀ g ∈ granulesOf 0 (turnAt cached) (turnLen cached), Tab.get 0 line.errs (g % 32) ≠ 2) := by
  refine ⟨⟨⟨?_, ?_, ?_, ?_, rfl, ?_⟩, ?_, ?_⟩, ⟨⟨?_, ?_, ?_, ?_, rfl, ?_⟩, ?_, ?_⟩, ⟨?_, ?_, ?_, ?_, rfl, ?_⟩, ?_, ?_, ?_⟩ <;>
    decide +kernel

/-! ### The spec's worked examples -/

/-- The integer example of 4.7: two rows stream against a plane of three lanes and two columns; `w` is the weight of lane 1
in column 1 as the cell holds it, the closure column being computed with 7. -/
def closureExample (w : Nat) : State := withTile 0 { Tile.init with
  engines := [(2, { Engine.idle with mode := .issuing })]
  imem := [(0, word [(0, 0x30), (9, 5), (36, 1), (48, 1), (79, 2), (89, 1)])]
  scratch := [(0, 2), (1, 255), (2, 4), (16, 253), (17, 6), (18, 1)]
  plane0 := { Plane.empty with
    mode := .ready
    fmt := 5
    kUsed := 3
    nUsed := 2
    weights := [[3, 5, 252], [254, w, 1]]
    closeInt := [1, 12, -3] } }

/-- The accumulator entries, CLOSURE_ERROR, CLOSURE_ROWS and the kind in CLOSURE_LAST (0 column, 1 row, 2 both). -/
def closureOutcome (s : State) : List Word × Bool × BitVec 64 × Nat :=
  match exec (.tileStream 0 2 0) s with
  | .next s' =>
    let s' := landed s'
    ((List.range 4).map fun i => Tab.get 0 (s'.tile 0).acc i, (s'.tile 0).closure.error, (s'.tile 0).closure.rows,
      fld (s'.tile 0).closure.last.toNat 28 3)
  | _ => ([], false, 0, 0)

/-- 4.7: y0 = (-15, -7), y1 = (17, 49), and every check passes. -/
theorem test_closure_example : closureOutcome (closureExample 7) = ([-15, -7, 17, 49], false, 0, 0) := by decide +kernel

/-- 4.7: with 3 for 7 the column check passes, and both row checks report. -/
theorem test_closure_example_flipped : closureOutcome (closureExample 3) = ([-15, -3, 17, 25], true, 3, 1) := by
  decide +kernel

/-- 14.7: a scrub of row 1,605 of channel 37 finds an uncorrectable granule in bank 1 of pair 40: granule 3. -/
theorem test_scrub_example :
    (match exec (.scrubSlot 37) { State.reset with
        channels := [(37, { Channel.init with scrubRow := 1605 })]
        stackErr := [(stackKey 37 0x192858C0 / 64, 2)]
        parcels := [(0, { Parcel.init with ctl := { ParcelCtl.init with mask := 0x3FF, mode := .sealed } })] } with
      | .next s' => s'.log.queue.map fun r => (r.code, r.source, r.parcel, r.inst, r.sub)
      | _ => []) = [(3, 2, 0, 37, 0x2803)] := by decide +kernel

/-- 18.6: FAULT_RECORD of engine 2 of tile 372, in the operator's view and as tile 52 of parcel 10. -/
theorem test_slot_example :
    slotOf false 0x274210 = some (0x5174, 0x52) ∧ slotOf true 0x234210 = some (0x5034, 0x52) ∧
    slotOf false 0x274880 = some (0x5174, 0x30) ∧ slotOf true 0x234880 = some (0x5034, 0x30) := by decide +kernel

/-! ### Witnesses: Celulo units -/

def lau : UnitLaunch := { entry := 5, arg := 7, tile := 16, id := 0 }
/-- Unit 63 of channel 0 as `U`, running, with the instruction word at index 0. -/
def unitWith (U : CUnit) (w : Nat) : State :=
  { base with
      channels := [(0, { Channel.init with image := [(0, BitVec.ofNat 32 w)] })]
      units := [(63, { U with running := some lau })] }
def U0 : CUnit := CUnit.idle 0x007F7F55
/-- A Celulo word: opcode, D, A, and further fields. -/
def cword (op d a : Nat) (fs : List (Nat × Nat)) : Nat := fields ([(0, op), (6, d), (10, a)] ++ fs)
/-- The instruction of the word at its issue in cycle 0. -/
def at0 (U : CUnit) (w : Nat) : CCtx := cissued (unitWith U w) 63 0 0

/-- The unit issues the instruction: what CIssues asks for. -/
abbrev CReady (s : State) (u : UnitId) (cyc op : Nat) : Prop :=
  let c := cissued s u cyc 0
  s.channelParcel (u / 64) = some 0 ∧ c.U.running.isSome = true ∧ c.U.halt = .none ∧
  (c.U.finishing = false ∨ op = 0x19) ∧ c.U.nextIssue ≤ celuloCycle cyc ∧ c.pc < 2048 ∧ Tab.get 0 c.U.instrErr c.pc ≠ 2 ∧
  c.w % 64 = op ∧ celuloOp op = true ∧ celuloWaits c (readsOf op c).1 (readsOf op c).2 = false

theorem CReady.issues {s : State} {u : UnitId} {cyc op : Nat} (h : CReady s u cyc op) :
    CIssues s u cyc 0 op (cissued s u cyc 0) := ⟨rfl, h⟩

theorem witness_CeluloScalarsWriteResults :
    ((List.range 15).all fun fn => decide (CReady (unitWith U0 (cword 1 1 2 [(14, 3), (18, fn)])) 63 0 0x01) &&
      (aluFn (at0 U0 (cword 1 1 2 [(14, 3), (18, fn)])).fn (at0 U0 (cword 1 1 2 [(14, 3), (18, fn)])).sA
        (at0 U0 (cword 1 1 2 [(14, 3), (18, fn)])).sB).isSome) ∧
    CReady (unitWith U0 (cword 2 1 2 [])) 63 0 0x02 ∧ CReady (unitWith U0 (cword 3 1 2 [])) 63 0 0x03 ∧
    (CReady (unitWith U0 (cword 4 1 2 [(14, 31), (19, 2)])) 63 0 0x04 ∧
      fld (at0 U0 (cword 4 1 2 [(14, 31), (19, 2)])).w 21 11 = 0 ∧ fld (at0 U0 (cword 4 1 2 [(14, 31), (19, 2)])).w 19 2 ≠ 3) ∧
    CReady (unitWith U0 (cword 5 1 0 [])) 63 0 0x05 ∧
    ((List.range 9).all fun fn => decide (CReady (unitWith U0 (cword 6 1 2 [(14, 3), (18, fn)])) 63 0 0x06) &&
      (faluFn (at0 U0 (cword 6 1 2 [(14, 3), (18, fn)])).fn (at0 U0 (cword 6 1 2 [(14, 3), (18, fn)])).sA
        (at0 U0 (cword 6 1 2 [(14, 3), (18, fn)])).sB).isSome) ∧
    CReady (unitWith U0 (cword 7 1 2 [])) 63 0 0x07 ∧ CReady (unitWith U0 (cword 0x1C 0 0 [])) 63 0 0x1C ∧
    (CReady (unitWith { U0 with s := [(2, 0x007F7F55)] } (cword 0x15 0 2 [])) 63 0 0x15 ∧
      fcwOk (at0 { U0 with s := [(2, 0x007F7F55)] } (cword 0x15 0 2 [])).sA = true) ∧
    CReady (unitWith U0 (cword 0x16 0 2 [])) 63 0 0x16 := by
  repeat' apply And.intro
  all_goals decide +kernel

/-- ADDI of the lowest IMM18 to 0, and an arithmetic shift of a negative number by 31. -/
theorem test_celulo_addi_shi :
    (match exec (.celuloAddi 63 0) (unitWith U0 (cword 2 1 2 [(14, 2 ^ 17)])) with
      | .next s' => sreg (s'.cunit 63) 1 | _ => 0) = 0xFFFE0000 ∧
    (match exec (.celuloShi 63 0) (unitWith { U0 with s := [(2, 0x80000000)] } (cword 4 1 2 [(14, 31), (19, 2)])) with
      | .next s' => sreg (s'.cunit 63) 1 | _ => 0) = 0xFFFFFFFF := by decide +kernel

/-- An address register just inside the 16 KiB data SRAM. -/
def atEnd (n : Nat) : CUnit := { U0 with s := [(2, BitVec.ofNat 32 (16384 - n))] }

theorem witness_CeluloDataAccesses :
    (CReady (unitWith (atEnd 4) (cword 8 1 2 [])) 63 0 0x08 ∧ DataAt ((at0 (atEnd 4) (cword 8 1 2 [])).addr 4) 4 ∧
      DataGood (atEnd 4) ((at0 (atEnd 4) (cword 8 1 2 [])).addr 4) 4) ∧
    (CReady (unitWith (atEnd 16) (cword 0xA 7 2 [])) 63 0 0x0A ∧ (at0 (atEnd 16) (cword 0xA 7 2 [])).d < 8 ∧
      DataAt ((at0 (atEnd 16) (cword 0xA 7 2 [])).addr 16) 16 ∧
      DataGood (atEnd 16) ((at0 (atEnd 16) (cword 0xA 7 2 [])).addr 16) 16) ∧
    (CReady (unitWith (atEnd 4) (cword 9 1 2 [])) 63 0 0x09 ∧ DataAt ((at0 (atEnd 4) (cword 9 1 2 [])).addr 4) 4) ∧
    (CReady (unitWith (atEnd 16) (cword 0xB 7 2 [])) 63 0 0x0B ∧ (at0 (atEnd 16) (cword 0xB 7 2 [])).d < 8 ∧
      DataAt ((at0 (atEnd 16) (cword 0xB 7 2 [])).addr 16) 16) := by decide +kernel

/-- A unit whose s2 is the last granule of its pair's 24 MiB and s3 is 1. -/
def streamU : CUnit := { U0 with s := [(2, BitVec.ofNat 32 (pairBytes - 64)), (3, 1)] }
def fifoU : CUnit := { U0 with fifo := [⟨0, List.replicate 16 1, false, false⟩] }

theorem witness_CeluloStreams :
    (CReady (unitWith streamU (cword 0xE 0 2 [(14, 3)])) 63 0 0x0E ∧
      StreamFits (at0 streamU (cword 0xE 0 2 [(14, 3)])).sA.toNat (at0 streamU (cword 0xE 0 2 [(14, 3)])).sB.toNat ∧
      ((unitWith streamU (cword 0xE 0 2 [(14, 3)])).cunit 63).openRead = none) ∧
    (let U := { streamU with openRead := some ⟨0, 1⟩ }
     CReady (unitWith U (cword 0xE 0 2 [(14, 3)])) 63 0 0x0E ∧
      StreamFits (at0 U (cword 0xE 0 2 [(14, 3)])).sA.toNat (at0 U (cword 0xE 0 2 [(14, 3)])).sB.toNat ∧
      ((unitWith U (cword 0xE 0 2 [(14, 3)])).cunit 63).openRead = some ⟨0, 1⟩ ∧
      ((unitWith U (cword 0xE 0 2 [(14, 3)])).cunit 63).pendingRead = none) ∧
    (CReady (unitWith streamU (cword 0xF 0 2 [(14, 3)])) 63 0 0x0F ∧
      StreamFits (at0 streamU (cword 0xF 0 2 [(14, 3)])).sA.toNat (at0 streamU (cword 0xF 0 2 [(14, 3)])).sB.toNat ∧
      partlyAppended ((unitWith streamU (cword 0xF 0 2 [(14, 3)])).cunit 63) = false) ∧
    (CReady (unitWith fifoU (cword 0xC 7 0 [])) 63 0 0x0C ∧ (at0 fifoU (cword 0xC 7 0 [])).d < 8 ∧
      16 ≤ fifoBytes fifoU.fifo ∧ (∀ g ∈ fifoTouched 16 fifoU.fifo, g.bad = false) ∧
      takeFifo 16 fifoU.fifo = some (List.replicate 16 1, [])) ∧
    (let U := { U0 with writeQueue := [⟨0, List.replicate 48 1⟩] }
     CReady (unitWith U (cword 0xD 7 0 [])) 63 0 0x0D ∧ (at0 U (cword 0xD 7 0 [])).d < 8 ∧ partlyAppended U = true) ∧
    (let U := { U0 with writeStream := some ⟨64, 1⟩, writeQueue := List.replicate 7 ⟨0, List.replicate 64 0⟩ }
     CReady (unitWith U (cword 0xD 7 0 [])) 63 0 0x0D ∧ (at0 U (cword 0xD 7 0 [])).d < 8 ∧ partlyAppended U = false ∧
      U.writeStream = some ⟨64, 1⟩ ∧ U.writeQueue.length < 8) ∧
    (CReady (unitWith U0 (cword 0x10 0 0 [(14, 8)])) 63 0 0x10 ∧
      sfld (at0 U0 (cword 0x10 0 0 [(14, 8)])).w 14 18 ≤ ((8 - U0.writeQueue.length : Nat) : Int)) := by
  repeat' apply And.intro
  all_goals decide +kernel

def vdotWord : Nat := cword 0x11 1 2 [(14, 7)]
def vmacmWord : Nat := cword 0x12 7 2 [(14, 3)]
def vcvtWord : Nat := cword 0x14 7 2 [(18, 7)]

theorem witness_CeluloVectorsWriteResults :
    (CReady (unitWith U0 vdotWord) 63 0 0x11 ∧
      ∃ xs U, VdotAllowed (at0 U0 vdotWord) .int8 .int8 xs U) ∧
    (CReady (unitWith U0 vmacmWord) 63 0 0x12 ∧ ∃ xs U, VmacmAllowed (at0 U0 vmacmWord) .int8 xs U) ∧
    ((List.range 12).all fun fn => decide (CReady (unitWith U0 (cword 0x13 1 2 [(14, 3), (18, fn)])) 63 0 0x13) &&
      (vfUnit (at0 U0 (cword 0x13 1 2 [(14, 3), (18, fn)]))).isSome) ∧
    (CReady (unitWith U0 vcvtWord) 63 0 0x14 ∧ VcvtAllowed (at0 U0 vcvtWord) .int8 .e4m3 .rne) := by
  refine ⟨⟨by decide +kernel, List.replicate 16 0, { U0 with running := some lau }, ?_⟩,
    ⟨by decide +kernel, List.replicate 16 0, { U0 with running := some lau }, ?_⟩, by decide +kernel, by decide +kernel,
    by decide +kernel⟩
  · exact ⟨rfl, rfl, by decide +kernel, by decide +kernel, by decide +kernel, rfl, by decide +kernel, by decide +kernel,
      by decide +kernel, rfl⟩
  · exact ⟨rfl, by decide +kernel, by decide +kernel, by decide +kernel, by decide +kernel, by decide +kernel, by decide +kernel,
      by decide +kernel, by decide +kernel, rfl⟩

/-- The dot product of sixteen 2s and sixteen 3s, added to s1 = 4 (R230). -/
theorem test_vdot_int8 :
    (match exec (.celuloVdot 63 0) (unitWith { U0 with
        s := [(1, 4)]
        v := [(7, 0x02020202020202020202020202020202)]
        data := Mem.writeBytes [] 0 (List.replicate 16 3) } vdotWord) with
      | .next s' => sreg (s'.cunit 63) 1 | _ => 0) = 100 := by decide +kernel

def loopC : Nat := cword 0x18 1 1 []
/-- A unit in its handler with sp at the top of the data SRAM less one frame. -/
def handlerU : CUnit := { U0 with inHandler := true, s := [(15, 16368)] }

theorem witness_CeluloControl :
    (CReady (unitWith { U0 with s := [(1, 3)] } loopC) 63 0 0x18 ∧ CLoopAllowed (at0 { U0 with s := [(1, 3)] } loopC)) ∧
    (CReady (unitWith U0 0x19) 63 0 0x19 ∧ ((unitWith U0 0x19).cunit 63).writeQueue = [] ∧
      ((unitWith U0 0x19).cunit 63).pendingLaunch = none) ∧
    (let U := { U0 with pendingLaunch := some lau }
     CReady (unitWith U 0x19) 63 0 0x19 ∧ U.writeQueue = [] ∧ U.pendingLaunch = some lau) ∧
    (let U := { U0 with writeQueue := [⟨0, List.replicate 64 0⟩] }
     CReady (unitWith U 0x19) 63 0 0x19 ∧ U.writeQueue ≠ [] ∧ partlyAppended U = false) ∧
    CReady (unitWith U0 0x1A) 63 0 0x1A ∧
    (CReady (unitWith handlerU 0x1B) 63 0 0x1B ∧ ((unitWith handlerU 0x1B).cunit 63).inHandler = true ∧
      DataAt (sreg handlerU 15).toNat 16 ∧ DataGood handlerU (sreg handlerU 15).toNat 16) := by
  refine ⟨⟨by decide +kernel, by decide +kernel, by decide +kernel, by decide +kernel, by decide +kernel, ?_,
    by decide +kernel⟩, ⟨by decide +kernel, rfl, rfl⟩, ⟨by decide +kernel, rfl, rfl⟩,
    ⟨by decide +kernel, by decide +kernel, by decide +kernel⟩, by decide +kernel,
    ⟨by decide +kernel, by decide +kernel, by decide +kernel, by decide +kernel⟩⟩
  intro f h
  have hn : (at0 { U0 with s := [(1, 3)] } loopC).U.loops.head? = none := by decide +kernel
  rw [hn] at h; exact absurd h (by simp)

/-- LDW from address 2, with the stack pointer at 16 and at 8. -/
def badLdw (sp : Word) : CUnit := { U0 with s := [(2, 2), (15, sp)] }

theorem witness_CeluloExceptionEntry :
    (CReady (unitWith (badLdw 16) (cword 8 1 2 [])) 63 0 0x08 ∧ (at0 (badLdw 16) (cword 8 1 2 [])).addr 4 % 4 ≠ 0 ∧
      (sreg (badLdw 16) 15).toNat = 16) ∧
    (CReady (unitWith (badLdw 16384) (cword 8 1 2 [])) 63 0 0x08 ∧ (sreg (badLdw 16384) 15).toNat = 16384) ∧
    (CReady (unitWith (badLdw 8) (cword 8 1 2 [])) 63 0 0x08 ∧ (at0 (badLdw 8) (cword 8 1 2 [])).addr 4 % 4 ≠ 0 ∧
      (sreg (badLdw 8) 15).toNat < 16) := by decide +kernel

/-- A granule that waits to be written, whole and in part. -/
def whole (a : Nat) : QueuedGranule := ⟨a, List.replicate 64 1⟩
def part : QueuedGranule := ⟨192, [1]⟩

theorem witness_CeluloLaunchAndPort :
    (let s := { base with launches := [⟨0, lau⟩, ⟨63, lau⟩] }
     let b := launchBegun s (63 : UnitId) 9
     OldestLaunch s (63 : UnitId) ⟨63, lau⟩ [⟨0, lau⟩] ∧ (b.channel 0).retiredPairs.contains 63 = false ∧
      (b.cunit 63).halt = .none ∧ (b.cunit 63).running = none) ∧
    (let s := { unitWith U0 0 with launches := [⟨63, lau⟩] }
     let b := launchBegun s (63 : UnitId) 9
     OldestLaunch s (63 : UnitId) ⟨63, lau⟩ [] ∧ (b.channel 0).retiredPairs.contains 63 = false ∧
      (b.cunit 63).halt = .none ∧ (b.cunit 63).running = some lau ∧ (b.cunit 63).pendingLaunch = none) ∧
    (let s := { unitWith { U0 with pendingLaunch := some lau } 0 with launches := [⟨63, lau⟩] }
     let b := launchBegun s (63 : UnitId) 9
     OldestLaunch s (63 : UnitId) ⟨63, lau⟩ [] ∧ (b.channel 0).retiredPairs.contains 63 = false ∧
      (b.cunit 63).halt = .none ∧ (b.cunit 63).running = some lau ∧ (b.cunit 63).pendingLaunch = some lau) ∧
    (let s := unitWith { U0 with frame := 4, writeQueue := [whole 0, whole 64, part] } 0
     (s.cunit 63).frame % 5 = 4 ∧ (s.cunit 63).writeQueue = [whole 0, whole 64] ++ [part] ∧
      ∀ g ∈ [whole 0, whole 64], g.bytes.length = 64) ∧
    (let s := unitWith { U0 with frame := 4, writeQueue := [part] } 0
     (s.cunit 63).frame % 5 = 4 ∧ (s.cunit 63).writeQueue = [] ++ [part] ∧ part.bytes.length ≠ 64) ∧
    (let s := unitWith U0 0
     (s.cunit 63).frame % 5 ≠ 4 ∧ (s.cunit 63).openRead = none) ∧
    (let s := unitWith { U0 with openRead := some ⟨0, 2⟩ } 0
     (s.cunit 63).frame % 5 ≠ 4 ∧ (s.cunit 63).openRead = some ⟨0, 2⟩ ∧ (s.cunit 63).halt = .none ∧
      (s.cunit 63).fifo.length ≤ 14) ∧
    (let s := unitWith { U0 with openRead := some ⟨0, 1⟩ } 0
     (s.cunit 63).openRead = some ⟨0, 1⟩ ∧ (s.cunit 63).halt = .none ∧ (s.cunit 63).fifo.length ≤ 15) ∧
    (let l : Launch := ⟨0, [], some ⟨0, 1, 1⟩⟩
     let s := withTile 16 { Tile.init with engines := [(3, { Engine.idle with launches := [⟨1, [5], none⟩, l] })] }
     takeFirst (fun l : Launch => l.remaining.isEmpty) ((s.settleTile 16 9).engine 16 3).launches =
      some (l, [⟨1, [5], none⟩])) := by
  repeat' apply And.intro
  all_goals decide +kernel

/-- A parcel whose leg is Faulted. -/
def faultedPar : Parcel := { par with legs := [{ leg with state := .faulted }] }

theorem witness_FaultsStopAndTearDown :
    (let s := unitWith { U0 with halt := .lock } 0
     s.channelParcel 0 = some 0 ∧ (s.cunit 63).halt ≠ .none ∧ jobLive (s.parcel 0) = true) ∧
    ((withParcel faultedPar).noFaultYet 0 = false ∧ jobLive ((withParcel faultedPar).parcel 0) = true) ∧
    ((withParcel faultedPar).settle 0 9).noFaultYet 0 = false := by
  decide +kernel

/-! ### Witnesses: boundaries, the steward, legs and serving -/

theorem witness_BoundaryAdvancesTick :
    (base.mer.started = true ∧ base.mer.opened = none ∧ base.cart.activation = false ∧ base.cart.memErr ≠ 2) ∧
    State.reset.mer.started = false := by decide +kernel

/-- A module at the boundary into tick 64 with everything due. -/
def dueState : State :=
  { base with
      mer := { base.mer with tick := 4096, dueStretch := true, dueLeak := true, dueLane := true, dueDemand := true, duePower := true }
      thermal := { Thermal.init with demand := 1 } }

theorem witness_BoundaryDueEvents :
    (dueState.mer.dueStretch = true ∧ dueState.thermal.demand ≠ dueState.mer.level ∧ dueState.mer.opened = none) ∧
    (let s := { dueState with mer := { dueState.mer with dueStretch := false } }
     s.mer.dueLeak = true ∧ s.mer.dueStretch = false ∧ s.mer.opened = none) ∧
    (dueState.mer.dueLeak = true ∧ dueState.mer.dueStretch = true) ∧
    dueState.mer.dueLane = true ∧ dueState.mer.dueDemand = true ∧ dueState.mer.duePower = true := by decide +kernel

/-- A chart of one sector with one decode template of bucket 8. -/
def tmpl : LegTemplate :=
  { number := 7, use := .decode 8, fixed := 1000, perKpos := 10, maxPos := 262144, minInterval := 2, manifest := [],
    rowMap := [], remoteList := [], needs := [⟨3, 2, 0, 9⟩], dump := false,
    entry := [5], streams := [] }
def chart1 : Chart :=
  { sectors := 1, dieSplit := none, tileMasks := [1], channelMasks := [1], templates := [tmpl], celuloImage := [],
    tensors := [], insetRegions := [], deliveryLeg := none, qd := 1, qp := 1, chunk := 256, nLayers := 320, heads := 1 }

/-- SUBMIT of one prompt token for one generated token, tag 9, to ring 7. -/
def submitEntry (op : Nat) : BitVec 512 :=
  BitVec.ofNat 512 (fields [(0, op), (12, 7), (32, 9), (128, 1), (148, 1)])
def pend : PendReq := { raw := submitEntry 1, buf := 0, shared := 0, since := some 5, waited := 0 }
def serving1 : Serving := { Serving.init with qd := 1, qp := 1, chunk := 256, nLayers := 320, heads := 1 }
def servingPar (V : Serving) : Parcel := { par with chart := some chart1, serving := V }

theorem witness_AdmissionAndExpiry :
    (let s := withParcel (servingPar { serving1 with pending := [pend] })
     (s.parcel 0).ctl.job = .running ∧ admissionHeld (s.parcel 0) = false ∧ (s.parcel 0).serving.eval = .none ∧
      oldestPending (s.parcel 0).serving s.now = some pend) ∧
    (let s := withParcel (servingPar { serving1 with pending := [{ pend with raw := submitEntry (1 + 2 ^ 16) }] })
     handleReason (s.parcel 0).serving s.now (submitEntry (1 + 2 ^ 16)) = some 0x09) := by decide +kernel

/-- Table 2.5's chart. -/
def surveyor : Chart :=
  { chart1 with
      templates :=
        [{ tmpl with use := .decode 32, fixed := 33120, perKpos := 348 },
         { tmpl with use := .decode 64, fixed := 35520, perKpos := 348 },
         { tmpl with use := .prefill 0 8192, fixed := 118800, perKpos := 0 }]
      qd := 10
      qp := 3
      chunk := 512
      nLayers := 54 }
/-- The example's request in prefill: L = 1,024, with 40 of its 108 legs done. -/
def surveyorServing : Serving :=
  { Serving.init with
      qd := 10
      qp := 3
      chunk := 512
      nLayers := 54
      gaz := [(0, { GazEntry.init with state := .prefill, token := 1, promptLen := 1024, doneLegs := 40 })] }

/-- R36 and R37: the worked example of 2.5. -/
theorem test_admission_costs :
    admitDec surveyor 32 126976 = some 76272 ∧ admitDec surveyor 64 131072 = some 80064 ∧ admitPre surveyor = 118800 ∧
    budgetHolds base surveyorServing surveyor 32 126976 = true ∧ budgetHolds base surveyorServing surveyor 33 131072 = false ∧
    firstBoundOf surveyorServing 2 0 4001 (prefillLegs surveyorServing 2048 0) = 4097 ∧ tokenBoundOf surveyorServing 0 = 7 := by
  decide +kernel

/-- A parcel that PLAN_COMPOSE finds in job mode `j` with the command `c` sampled. -/
def composing (j : JobMode) (c : BitVec 8) : Parcel :=
  { servingPar serving1 with ctl := { par.ctl with job := j, sampled := c } }
/-- A leg to recompute. -/
def again : Leg := { leg with state := .composed, recompute := true, launched := false }

theorem witness_PlanIsComposed :
    (Composes (withParcel (servingPar { serving1 with recompute := [again] })) 0 chart1 ∧
      Amended [again] [{ leg with cost := 400 }, { leg with cost := 600 }] [again]) ∧
    (let s := withParcel { servingPar serving1 with tick := { ParcelTick.init with preemptPending := true } }
     Composes s 0 chart1 ∧ preemptReady (s.parcel 0) = true) ∧
    (let s := withParcel (composing .preempted 0x11)
     Composes s 0 chart1 ∧ preemptReady (s.parcel 0) = false ∧ (s.parcel 0).ctl.job = .preempted) ∧
    Composes (withParcel (composing .starting 0)) 0 chart1 ∧ Composes (withParcel (composing .draining 0)) 0 chart1 ∧
    LocalOnly { chart1 with templates := [] } [leg] := by
  refine ⟨⟨by decide +kernel, [], by decide +kernel, List.nil_prefix, .inl rfl⟩, by decide +kernel, by decide +kernel,
    by decide +kernel, by decide +kernel, fun _ _ _ h => nomatch h⟩

/-- A parcel that holds command `c` of `who`. -/
def holding (c : BitVec 8) (who : Principal) : State :=
  withParcel { par with ctl := { par.ctl with held := some c, heldBy := who } }
/-- What its sampling answers. -/
def sampledAs (c : BitVec 8) (who : Principal) : Nat := sampleOutcome (holding c who) ((holding c who).parcel 0) c

theorem witness_CommandIsSampled :
    ((holding 0x10 .operator).parcel 0).ctl.held = some 0x10 ∧ sampledAs 0x10 .operator = 0 ∧
    ((holding 0x03 (.tenant 0)).parcel 0).ctl.held = some 0x03 ∧ sampledAs 0x03 (.tenant 0) = 0 ∧
    sampledAs 0x00 .operator = 4 ∧ sampledAs 0x10 (.tenant 0) = 3 ∧ sampledAs 0x02 (.tenant 0) = 2 ∧
    (let s := { withParcel { par with ctl := { par.ctl with job := .none, held := some 0x02, heldBy := .tenant 0 } } with
       thermal := { Thermal.init with stopped := true } }
     (s.parcel 0).ctl.held = some 0x02 ∧ sampleOutcome s (s.parcel 0) 0x02 = 6) := by decide +kernel

/-- A parcel under chart `c` whose plan begins with `l`. -/
def planned (c : Chart) (l : Leg) : State := withParcel { servingPar serving1 with chart := some c, legs := [l] }
def committed : Leg := { leg with state := .committed, launched := false }
/-- The chart with its template's needs and DUMP setting replaced. -/
def chartWith (needs : List RemoteNeed) (dump : Bool) : Chart :=
  { chart1 with templates := [{ tmpl with needs := needs, dump := dump }] }
/-- A launch record with DUMP set. -/
def dumpRec : BitVec 1024 := BitVec.ofNat 1024 (2 ^ 60)

theorem needsPosted_small (s : State) (t j : Nat) : needsPosted s 0 tmpl.needs t j ≤ 65535 := by
  unfold needsPosted
  by_cases h : s.globalTile 0 0 = some t ∧ 9 = j
  · simp [tmpl, h]
  · have h' : ¬(s.globalTile 0 0 = some t ∧ 9 = j) := h
    simp only [tmpl, List.filter]
    split
    · simp
    · simp

/-- The needs of two counters for cairn 9 of logical tile 31. -/
def tooMuch : List RemoteNeed := [⟨3, 65535, 31, 9⟩, ⟨4, 1, 31, 9⟩]

theorem witness_LegsLaunch :
    (MayLaunch (planned chart1 committed) 0 committed [] ∧ RunsTemplate (planned chart1 committed) 0 committed tmpl ∧
      tmpl.dump = false ∧ (∀ t j, needsPosted (planned chart1 committed) 0 tmpl.needs t j ≤ 65535)) ∧
    (let c := chartWith [] true
     let s := planned c committed
     MayLaunch s 0 committed [] ∧ RunsTemplate s 0 committed { tmpl with needs := [], dump := true } ∧
      dumpInside s 0 = true ∧ ∀ t j, needsPosted s 0 [] t j ≤ 65535) ∧
    (let c := chartWith tooMuch false
     let s := planned c committed
     MayLaunch s 0 committed [] ∧ RunsTemplate s 0 committed { tmpl with needs := tooMuch } ∧ 31 ∈ s.tilesOf 0 ∧
      s.tileParcel 31 = some 0 ∧ 65535 < needsPosted s 0 tooMuch 31 9) ∧
    (let l := { committed with kind := .save }
     MayLaunch (planned chart1 l) 0 l [] ∧ Moves l ∧ lastManifest ((planned chart1 l).parcel 0) = []) ∧
    (let c := chartWith [] true
     let s := withParcel { servingPar serving1 with
       chart := some c
       legs := [committed]
       bisect := { Bisect.init with base := 24 * 0x60000000 } }
     MayLaunch s 0 committed [] ∧ RunsTemplate s 0 committed { tmpl with needs := [], dump := true } ∧
      dumpInside s 0 = false) := by
  refine ⟨⟨by decide +kernel, ⟨by decide, chart1, rfl, rfl⟩, rfl, fun t j => needsPosted_small _ t j⟩,
    ⟨by decide +kernel, ⟨by decide, _, rfl, rfl⟩, by decide +kernel, fun t j => by simp [needsPosted]⟩,
    ⟨by decide +kernel, ⟨by decide, _, rfl, rfl⟩, by decide +kernel, by decide +kernel, by decide +kernel⟩,
    ⟨by decide +kernel, by decide, by decide +kernel⟩,
    ⟨by decide +kernel, ⟨by decide, _, rfl, rfl⟩, by decide +kernel⟩⟩

/-- A parcel with the leg running, its engines ended, and the record in its first tile. -/
def ended (l : Leg) (record : BitVec 1024) : State :=
  { planned chart1 l with tiles := [(0, { Tile.init with launch := record, engines := [(0, { Engine.idle with mode := .ended })] })] }
/-- The same once all work in flight has been done. -/
def endedDone (l : Leg) (record : BitVec 1024) : State := (ended l record).settleAll 0

theorem witness_LegsCompleteAndDump :
    (endedDone leg 0 = (ended leg 0).settleAll 0 ∧ MayComplete (endedDone leg 0) 0 leg ∧
      RunsTemplate (endedDone leg 0) 0 leg tmpl) ∧
    (MayComplete (endedDone { leg with dumped := true } dumpRec) 0 { leg with dumped := true } ∧
      launchDump (legRecord (endedDone { leg with dumped := true } dumpRec) 0) = true) ∧
    (let l := { leg with kind := .restore }
     endedDone l 0 = (ended l 0).settleAll 0 ∧ MayComplete (endedDone l 0) 0 l ∧ Moves l) ∧
    (endedDone leg dumpRec = (ended leg dumpRec).settleAll 0 ∧ (endedDone leg dumpRec).runningLeg 0 = some leg ∧
      launchDump (legRecord (endedDone leg dumpRec) 0) = true ∧ leg.dumped = false ∧
      enginesDone (endedDone leg dumpRec) 0 = true ∧ DumpGood (endedDone leg dumpRec) 0 leg) := by
  refine ⟨⟨rfl, by decide +kernel, by decide, chart1, by decide +kernel, rfl⟩, by decide +kernel,
    ⟨rfl, by decide +kernel, by decide⟩, rfl, by decide +kernel, by decide +kernel, rfl, by decide +kernel, ?_⟩
  decide +kernel

/-- Ring 7 with one entry to consume. -/
def oneEntry : Serving := { serving1 with subRings := [(7, { Ring.init with enable := true, tail := 1 })] }
def taking : State := present (withParcel (servingPar oneEntry))

theorem witness_SubmissionEntriesAreConsumed :
    accessOpen taking (.tenant 0) = true ∧ MayTake taking 0 7 ∧ (freeBuffer taking 0).isSome = true ∧
    ([0, 1, 2, 3, 4, 5, 6].all fun op => (entryRow op 0 7 (submitEntry op)).isSome && decide (Sub.opcode (submitEntry op) = op)) := by
  decide +kernel

def reading : PendReq := { pend with since := none }
def comp : HeldComp := { entry := 0x02, token := 1, judged := true, first := false, bound := 7, prev := 1 }

theorem witness_PromptsAndCompletions :
    (let s := present (withParcel (servingPar { serving1 with pending := [reading] }))
     (s.parcel 0).serving.pending.find? (fun q => q.buf = 0 && q.since.isNone) = some reading ∧ hostOpen s 0 = true ∧
      BufferServes s 0 0 (4 * min 1 (Sub.len reading.raw - reading.shared))) ∧
    (let s := present (withParcel (servingPar { serving1 with
        compRings := [(7, { Ring.init with enable := true, held := [comp], tail := 63 })] }))
     MayWrite s 0 7 comp []) := by decide +kernel

/-! ### Witnesses: parcels, jobs, retirement and settings -/

/-- Each row of Table 12.3 by who may write it; a principal that may not, and a state without the job it needs. -/
theorem witness_JobCommandsAct :
    [1, 2, 3, 4, 0x10, 0x11, 0x12, 0x13].all (fun code => (jobRow code .operator 0).isSome) = true ∧
    (reachesParcel .operator 0 = true ∧ Answers base .operator 0x3060) ∧
    (reachesParcel (.tenant 0) 0 = true ∧ Answers (present base) (.tenant 0) 0x3060) ∧
    atOnce 0x13 = false ∧
    (atOnce 0x04 = true ∧ principalFits .operator 0x04 = false ∧ principalFits (.tenant 0) 0x04 = true) ∧
    commandValid (base.parcel 0) 0x04 = true ∧ commandValid (State.reset.parcel 0) 0x12 = false ∧
    commandValid (base.parcel 0) 0x12 = true := by decide +kernel

/-- A released module on which no parcel is defined. -/
def noParcel : State := { base with parcels := [] }
def definedPar : State := withParcel { Parcel.init with ctl := { ParcelCtl.init with mask := 1, mode := .defined } }

theorem witness_MasksAndRetirements :
    (MaskAccepted noParcel 2 0x8004 ∧ Answers noParcel .operator 0x3062) ∧
    (¬ MaskAccepted { noParcel with bridgeFailed := true } 2 0x8004 ∧
      Answers { noParcel with bridgeFailed := true } .operator 0x3062) ∧
    ((definedPar.parcel 0).ctl.mode = .defined ∧ Answers definedPar .operator 0x3060) ∧
    (retireAllowed noParcel 15 = true ∧ Answers noParcel .operator 0x304F ∧
      (noParcel.sector 15).retiredTiles.getLsbD 31 = false ∧ (noParcel.sector 15).retiredChannels.getLsbD 23 = false ∧
      (noParcel.sector 15).stewardRetired = false) ∧
    StaysUp noParcel 15 ∧
    (RetireFits noParcel 383 ((noParcel.channel 383).retiredPages.contains 767)
      (heldOverlap noParcel 383 fun x => x / 32 = 767) ∧ (noParcel.channel 383).retiredPages.length < 256 ∧
      Answers noParcel .operator 0x417F) ∧
    RetireFits noParcel 0 ((noParcel.channel 0).retiredPairs.contains 63)
      (heldOverlap noParcel 0 fun x => x % 64 = 63) := by
  refine ⟨?_, ?_, ?_, ?_, .inl (by decide +kernel), ?_, ?_⟩
  all_goals decide +kernel

def logged : LogRec := { code := 1, source := 2, parcel := 0, inst := 3, sub := 0, tick := 5, template := 0, detail := 0, cyc := none }

/-- A slot holding a record not yet acknowledged, with another to store there: sequence numbers 1 and 4,097. -/
def fullLog : State :=
  { base with log := { base.log with queue := [logged], slots := [(1, (logged, 1))], nextSeq := 4097, ackSeq := 0 } }

theorem witness_SettingsLogAndFabricFailures :
    (allFree noParcel = true ∧ Answers noParcel .operator 0x3000 ∧ Answers noParcel .operator 0x7000) ∧
    (allFree base = false ∧ Answers base .operator 0x3000) ∧
    (let s := present (withParcel { par with tick := { ParcelTick.init with overrun := true } })
     (s.parcel 0).tick.overrun = true ∧ (s.parcel 0).tick.late = false ∧ Answers s (.tenant 0) 0x3020) ∧
    (let s := present (withParcel { par with tick := { ParcelTick.init with overrun := true, late := true } })
     (s.parcel 0).tick.overrun = true ∧ (s.parcel 0).tick.late = true ∧ Answers s (.tenant 0) 0x3020) ∧
    (fullLog.log.queue = logged :: [] ∧ (Tab.find fullLog.log.slots (fullLog.log.nextSeq % 4096)).isSome = true) ∧
    (sectorOwner base 0 = some 0 ∧ dieOfSector 0 = 0 ∧ jobLive (base.parcel 0) = true) ∧
    (∀ k : SectorId, sectorOwner base k = some 5 → dieOfSector k ≠ 0 ∧ unserviceable base k = false) ∧
    (let s := { State.reset with parcels := [(8, { Parcel.init with
        ctl := { ParcelCtl.init with mask := 0x0100, mode := .sealed, job := .running } })] }
     sectorOwner s 8 = some 8 ∧ jobLive (s.parcel 8) = true) := by decide +kernel

/-- R360: the record that was never acknowledged is counted lost. -/
theorem test_log_lost :
    (match exec .logWrite fullLog with
      | .next s' => decide (s'.log.lost = fullLog.log.lost + 1 ∧ s'.log.nextSeq = 4098)
      | _ => false) = true := by decide +kernel

/-! ### Witnesses: the Cartouche and SPDM -/

def inset : Delivery :=
  { kind := 1, slot := 0, chunks := 2, bundleId := 3, key := 4, next := 0, plain := [], region := 0, aborting := false,
    credit := 0, moved := 0 }

/-- The descriptor of a chunk of `n` bytes to logical address 0 of tensor 0, with tag `t` (Table 13.6). -/
def chunkOf (n : Nat) (t : BitVec 128) : BitVec 512 := BitVec.ofNat 512 (n * 2 ^ 32 + t.toNat * 2 ^ 192)

theorem chunkOf_toNat (n : Nat) (t : BitVec 128) (h : n < 2 ^ 32) : (chunkOf n t).toNat = n * 2 ^ 32 + t.toNat * 2 ^ 192 := by
  have := t.isLt
  simp only [chunkOf, BitVec.toNat_ofNat]
  exact Nat.mod_eq_of_lt (by omega)

theorem chunkOf_fields (n : Nat) (t : BitVec 128) (h : n < 2 ^ 32) :
    Chunk.tensor (chunkOf n t) = 0 ∧ Chunk.len (chunkOf n t) = n ∧ Chunk.dest (chunkOf n t) = 0 ∧
    Chunk.tag (chunkOf n t) = t ∧ fld (chunkOf n t).toNat 16 16 = 0 ∧ fld (chunkOf n t).toNat 104 24 = 0 ∧
    fld (chunkOf n t).toNat 320 192 = 0 := by
  have := t.isLt
  have tag : fld (chunkOf n t).toNat 192 128 = t.toNat := by
    simp only [chunkOf_toNat n t h, fld, Nat.shiftRight_eq_div_pow]; omega
  have tag' : Chunk.tag (chunkOf n t) = t := by simp [Chunk.tag, tag]
  simp only [Chunk.tensor, Chunk.len, Chunk.dest, tag', chunkOf_toNat n t h, fld, Nat.shiftRight_eq_div_pow]
  clear tag tag'
  refine ⟨?_, ?_, ?_, trivial, ?_, ?_, ?_⟩ <;> omega

def secPar (c : ParcelSec) : State := present (withParcel { par with sec := c })

/-- A parcel that an inset's delivery leg of 4,096 bytes per tick serves, in the middle of delivery `d`. -/
def delivering (d : Delivery) : State :=
  present (withParcel { par with
    chart := some { chart1 with insetRegions := [⟨0, 0, 128⟩], deliveryLeg := some 4096 }
    sec := { ParcelSec.init with delivery := some d } })

/-- The tag that a chunk of `n` bytes 7 of the delivery must carry, whatever its descriptor's tag is. -/
def dueTag (d : Delivery) (n : Nat) : BitVec 128 :=
  Config.gcmTag d.key d.next [(0 : BitVec 64).toNat, d.bundleId.toNat, d.next, 0, 0, n] (List.replicate n 7)

theorem chunk_ready (d : Delivery) (n : Nat) (t : BitVec 128) (chart : Option Chart) (h : n = 64 ∨ n = 128)
    (hk : insetBarred ((delivering d).parcel 0) d = false) (hc : d.kind = 0 → d.next + 1 = d.chunks → chart.isSome = true) :
    ChunkReady (delivering d) 0 d (chunkOf n t) (List.replicate n 7) chart := by
  have hn : n < 2 ^ 32 := by omega
  obtain ⟨h1, h2, h3, -, h5, h6, h7⟩ := chunkOf_fields n t hn
  refine ⟨rfl, rfl, hk, ?_, by rw [h2]; simp, hc⟩
  simp [Chunk.ok, h1, h2, h3, h5, h6, h7]
  omega

theorem chunk_passes (d : Delivery) (n : Nat) (h : n = 64 ∨ n = 128)
    (hd : chunkDestOk (delivering d) 0 d 0 0 n = true) :
    ChunkPasses (delivering d) 0 d (chunkOf n (dueTag d n)) (List.replicate n 7) := by
  obtain ⟨h1, h2, h3, h4, -⟩ := chunkOf_fields n (dueTag d n) (by omega)
  refine ⟨?_, by rw [h1, h2, h3]; exact hd⟩
  rw [h1, h2, h3, h4]; rfl

theorem chunk_fails (d : Delivery) (n : Nat) (h : n = 64 ∨ n = 128) :
    ¬ ChunkPasses (delivering d) 0 d (chunkOf n (dueTag d n + 1)) (List.replicate n 7) := by
  obtain ⟨h1, h2, h3, h4, -⟩ := chunkOf_fields n (dueTag d n + 1) (by omega)
  rintro ⟨ht, -⟩
  rw [h1, h2, h3, h4] at ht
  have hx : dueTag d n = dueTag d n + 1 := ht
  bv_omega

theorem part_fits (d : Delivery) (n : Nat) (t : BitVec 128) (h : n = 64 ∨ n = 128)
    (hp : rangeCut (delivering d) 0 d.moved (chunkStep ((delivering d).parcel 0) d n) = none ∧
      (stewardWrite (delivering d) 0 5 d.moved (((cryptChunk d.key d.next (List.replicate n 7)).drop d.moved).take
        (chunkStep ((delivering d).parcel 0) d n))).2 = none) :
    PartFits (delivering d) 0 d (chunkOf n t) (List.replicate n 7) := by
  obtain ⟨-, h2, h3, -⟩ := chunkOf_fields n t (by omega)
  simp only [PartFits, partAt, partBytes, h2, h3, Nat.zero_add]
  exact hp

/-- A delivery of kind `k` of `m` chunks. -/
def kindOf (k m : Nat) : Delivery := { inset with kind := k, chunks := m }
/-- The last chunk of an inset, of which the delivery leg may move 64 bytes of 128 in this tick. -/
def paced : Delivery := { kindOf 2 1 with credit := 64 }

theorem witness_DeliveriesRun :
    ((0x5000 : BitVec 64).toNat % 4096 = 0 ∧ ((present base).parcel 0).sec.delivery = none ∧
      Answers (present base) (.tenant 0) 0x8010) ∧
    ((0x5040 : BitVec 64).toNat % 4096 ≠ 0 ∧ ((delivering inset).parcel 0).sec.delivery.isSome = true ∧
      Answers (delivering inset) (.tenant 0) 0x8010) := by decide +kernel

theorem witness_DeliveriesRun_chunk :
    (ChunkReady (delivering inset) 0 inset (chunkOf 64 (dueTag inset 64 + 1)) (List.replicate 64 7) none ∧
      ¬ ChunkPasses (delivering inset) 0 inset (chunkOf 64 (dueTag inset 64 + 1)) (List.replicate 64 7)) ∧
    (let d := kindOf 0 1
     ChunkReady (delivering d) 0 d (chunkOf 64 (dueTag d 64)) (List.replicate 64 7) (some chart1) ∧
      ChunkPasses (delivering d) 0 d (chunkOf 64 (dueTag d 64)) (List.replicate 64 7)) ∧
    (let d := kindOf 2 2
     insetBarred ((delivering d).parcel 0) d = false) ∧
    (ChunkReady (delivering paced) 0 paced (chunkOf 128 (dueTag paced 128)) (List.replicate 128 7) none ∧
      ChunkPasses (delivering paced) 0 paced (chunkOf 128 (dueTag paced 128)) (List.replicate 128 7) ∧
      paced.moved + chunkStep ((delivering paced).parcel 0) paced 128 < 128) ∧
    (let s := present (withParcel { servingPar serving1 with sec := { ParcelSec.init with delivery := some (kindOf 2 1) } })
     (s.parcel 0).sec.delivery = some (kindOf 2 1) ∧ hostOpen s 0 = true ∧ insetBarred (s.parcel 0) (kindOf 2 1) = true) :=
  ⟨⟨chunk_ready _ _ _ _ (.inl rfl) rfl (by decide), chunk_fails _ _ (.inl rfl)⟩,
   ⟨chunk_ready _ _ _ _ (.inl rfl) rfl (by decide), chunk_passes _ _ (.inl rfl) (by decide +kernel)⟩,
   by decide +kernel,
   ⟨chunk_ready _ _ _ _ (.inr rfl) (by decide +kernel) (by decide), chunk_passes _ _ (.inr rfl) (by decide +kernel),
    by decide +kernel⟩,
   by decide +kernel⟩

/-- The bytes of the chunk have a place that takes them, in each case: all of the chunk, and the part of it that moves. -/
theorem witness_DeliveriesRun_part :
    PartFits (delivering (kindOf 0 1)) 0 (kindOf 0 1) (chunkOf 64 (dueTag (kindOf 0 1) 64)) (List.replicate 64 7) ∧
    PartFits (delivering paced) 0 paced (chunkOf 128 (dueTag paced 128)) (List.replicate 128 7) :=
  ⟨part_fits _ _ _ (.inl rfl) (by decide +kernel),
   part_fits _ _ _ (.inr rfl) (by decide +kernel)⟩

/-- An export of the first 2 MiB of the parcel. -/
def exportReq : ExportRequest :=
  { dkPublic := 1, nonce := 2, serial := 3, parcel := 0, bundleId := 4, address := 0x10000, regions := [(0, 0x200000)] }

theorem witness_ExportsAndTamper :
    (let s := present (withParcel { par with ctl := { par.ctl with job := .preempted } })
     MayExport s 0 exportReq ∧ Answers s (.tenant 0) 0x8010) ∧
    (let s := secPar { ParcelSec.init with exporting := some ⟨exportReq, 9, 0, 0, 0x100000⟩ }
     (s.parcel 0).sec.exporting = some ⟨exportReq, 9, 0, 0, 0x100000⟩ ∧ hostOpen s 0 = true ∧
       exportReq.regions[0]? = some (0, 0x200000) ∧ rangeCut s 0 0x100000 (min 0x100000 (0x200000 - 0x100000)) = none) ∧
    ([TamperSource.meshOpen] ≠ [] ∧ base.supply.v3p3 = true ∧ isReleased base = true ∧ base.supply.v48 = true) := by
  decide +kernel

def sessionState (established : Bool) : State :=
  { base with cart := { base.cart with sessions := [⟨1, 3, established, 5⟩], nextSession := 2 } }

theorem witness_SpdmRequestsAreAnswered :
    spdmOpen base 3 = true ∧ spdmOpen (present base) 32 = true ∧ (chainOf base 0).isSome = true ∧ (chainOf base 1).isSome = true ∧
    (blocksFor base 3 none none).isEmpty = false ∧ (blocksFor base 3 (some 0) (some 0x10)).isEmpty = false ∧
    (let s := { base with cart := { base.cart with held := [⟨32, 1, .errorInvalid⟩] } }
     s.cart.held[0]? = some ⟨32, 1, .errorInvalid⟩ ∧ mailboxOf 32 = some 0) ∧
    (let s := { base with cart := { base.cart with held := [⟨32, 8, .errorInvalid⟩, ⟨3, 1, .finishRsp 1⟩] } }
     s.cart.held[1]? = some ⟨3, 1, .finishRsp 1⟩ ∧ ∀ x, x ∈ s.cart.held.take 1 → 1 < x.latencyMs) := by decide +kernel

theorem witness_SessionsInterfacesAndStreams :
    (spdmOpen base 3 = true ∧ sessionsFull base 3 = false) ∧
    (let s := { base with cart := { base.cart with sessions := (List.range 8).map fun i => ⟨i, 3, true, 5⟩ } }
     spdmOpen s 3 = true ∧ sessionsFull s 3 = true) ∧
    (findSession (sessionState false) 3 1 = some ⟨1, 3, false, 5⟩) ∧
    (findSession (sessionState true) 3 1 = some ⟨1, 3, true, 5⟩ ∧ spdmOpen (sessionState true) 3 = true ∧
      tdispReach 3 0 = true ∧ mailboxOf 3 = none) ∧
    (let s := secPar { ParcelSec.init with ideSecure := true }
     spdmOpen s 32 = true ∧ tdispReach 32 0 = true ∧ (s.parcel 0).ctl.mode = .sealed ∧ (s.parcel 0).sec.ideSecure = true ∧
       (s.parcel 0).sec.tdi = .unlocked) := by decide +kernel

/-! ### Witnesses: resets, boot, functions and clocks -/

def powered : State := { State.reset with supply := { Supply.init with v48 := true, converters := true } }
def signedImage : FwImage := { content := 1, signed := true, secVersion := 0 }

theorem witness_ResetsAndSupplies :
    ({ State.reset with supply := { Supply.init with v3p3 := false, resetLow := true, flashLow := true } } : State).supply.v3p3 = false ∧
    (State.reset.supply.v48 = false ∧ State.reset.supply.v3p3 = true ∧ State.reset.supply.thermTrip = false) ∧
    powered.supply.v48 = true ∧ (30000 ≤ 30000 ∧ 2000 ≤ 2000) ∧ 1000 ≤ 1000 ∧
    ({ powered with supply := { powered.supply with resetLow := true } } : State).supply.resetLow = true ∧
    Answers base .operator 0x2000 := by
  decide +kernel

/-- R460: a dip to 30 V for 2 ms is ridden through; one microsecond longer is a loss of supply. -/
theorem test_v48_dip :
    exec (.v48Dip 30000 2000) powered = .next powered ∧
    (match exec (.v48Dip 30000 2001) powered with | .next s' => s'.supply.v48 | _ => true) = false := by
  exact ⟨rfl, by decide +kernel⟩

theorem witness_BootReleasesOrQuarantines :
    (MayBoot powered ∧ bootFailure powered [1, 2, 3, 4] = none) ∧
    (let s := { powered with cart := { Cartouche.init with active := [(4, { signedImage with signed := false })] } }
     MayBoot s ∧ bootFailure s [1, 2, 3, 4] = some (4, 2)) ∧
    (let s := { powered with cart := { Cartouche.init with active := [(1, signedImage)], securityVersion := 1 } }
     MayBoot s ∧ bootFailure s [1, 2, 3, 4] = some (1, 3)) ∧
    ¬ MayBoot State.reset ∧
    (let s := { powered with
       cart := { Cartouche.init with stage := 5 }
       channels := [(383, { Channel.init with training := false })]
       lamps := [(3, { Lamp.init with present := true, control := 1 })] }
     MayRelease s ∧ (lamp s 3).present = true ∧ (lamp s 3).control = 1) := by
  repeat' apply And.intro
  all_goals decide +kernel

theorem witness_FunctionsAndStreams :
    (base.supply.converters = true ∧ base.supply.inReset = false ∧ isReleased base = true ∧ isReleased powered = false) ∧
    (vfun (present base) 0).present = true ∧ jobLive ((present base).parcel 0) = true ∧
    (base.parcel 0).sec.tdi ≠ .locked ∧ ((secPar { ParcelSec.init with tdi := .run }).parcel 0).sec.tdi = .run := by
  decide +kernel

/-- `base` with domain `n` as `D`, both references alive. -/
def withDomain (n : Nat) (D : Domain) : State :=
  { base with clocks := { Clocks.init with refA := .alive, refB := .alive, domains := [(n, D)] } }
def running : Domain := { Domain.init with state := 1, locked := true }

theorem witness_ReferencesFailAndReturn :
    (let s := withDomain 0x3F running
     refMode s 0 ≠ .dead ∧ isOpt 0x3F = true ∧ (domain s 0x3F).ref = 0 ∧ Settled (domain s 0x3F) ∧ refMode s 1 = .alive) ∧
    (let s := { base with clocks := { Clocks.init with refA := .alive, refB := .dead } }
     refMode s (2 - 1) = .dead ∧ Answers s .operator 0x2000) ∧
    (let s := withDomain 0x1F running
     domainExists 0x1F = true ∧ hasPll 0x1F = true ∧ (domain s 0x1F).coasting = false ∧ Settled (domain s 0x1F)) := by
  decide +kernel

theorem witness_ClockSwitches :
    (SwitchAccepted (withDomain 2 running) 2 1 ∧ Answers (withDomain 2 running) .operator 0x2102) ∧
    (let s := withDomain 0x2B { running with state := 2, target := 1 }
     domainExists 0x2B = true ∧ (domain s 0x2B).state = 2 ∧ refMode s (domain s 0x2B).ref ≠ .dead ∧
       refMode s (domain s 0x2B).target ≠ .dead) ∧
    (domainExists 0x11 = true ∧ isSect 0x11 = true ∧ domainParcels base 0x11 = [] ∧ Answers base .operator 0x2111) ∧
    (domain (withDomain 0x10 { running with state := 4 }) 0x10).state = 4 ∧
    (let s := withDomain 4 { running with disconnected := true }
     domainExists 4 = true ∧ (domain s 4).disconnected = true ∧ (domain s 4).state = 1) ∧
    (domainExists 0x2C = false ∧ domainExists 5 = false ∧ domainExists 0x0F = false ∧ domainExists 0x2F = false) := by
  decide +kernel

theorem witness_SpreadSpectrumAndGates :
    (6 * 16 + 10 < 2 ^ 16 ∧ Answers noParcel .operator 0x2000 ∧
      (List.range 16).all (fun p => (noParcel.parcel p).ctl.mode ≠ .sealed) = true) ∧
    (Answers base .operator 0x2000 ∧ (List.range 16).all (fun p => (base.parcel p).ctl.mode ≠ .sealed) = false) ∧
    (domainExists 0x1F = true ∧ Answers base .operator 0x211F ∧ gateStopResult base 0x1F (.tile 31) = 0) ∧
    gateStopResult base 0x10 (.tile 0) = 2 ∧
    (Answers (withDomain 0x1F { running with stewardGate := true }) .operator 0x211F ∧
      gateStartResult (withDomain 0x1F { running with stewardGate := true }) 0x1F .steward = 0) ∧
    gateStartResult base 0x1F .steward = 4 := by decide +kernel

/-! ### Witnesses: links, remote operations and sensors -/

/-- `base` with port `q` as `P`, and the lamps LIT. -/
def withPort (q : Nat) (P : Port) : State :=
  { base with ports := [(q, P)], lamps := (List.range 4).map fun m => (m, { Lamp.init with mode := .lit }) }
def activePort : Port := { Port.init with mode := .active, wide := true, owner := 0 }
/-- The peer's flit with the sequence number `n` and one RSIGNAL record. -/
def signalBody : List Byte := bytesOfNat (fields [(0, 3), (16, 5), (112, 1)]) 256
def flitFrom (kind n : Nat) (body : List Byte) : BitVec 128 := flitHeader Port.init kind n 0 0 body

/-- The header that a port with nothing received sends: its fields, and the CRC of them and the body. -/
theorem flitFrom_header (kind n : Nat) (body : List Byte) (hk : kind < 256) :
    ∃ c, (flitFrom kind n body).toNat = kind + n % 4096 * 2 ^ 8 + 4095 * 2 ^ 20 + c * 2 ^ 96 ∧
      FlitStands (flitFrom kind n body) body := by
  obtain ⟨low, hlow, hl⟩ : ∃ low, low = kind + n % 4096 * 2 ^ 8 + 4095 * 2 ^ 20 ∧ low < 2 ^ 96 := ⟨_, rfl, by omega⟩
  obtain ⟨c, hc, hb⟩ : ∃ c, (flitCrc (BitVec.ofNat 128 low) body).toNat = c ∧ c < 2 ^ 32 := ⟨_, rfl, BitVec.isLt _⟩
  have hform : flitFrom kind n body = BitVec.ofNat 128 (low + c * 2 ^ 96) := by rw [← hc, hlow]; rfl
  have h1 : (BitVec.ofNat 128 low).toNat = low := by rw [BitVec.toNat_ofNat]; exact Nat.mod_eq_of_lt (by omega)
  have h2 : (BitVec.ofNat 128 (low + c * 2 ^ 96)).toNat = low + c * 2 ^ 96 := by
    rw [BitVec.toNat_ofNat]; exact Nat.mod_eq_of_lt (by omega)
  refine ⟨c, by rw [hform, h2, hlow], ?_⟩
  rw [FlitStands, flitCrc, fld, Nat.shiftRight_eq_div_pow]
  rw [flitCrc, h1] at hc
  rw [hform, h2, Nat.add_mul_mod_self_right, hc]
  omega

theorem flitFrom_fields (kind n : Nat) (body : List Byte) (hk : kind < 256) :
    fld (flitFrom kind n body).toNat 8 12 = n % 4096 ∧ bitAt (flitFrom kind n body).toNat 50 = false := by
  obtain ⟨c, h, -⟩ := flitFrom_header kind n body hk
  rw [bitAt, fld, fld, Nat.shiftRight_eq_div_pow, Nat.shiftRight_eq_div_pow, h]
  exact ⟨by omega, by simp only [decide_eq_false_iff_not]; omega⟩

theorem witness_FlitsArrive :
    (QuietPort (withPort 15 activePort) 15 (flitFrom 0 0 []) ∧ FlitStands (flitFrom 0 0 []) []) ∧
    (QuietPort (withPort 0 activePort) 0 (flitFrom 2 0 signalBody) ∧ FlitStands (flitFrom 2 0 signalBody) signalBody ∧
      fld (flitFrom 2 0 signalBody).toNat 8 12 = (port (withPort 0 activePort) 0).rxSeq ∧
      (recordsOf signalBody).all (fun r => fld r.toNat 0 4 = 3) = true) ∧
    (QuietPort (withPort 0 activePort) 0 (flitFrom 2 4095 signalBody) ∧ FlitStands (flitFrom 2 4095 signalBody) signalBody ∧
      fld (flitFrom 2 4095 signalBody).toNat 8 12 ≠ (port (withPort 0 activePort) 0).rxSeq) ∧
    (port (withPort 3 { Port.init with mode := .identify }) 3).mode = .identify ∧
    FlitStands (flitFrom 3 0 []) [] ∧ (port State.reset 15).mode = .dark := by
  have stands := fun k n b hk => (flitFrom_header k n b hk).elim fun _ h => h.2
  have quiet := fun k n b hk => (flitFrom_fields k n b hk).2
  have seq := fun k n b hk => (flitFrom_fields k n b hk).1
  refine ⟨⟨⟨by decide, by decide, quiet _ _ _ (by decide)⟩, stands _ _ _ (by decide)⟩,
    ⟨⟨by decide, by decide, quiet _ _ _ (by decide)⟩, stands _ _ _ (by decide), ?_, by decide +kernel⟩,
    ⟨⟨by decide, by decide, quiet _ _ _ (by decide)⟩, stands _ _ _ (by decide), ?_⟩, by decide,
    stands _ _ _ (by decide), by decide⟩
  · rw [seq _ _ _ (by decide)]; decide
  · rw [seq _ _ _ (by decide)]; decide

theorem witness_PortsAndLamps :
    (laneUsed activePort 7 = true ∧ laneUsed { activePort with wide := false } 7 = false ∧
      laneUsed { activePort with wide := false, half := true } 7 = true) ∧
    (port (withPort 2 { Port.init with mode := .training }) 2).mode = .training ∧
    (let s := withPort 2 { Port.init with mode := .down }
     (port s 2).mode = .down ∧ lampLit s 2 = true ∧ (lamp s (lampOf 2)).mode ≠ .service) ∧
    (let s := withPort 5 { activePort with burstDue := true }
     (port s 5).mode = .active ∧ (port s 5).txWait = [] ∧ (port s 5).burstDue = true ∧ s.now % 64 = 5) ∧
    (let s := withPort 4 { Port.init with mode := .waitLight, lit := 0x7F }
     (port s 4).mode = .waitLight ∧ (lamp s (lampOf 4)).darkUw.toNat ≤ 50) ∧
    ((definedPar.parcel 0).ctl.mode = .defined ∧ (port definedPar 15).owner = 0xFE ∧ Answers definedPar .operator 0x601F) ∧
    Answers definedPar .operator 0x6023 := by decide +kernel

/-- Parcel 0 at position 0 of two, with position 1 behind ports 1 and 2. -/
def member : Remote :=
  { Remote.init with size := 2, position := 0, table := BitVec.ofNat 8192 (fields [(128, 77), (200, 6)]) }
/-- The list entry of an RPUT of 64 bytes at 0 to address 0x40 of position 1. -/
def rputEntry : RemoteOp := ⟨BitVec.ofNat 512 (fields [(0, 0), (40, 0x40), (80, 64), (296, 1)]), 0⟩
def linked (R : Remote) (P : Port) : State :=
  { base with parcels := [(0, { par with remote := R })], ports := [(1, P), (2, activePort)] }
def fromPeer (x : RxOp) : State := linked member { activePort with peerSerial := 77, rxOps := [x] }
def drained (s : State) : State := modPort s 1 fun P => { P with rxOps := [] }
/-- A response with status OK to tag 9. -/
def good9 : RxOp := ⟨responseRecord 9 0 0, []⟩

/-- The bytes that a steward's read gives. -/
def readBytes (s : State) (p a n : Nat) (volatile : Bool) : Option (List Byte) :=
  match (stewardRead s p 6 a n volatile).2 with | .ok bs => some bs | .error _ => none

theorem read_of_readBytes {s : State} {p a n : Nat} {v : Bool} {bs : List Byte} (h : readBytes s p a n v = some bs) :
    stewardRead s p 6 a n v = ((stewardRead s p 6 a n v).1, .ok bs) := by
  simp only [readBytes] at h
  split at h
  · next b hb => cases h; exact Prod.ext rfl hb
  · cases h

/-- A state in which the RPUT may go. -/
def sending : State := linked { member with queue := [rputEntry], lastPort := [(1, 1)] } activePort

theorem witness_RemoteOperationsGoAndReturn :
    (∃ s1, SendsOn sending 0 2 rputEntry s1 (List.replicate 64 0)) ∧
    (let s := linked { member with size := 1, queue := [rputEntry] } activePort
     (s.parcel 0).remote.queue.find? (sendable (s.parcel 0).remote) = some rputEntry ∧ entryOk s 0 rputEntry.entry.toNat = false) ∧
    (let s := linked { member with out := [⟨rputEntry, 1, 9⟩] } { activePort with rxOps := [good9] }
     Responds s 1 0 good9 ⟨rputEntry, 1, 9⟩ (drained s)) := by
  refine ⟨⟨(stewardRead (unqueued sending 0 rputEntry) 0 6 0 64 false).1, by decide +kernel, by decide +kernel, by decide +kernel, ?_⟩, ?_, ?_⟩
  · have h0 : opCode rputEntry.entry.toNat = 0 := by decide +kernel
    have h1 : opLocal rputEntry.entry.toNat = 0 := by decide +kernel
    have h2 : opLen rputEntry.entry.toNat = 64 := by decide +kernel
    rw [if_pos h0, h1, h2]
    exact read_of_readBytes (by decide +kernel)
  all_goals dsimp only
  all_goals repeat' apply And.intro
  all_goals decide +kernel

def request (fs : List (Nat × Nat)) (data : List Byte) : RxOp := ⟨BitVec.ofNat 256 (fields fs), data⟩
def rputX : RxOp := request [(0, 0), (40, 0x40), (80, 64)] (List.replicate 64 5)
def rgetX : RxOp := request [(0, 1), (40, 0x40), (80, 64)] []
def addX : RxOp := request [(0, 2), (6, 0), (10, 1), (40, 0x40), (112, 3)] []
def signalX : RxOp := request [(0, 3), (40, 63), (112, 2)] []
def beyondX : RxOp := request [(0, 0), (40, 24 * 0x60000000), (80, 64)] (List.replicate 64 5)

theorem witness_RemoteRequestsAreServed :
    (Serves (fromPeer rputX) 1 0 opLen 0 rputX (drained (fromPeer rputX)) ∧
      (stewardWrite (drained (fromPeer rputX)) 0 6 0x40 rputX.data).2 = none) ∧
    (Serves (fromPeer rgetX) 1 1 opLen 0 rgetX (drained (fromPeer rgetX)) ∧
      readBytes ((drained (fromPeer rgetX)).count (some 0) 0x16 1) 0 0x40 64 true = some (List.replicate 64 0)) ∧
    (Serves (fromPeer addX) 1 2 opSize 0 addX (drained (fromPeer addX)) ∧
      (drained (fromPeer addX)).stackPlace 0 (opRemote addX.record.toNat) = some (0, 0x40) ∧
      atomicSizeOk (fld addX.record.toNat 6 4) (opSize addX.record.toNat) = true ∧ 0x40 % opSize addX.record.toNat = 0 ∧
      granuleErr (atStewardTurn ((drained (fromPeer addX)).count (some 0) 0x16 1) 0) (stackKey 0 0x40 / 64) ≠ 2) ∧
    Serves (fromPeer signalX) 1 3 (fun _ => 0) 0 signalX (drained (fromPeer signalX)) ∧
    (takeRx (fromPeer beyondX) 1 0 = some (beyondX, drained (fromPeer beyondX)) ∧ recordOk beyondX.record.toNat = true ∧
      portParcel (port (drained (fromPeer beyondX)) 1) = some 0 ∧
      Machine.refusal (drained (fromPeer beyondX)) 0 1 (opRemote beyondX.record.toNat) (opLen beyondX.record.toNat) = some 2) := by
  refine ⟨⟨⟨?_, ?_, ?_, ?_, ?_⟩, ?_⟩, ⟨⟨?_, ?_, ?_, ?_, ?_⟩, ?_⟩, ⟨⟨?_, ?_, ?_, ?_, ?_⟩, ?_, ?_, ?_, ?_⟩, ⟨?_, ?_, ?_, ?_, ?_⟩,
    ?_, ?_, ?_, ?_⟩
  all_goals decide +kernel

def withSensor (i : Nat) (S : Sensor) : State := { base with sensors := [(i, S)] }

theorem witness_SensorsConvert :
    (faultKind Sensor.init (.value 839) = 0 ∧ 839 < rungEntry 0 6 ∧ rungEntry 0 6 ≤ 840) ∧
    (faultKind Sensor.init (.value (-160)) = 0 ∧ faultKind Sensor.init (.value (-161)) = 3 ∧
      faultKind Sensor.init (.value 1200) = 0 ∧ faultKind Sensor.init (.value 1201) = 3 ∧
      faultKind { Sensor.init with converted := true } (.value 200) = 0 ∧
      faultKind { Sensor.init with converted := true } (.value 201) = 3) ∧
    (governing 39 = true ∧ governing 40 = false ∧ base.supply.thermTrip = false) ∧
    ((sensor (withSensor 63 { Sensor.init with mode := 2, clean := 64 }) 63).mode = 2 ∧
      Answers (withSensor 63 { Sensor.init with mode := 2, clean := 64 }) .operator 0x247F) ∧
    Answers base .operator (0x2440 + 39) := by decide +kernel

/-! ### Witnesses: the Legend, mailboxes, management and the whole block -/

/-- Whether an access is decided with this status. -/
def refusedWith (x : Except Status (Principal × Fam × Row)) (st : Status) : Bool :=
  match x with | .error e => e = st | .ok _ => false
/-- Whether an object is found, slow or not, of fixed size or not. -/
def found (x : Except Status (Principal × Fam × Row)) (slow sized : Bool) : Bool :=
  match x with | .error _ => false | .ok (_, _, r) => r.slow = slow && decide (r.ty.size ≠ 0) = sized

def slowRead (ticket : Nat) (result : Option (Status × Nat × List Byte)) : SlowReq :=
  { ticket := ticket, who := .operator, reqId := 0, index := 0x1000, sub := 1, op := .read 0 0, result := result }
def withSlow (l : List SlowReq) : State := { base with legend := { base.legend with slow := [(1, l)] } }

/-- The clauses in order: a fast object of fixed size, an object turned away, a slow one, a write of each kind, the three
answers to POLL, and a waiting request; 15 and 16 of them outstanding. -/
theorem witness_LegendRequestsAreAnswered :
    (Takes base 1 .operator ∧ Takes base 2 .operator) ∧
    found (findObject base 1 .operator 0x3000 0x02 false) false true = true ∧
    refusedWith (findObject base 1 .operator 0x3000 0xFF false) .absent = true ∧
    found (findObject base 1 .operator 0x1000 0x02 false) true false = true ∧
    found (findObject base 1 .operator 0x3060 0x03 true) false true = true ∧
    refusedWith (findObject base 1 .operator 0x3000 0x02 true) .access = true ∧
    ((slowOf (withSlow [slowRead 7 none]) 1).find? (fun x => x.ticket = 8) = none ∧
      (slowOf (withSlow [slowRead 7 none]) 1).find? (fun x => x.ticket = 7) = some (slowRead 7 none) ∧
      nextSlow (slowOf (withSlow [slowRead 6 (some (.ok, 0, [])), slowRead 7 none]) 1) = some (slowRead 7 none) ∧
      isReleased (withSlow [slowRead 7 none]) = true) ∧
    (16 ≤ (slowOf (withSlow ((List.range 16).map fun i => slowRead (i + 1) none)) 1).length) := by decide +kernel

/-- A mailbox as `B`. -/
def withMailbox (B : Mailbox) : State :=
  { present base with vfs := [(0, { VFun.init with present := true, d0 := true, mailbox := B })] }
/-- A factory token sound but for its serial, which is the module's own. -/
def token : FactoryToken := { serial := Config.moduleSerial, epoch := 0, expiry := 6, signed := true }

theorem witness_MailboxesRegistersAndBus :
    functionOpen (present base) 1 true = true ∧ (mailbox (withMailbox { Mailbox.init with busy := true }) 0).busy = true ∧
    (mailbox (withMailbox { Mailbox.init with ready := true }) 0).ready = true ∧
    ((mailbox (present base) 0).busy = false ∧
      (let s := withMailbox { Mailbox.init with busy := true, ready := true, request := [(0, 0x85)] }
       functionOpen s 1 true = true ∧ messageType s 0 = 0x05)) ∧
    (functionThere (present base) 1 = true ∧ functionThere (present base) 0 = true ∧
      (let s := secPar { ParcelSec.init with tdi := .error }
       functionThere s 1 = true ∧ functionOpen s 1 true = false)) ∧
    messageType (withMailbox { Mailbox.init with request := [(0, 0x7E)] }) 0 = 0x7E ∧
    messageType (withMailbox { Mailbox.init with request := [(0, 0x85)] }) 0 = 0x05 ∧
    messageType (withMailbox { Mailbox.init with request := [(0, 0x01)] }) 0 = 0x01 ∧
    (legendOpen base 2 = true ∧ token.signed = true ∧ token.epoch = base.cart.aliasEpoch ∧ base.now < token.expiry) ∧
    (base.supply.v3p3 = true ∧ base.supply.inReset = false ∧ base.legend.i3cAddress = 0 ∧
      ({ base with legend := { base.legend with i3cAddress := 127 } } : State).legend.i3cAddress ≠ 0) := by
  refine ⟨by decide +kernel, by decide +kernel, by decide +kernel, by decide +kernel, by decide +kernel, by decide +kernel,
    by decide +kernel, by decide +kernel, ⟨by decide +kernel, rfl, rfl, by decide +kernel⟩, by decide +kernel⟩

theorem witness_ManagementAnswers :
    bindingOpen base 1 = true ∧ bindingOpen base 2 = true ∧ pldmSensors.length = 75 ∧ pldmSensors[74]? = some 83 := by
  decide +kernel

def updating (u : Update) : State := { base with legend := { base.legend with update := u } }

theorem witness_FirmwareUpdates :
    (bindingOpen (updating Update.init) 1 = true ∧ (updating Update.init).legend.update.mode = .idle) ∧
    (let s := updating { Update.init with mode := .readyXfer, transport := 1, applied := [4] }
     s.legend.update.mode = .readyXfer ∧ s.legend.update.applied ≠ [] ∧ allFree s = false ∧
       allFree { s with parcels := [] } = true) ∧
    (let s := updating { Update.init with mode := .download, transport := 1, size := 1500, got := 1024, maxTransfer := 4096 }
     s.legend.update.mode = .download ∧ s.legend.update.transport = 1 ∧ s.legend.update.got < s.legend.update.size) ∧
    (let s := updating { Update.init with mode := .verify, transport := 1 }
     s.legend.update.image.signed = true ∧ s.cart.securityVersion ≤ s.legend.update.image.secVersion) ∧
    (let s := { base with cart := { base.cart with
        bootedActivated := true
        booted := [(1, { signedImage with secVersion := 64 }), (2, { signedImage with secVersion := 64 }),
          (3, { signedImage with secVersion := 64 }), (4, { signedImage with secVersion := 64 })] } }
     s.legend.update.mode = .idle ∧ s.cart.bootedActivated = true ∧ s.cart.securityVersion < lowestBooted s ∧
       lowestBooted s ≤ 64) := by decide +kernel

theorem levels_reset (depth : Nat) : Levels depth [] := fun _ => Nat.zero_le _

theorem reset_kept : Kept State.reset := by
  unfold Kept
  refine ⟨?_, ?_, ?_, ?_, ?_, ?_, ?_, ?_, ?_, ?_, ?_, ?_, levels_reset _, levels_reset _, levels_reset _⟩
  all_goals decide

theorem noParcel_kept : Kept noParcel := reset_kept

/-- The invariant's premises meet: a state that keeps it, with a command that steps to another. -/
theorem witness_StepKeepsTheInvariant :
    Kept { noParcel with pending := [.intervalSteps .operator 32] } ∧
    (match step { noParcel with pending := [.intervalSteps .operator 32] } with
      | .next s' => decide (s'.mer.pendingSteps = some 32)
      | _ => false) = true := ⟨noParcel_kept, by decide +kernel⟩

theorem witness_StepRunsTheFrontCommand : State.reset.pending = [] := rfl

/-- The values of 2.4 and Tables 12.4, 14.6, 17.10 at reset, and a byte of memory. -/
theorem witness_ResetHoldsTheDefaults :
    State.reset.mer.steps = 8 ∧ State.reset.log.depth = 16 ∧ State.reset.thermal.powerLimit = 2200 ∧
    Mem.read State.reset.stack 0x5FFFFFFF = 0 := by decide +kernel

/-- A vector tile has engines 0 to 3, and the part no domain 5 (Tables 5.1 and 16.2). -/
theorem witness_EveryCommandHasAnEffect :
    namesAbsent (.tileNop 16 4 0) = true ∧ namesAbsent (.tileNop 16 3 0) = false ∧ namesAbsent (.tileNop 15 4 0) = false ∧
    namesAbsent (.pllCoast 5) = true ∧ namesAbsent (.pllCoast 4) = false ∧ namesAbsent .privateRead = false := by
  decide +kernel

/-! ### Well-formedness: each check refuses a term that breaks it alone -/

theorem test_wellFormed_refuses :
    [Instr.clearEnqueue 0 24576, .tileNop 16 4 0, .segmentTurn 0 0 [(0, 74)], .segmentTurn 0 0 [(32, 0)], .atomicAdd 0 0 9 0,
      .atomicAdd 0 (2 ^ 48) 4 0, .retireTile .operator 0 (2 ^ 32), .trainingComplete 0 [74] false 0 0 0,
      .exportAuth .operator 0 { exportReq with parcel := 16 },
      .tamperEvent [] false, .getVersion 0, .getTid 3, .challenge 1 8 0, .configRequest 17 0, .configRequest 0 1024,
      .pllCoast 5, .refSel .operator 0x2C 0, .refSel .operator 0x10 (2 ^ 32), .gateStop .operator 0x10 (.tile 32),
      .idleFlit 0 0 (List.replicate 257 0) false 0, .read 3 0 0 0 0 0, .write 48 0 0 0 0 [], .poll 1 256 0,
      .readSet 1 0 [(65536, 0)], .slowResultReady 1 65536, .registerWrite 0 0 0 0 false, .registerWrite 0 0 9 0 false,
     
      .registerWrite 17 0 4 0 false, .entdaa 128, .setEndpointId 0 8, .setEndpointId 1 256, .setTid 1 256].any
        Instr.wellFormed = false := by decide +kernel

theorem test_wellFormed_refuses_chunk :
    Instr.wellFormed (.deliveryChunk 0 none (some (List.replicate (2 ^ 20 + 1) 0)) none) = false := by
  simp only [Instr.wellFormed, List.length_replicate]; decide

theorem test_wellFormed_accepts :
    [Instr.clearEnqueue 383 24575, .tileNop 15 15 0, .segmentTurn 383 0 [(31, 73)], .atomicAdd 15 (2 ^ 48 - 1) 8 0,
      .retireTile .operator 15 31, .trainingComplete 383 [73] true 0 0 0, .exportAuth .operator 0 exportReq, .getVersion 3,
      .getTid 2, .challenge 47 7 0, .configRequest 16 1023, .pllCoast 0x2B, .refSel .operator 0x3F 1,
      .gateStop .operator 0x10 (.tile 31), .read 47 255 0xFFFF 0xFF 0 4064, .registerWrite 16 0x3FF8 8 (2 ^ 64 - 1) true, .registerWrite 0 2 4 0 false,
      .entdaa 127, .setTid 1 255].all Instr.wellFormed = true := by decide +kernel

end Sys2Proof.Tests
end

section
/-! PROOFS. The family of 04_array_tiles.md: WLOAD, STREAM and the work in flight of a leg. -/

namespace Sys2Proof.Proofs.ArrayTiles

open Sys2Proof Sys2Proof.Machine Sys2Proof.Claims

/-! ### What each operation of a piece of work leaves of a tile and of a parcel -/

theorem tile_congr {s s' : State} (h : s'.tiles = s.tiles) (i : Nat) : s'.tile i = s.tile i := by
  simp [State.tile, h]

theorem parcel_congr {s s' : State} (h : s'.parcels = s.parcels) (q : Nat) : s'.parcel q = s.parcel q := by
  simp [State.parcel, h]

section frames

variable (s : State)

@[simp] theorem tile_modParcel (p : Nat) (f : Parcel → Parcel) (i : Nat) : (s.modParcel p f).tile i = s.tile i := rfl
@[simp] theorem tile_flyAll (p : Nat) (fs : List Flight) (i : Nat) : (s.flyAll p fs).tile i = s.tile i := rfl
@[simp] theorem tile_readScratch (p t a n i : Nat) : (s.readScratch p t a n).tile i = s.tile i :=
  tile_congr (State.readScratch_tiles _ _ _ _ _) i
@[simp] theorem tile_readAcc (p t a n i : Nat) : (s.readAcc p t a n).tile i = s.tile i :=
  tile_congr (State.readAcc_tiles _ _ _ _ _) i
@[simp] theorem tile_count (p : Option Nat) (k n i : Nat) : (s.count p k n).tile i = s.tile i :=
  tile_congr (State.count_tiles _ _ _ _) i
theorem tile_withFresh (n i : Nat) : State.tile { s with fresh := n } i = s.tile i := rfl
theorem parcel_withFresh (n q : Nat) : State.parcel { s with fresh := n } q = s.parcel q := rfl

@[simp] theorem parcel_modTile (t : Nat) (f : Tile → Tile) (q : Nat) : (s.modTile t f).parcel q = s.parcel q := rfl
@[simp] theorem parcel_setEngine (t e : Nat) (E : Engine) (q : Nat) : (s.setEngine t e E).parcel q = s.parcel q := rfl
@[simp] theorem parcel_readScratch (p t a n q : Nat) : (s.readScratch p t a n).parcel q = s.parcel q :=
  parcel_congr (State.readScratch_parcels _ _ _ _ _) q
@[simp] theorem parcel_readAcc (p t a n q : Nat) : (s.readAcc p t a n).parcel q = s.parcel q :=
  parcel_congr (State.readAcc_parcels _ _ _ _ _) q
@[simp] theorem parcel_tileFlags (t e : Nat) (f : FFlags) (q : Nat) : (s.tileFlags t e f).parcel q = s.parcel q :=
  parcel_congr (State.tileFlags_parcels _ _ _ _) q
@[simp] theorem parcel_logCycle (y a b i : Nat) (p : Option Nat) (d e q : Nat) :
    (s.logCycle y a b i p d e).parcel q = s.parcel q := parcel_congr (State.logCycle_parcels _ _ _ _ _ _ _ _) q

/-- Raising flags changes the tile's FORMAT_STATUS alone. -/
theorem tile_tileFlags (t e : Nat) (f : FFlags) (i : Nat) :
    (s.tileFlags t e f).tile i = { s.tile i with formatStatus := ((s.tileFlags t e f).tile i).formatStatus } := by
  unfold State.tileFlags
  split
  · rfl
  · by_cases h : i = t
    · subst h; simp
    · rw [State.tile_modTile_ne _ _ h]

theorem tile_tileFlags_ne {t i : Nat} (e : Nat) (f : FFlags) (h : i ≠ t) : (s.tileFlags t e f).tile i = s.tile i := by
  unfold State.tileFlags
  split
  · rfl
  · exact State.tile_modTile_ne _ _ h

@[simp] theorem scratch_tileFlags (t e : Nat) (f : FFlags) (i : Nat) :
    ((s.tileFlags t e f).tile i).scratch = (s.tile i).scratch := by rw [tile_tileFlags]
@[simp] theorem scratchErr_tileFlags (t e : Nat) (f : FFlags) (i : Nat) :
    ((s.tileFlags t e f).tile i).scratchErr = (s.tile i).scratchErr := by rw [tile_tileFlags]
@[simp] theorem acc_tileFlags (t e : Nat) (f : FFlags) (i : Nat) :
    ((s.tileFlags t e f).tile i).acc = (s.tile i).acc := by rw [tile_tileFlags]
@[simp] theorem plane_tileFlags (t e : Nat) (f : FFlags) (i k : Nat) :
    plane ((s.tileFlags t e f).tile i) k = plane (s.tile i) k := by rw [tile_tileFlags]; rfl

end frames

/-! ### The order of the work in flight -/

/-- Work that nothing in flight happens after goes last. -/
theorem placeFlight_last {f : Flight} {l : List Flight} (h : ∀ g ∈ l, f.before g = false) :
    placeFlight f l = l ++ [f] := by
  induction l with
  | nil => rfl
  | cons g l ih =>
    rw [placeFlight, h g (by simp), if_neg (by simp), ih fun k hk => h k (by simp [hk])]; rfl

/-- Work placed in its own order behind the work that was there. -/
theorem foldl_placeFlight_sorted {fs l : List Flight} (hs : fs.Pairwise fun f g => g.before f = false)
    (hl : ∀ g ∈ l, ∀ f ∈ fs, f.before g = false) : fs.foldl (fun l f => placeFlight f l) l = l ++ fs := by
  induction fs generalizing l with
  | nil => simp
  | cons f fs ih =>
    obtain ⟨hf, hs⟩ := List.pairwise_cons.1 hs
    have hlast : placeFlight f l = l ++ [f] := placeFlight_last fun g hg => hl g hg f (by simp)
    rw [List.foldl_cons, hlast, ih hs, List.append_assoc]; rfl
    intro g hg k hk
    rcases List.mem_append.1 hg with hg | hg
    · exact hl g hg k (by simp [hk])
    · obtain rfl := List.mem_singleton.1 hg; exact hf k hk

/-- What flies is what flew before and the new work. -/
theorem mem_foldl_placeFlight (fs l : List Flight) (g : Flight) :
    g ∈ fs.foldl (fun l f => placeFlight f l) l ↔ g ∈ fs ∨ g ∈ l := by
  induction fs generalizing l with
  | nil => simp
  | cons f fs ih => rw [List.foldl_cons, ih, State.mem_placeFlight]; simp [or_assoc, or_left_comm]

/-! ### Settling -/

theorem work_size_pos (w : Work) : 1 ≤ w.size := by cases w <;> simp [Work.size]

/-- The pieces that settling may do are at least those in flight. -/
theorem length_le_fuel (l : List Flight) : l.length ≤ (l.map fun f => f.work.size).foldl (· + ·) 0 := by
  rw [← List.sum_eq_foldl_nat]
  simpa using List.length_le_sum_of_one_le (l.map fun f => f.work.size) fun n hn => by
    obtain ⟨f, -, rfl⟩ := List.mem_map.1 hn; exact work_size_pos _

/-- Nothing is done before its cycle. -/
theorem settleRun_later (p upto n : Nat) {s : State} (h : ∀ f ∈ (s.parcel p).flight, upto ≤ f.cyc) :
    settleRun p upto n s = s := by
  cases n with
  | zero => rfl
  | succ n =>
    rw [settleRun]
    split
    · rfl
    next f rest hf => exact if_neg (Nat.not_lt.2 (h f (by simp [hf])))

/-- The state after piece `f` is done, `rest` being left in flight. -/
abbrev workDone (s : State) (p : Nat) (f : Flight) (rest : List Flight) : State :=
  doWork (s.modParcel p fun P => { P with flight := rest }) p f.cyc f.work

theorem settleRun_succ {p upto n : Nat} {s : State} {f : Flight} {rest : List Flight}
    (hf : (s.parcel p).flight = f :: rest) (hc : f.cyc < upto) :
    settleRun p upto (n + 1) s = settleRun p upto n (workDone s p f rest) := by
  rw [settleRun]
  split
  next h => rw [h] at hf; cases hf
  next g gs h =>
    rw [h] at hf; cases hf
    exact if_pos hc

/-- Once its cycle is over, a piece that is alone in it is done, and nothing else. -/
theorem settle_nextWork {s : State} {p : Nat} {f : Flight} {rest : List Flight} (h : NextWork s p f rest)
    (hl : ∀ g ∈ ((workDone s p f rest).parcel p).flight, f.cyc < g.cyc) :
    s.settle p (f.cyc + 1) =
      (workDone s p f rest).modParcel p fun P => { P with clock := max P.clock (f.cyc + 1) } := by
  obtain ⟨n, hn⟩ : ∃ n, (((s.parcel p).flight.map fun f => f.work.size).foldl (· + ·) 0) = n + 1 := by
    have hlen := length_le_fuel (s.parcel p).flight
    rw [h.1, List.length_cons] at hlen
    exact Nat.exists_eq_add_one.2 (by rw [h.1]; omega)
  rw [State.settle, hn, settleRun_succ h.1 (Nat.lt_succ_self _), settleRun_later _ _ _ hl]

/-! ### WorkInFlightLandsInItsCycle, piece by piece -/

/-- What settling past the cycle of the next piece leaves: the tiles and units of the piece's own effect, and its parcel's
work in flight. -/
theorem settle_nextWork_fields {s : State} {p : Nat} {f : Flight} {rest : List Flight} (h : NextWork s p f rest)
    (hl : ∀ g ∈ ((workDone s p f rest).parcel p).flight, f.cyc < g.cyc) :
    ((s.settle p (f.cyc + 1)).parcel p).flight = ((workDone s p f rest).parcel p).flight ∧
    (s.settle p (f.cyc + 1)).tiles = (workDone s p f rest).tiles ∧
    ∀ u, (s.settle p (f.cyc + 1)).cunit u = (workDone s p f rest).cunit u := by
  rw [settle_nextWork h hl]
  exact ⟨by simp, rfl, fun u => rfl⟩

theorem scratchBad_eq_false {T : Tile} {a n : Nat} : TCtx.scratchBad T a n = false ↔ scratchBadAt T a n = none := by
  simp [TCtx.scratchBad]

theorem accBad_eq_false {T : Tile} {a n : Nat} : TCtx.accBad T a n = false ↔ accBadAt T a n = none := by
  simp [TCtx.accBad]

/-- Bytes in transit lie in the scratchpad they go to (R142, R180). -/
theorem scratch_lands (s : State) (p cyc rank t a : Nat) (bytes : List Byte) (rest : List Flight)
    (h : NextWork s p ⟨cyc, rank, .scratch t a bytes⟩ rest) :
    ((s.settle p (cyc + 1)).parcel p).flight = rest ∧
    ((s.settle p (cyc + 1)).tile t).scratch = Mem.writeBytes (s.tile t).scratch a bytes ∧
    ∀ i, i ≠ t → (s.settle p (cyc + 1)).tile i = s.tile i := by
  have hfl : ((workDone s p ⟨cyc, rank, .scratch t a bytes⟩ rest).parcel p).flight = rest := by
    simp [workDone, doWork, writeScratch]
  obtain ⟨h1, h2, -⟩ := settle_nextWork_fields h (by rw [hfl]; exact h.2)
  refine ⟨h1.trans hfl, ?_, fun i hi => ?_⟩
  · rw [tile_congr h2]; simp [workDone, doWork, writeScratch]
  · rw [tile_congr h2]; exact State.tile_modTile_ne _ _ hi

/-- What a descriptor's write does to the units, and that it touches nothing else (R237). -/
theorem writeUnitData_spec (s : State) (u o : Nat) (bytes : List Byte) :
    (writeUnitData s u o bytes).tiles = s.tiles ∧ (writeUnitData s u o bytes).parcels = s.parcels ∧
    ((writeUnitData s u o bytes).cunit u).data =
      (if (s.cunit u).halt = .lock then (s.cunit u).data else Mem.writeBytes (s.cunit u).data o bytes) ∧
    ∀ i, i ≠ u → (writeUnitData s u o bytes).cunit i = s.cunit i := by
  unfold writeUnitData
  split
  · exact ⟨rfl, rfl, rfl, fun _ _ => rfl⟩
  · exact ⟨rfl, rfl, by rw [State.cunit_modUnit_self], fun i hi => State.cunit_setUnit_ne _ _ hi⟩

/-- Bytes in transit lie in the unit's data SRAM, unless it is in double-fault lock (R237). -/
theorem sram_lands (s : State) (p cyc rank u o : Nat) (bytes : List Byte) (rest : List Flight)
    (h : NextWork s p ⟨cyc, rank, .sram u o bytes⟩ rest) :
    ((s.settle p (cyc + 1)).parcel p).flight = rest ∧ (s.settle p (cyc + 1)).tiles = s.tiles ∧
    ((s.settle p (cyc + 1)).cunit u).data =
      (if (s.cunit u).halt = .lock then (s.cunit u).data else Mem.writeBytes (s.cunit u).data o bytes) ∧
    ∀ i, i ≠ u → (s.settle p (cyc + 1)).cunit i = s.cunit i := by
  obtain ⟨ht, hp, hu, hne⟩ := writeUnitData_spec (s.modParcel p fun P => { P with flight := rest }) u o bytes
  have hfl : ((workDone s p ⟨cyc, rank, .sram u o bytes⟩ rest).parcel p).flight = rest :=
    (congrArg Parcel.flight (parcel_congr hp p)).trans (by simp)
  obtain ⟨h1, h2, h3⟩ := settle_nextWork_fields h (by rw [hfl]; exact h.2)
  exact ⟨h1.trans hfl, h2.trans ht, (congrArg CUnit.data (h3 u)).trans hu, fun i hi => (h3 i).trans (hne i hi)⟩

/-- The entries of a row are written or added to (R82). -/
theorem accRow_lands (s : State) (p cyc rank t m : Nat) (x : StreamOp) (int : Bool) (vals : List Word)
    (rest : List Flight) (h : NextWork s p ⟨cyc, rank, .accRow t x m int vals⟩ rest)
    (hgood : x.set = false → TCtx.accBad (s.tile t) (x.base + m * x.pitch) vals.length = false) :
    ((s.settle p (cyc + 1)).parcel p).flight = rest ∧
    ((s.settle p (cyc + 1)).tile t).acc =
      (writeRow (s.tile t).acc (x.base + m * x.pitch) int x.set x.shift vals).1 ∧
    ((s.settle p (cyc + 1)).tile t).scratch = (s.tile t).scratch ∧
    ∀ i, i ≠ t → (s.settle p (cyc + 1)).tile i = s.tile i := by
  let s₀ := s.modParcel p fun P => { P with flight := rest }
  let base := x.base + m * x.pitch
  let s₁ := if x.set then s₀ else s₀.readAcc p t base vals.length
  let row := writeRow (s.tile t).acc base int x.set x.shift vals
  have hnone : (if x.set then none else accBadAt (s₀.tile t) base vals.length) = none := by
    split
    · rfl
    next hset => exact accBad_eq_false.1 (hgood (by simpa using hset))
  have hd : workDone s p ⟨cyc, rank, .accRow t x m int vals⟩ rest =
      (s₁.modTile t fun T => { T with acc := row.1, accErr := Tab.clear T.accErr base (base + vals.length) }).tileFlags
        t 2 row.2 := by
    simp only [workDone, doWork, doAccRow]
    rw [hnone]; rfl
  have hp₁ : (s₁.parcel p).flight = rest := by
    dsimp only [s₁]; split <;> simp [s₀]
  have ht₁ : ∀ i, s₁.tile i = s.tile i := by
    intro i; dsimp only [s₁]; split <;> simp [s₀]
  have hfl : ((workDone s p ⟨cyc, rank, .accRow t x m int vals⟩ rest).parcel p).flight = rest := by
    rw [hd]; simpa using hp₁
  obtain ⟨h1, h2, -⟩ := settle_nextWork_fields h (by rw [hfl]; exact h.2)
  refine ⟨h1.trans hfl, ?_, ?_, fun i hi => ?_⟩
  · rw [tile_congr h2, hd]; simp [row, base]
  · rw [tile_congr h2, hd]; simp [ht₁]
  · rw [tile_congr h2, hd, tile_tileFlags_ne _ _ _ hi, State.tile_modTile_ne _ _ hi, ht₁]

/-- The column sums of row `m` of a STREAM (R74): each output column with the row's elements, and their scales. -/
def streamSums (T : Tile) (x : StreamOp) (m : Nat) (af wf : Fmt) : List Word :=
  let P := plane T x.plane
  let codes := rowCodes T af (x.src + m * x.stride) P.kUsed
  let scales := x.scl.map fun q => (List.range 4).map fun b => (Mem.read T.scratch (q + 4 * m + b)).toNat
  (List.range P.nUsed).map fun n =>
    if integerPath wf af P.scaled x.scl.isSome then intDot (columnInts P wf n) (rowInts af codes)
    else (floatDot (columnVals P wf n) (rowVals af codes scales)).1

theorem rowSums_map_fst (P : Plane) (int : Bool) (wf af : Fmt) (codes : List Nat) (scales : Option (List Nat)) :
    (rowSums P int wf af codes scales).map (·.1) = (List.range P.nUsed).map fun n =>
      if int then intDot (columnInts P wf n) (rowInts af codes)
      else (floatDot (columnVals P wf n) (rowVals af codes scales)).1 := by
  cases int <;> simp [rowSums]

/-- A row whose bytes are good puts its column sums in flight and leaves the tile's entries and bytes (R76, R85). -/
theorem doStreamRow_good (s : State) (p t cyc m : Nat) (x : StreamOp) (af wf : Fmt) (haf : Fmt.ofCode x.fmt = some af)
    (hwf : Fmt.ofCode (plane (s.tile t) x.plane).fmt = some wf)
    (hrow : TCtx.scratchBad (s.tile t) (x.src + m * x.stride) (streamRowBytes af (plane (s.tile t) x.plane).kUsed) = false)
    (hscl : ∀ q, x.scl = some q → TCtx.scratchBad (s.tile t) (q + 4 * m) 4 = false) :
    ∃ s₁ : State, doStreamRow s p t cyc x m = s₁.fly p ⟨cyc + 259 + slotExtra wf, 1,
        .accRow t x m (integerPath wf af (plane (s.tile t) x.plane).scaled x.scl.isSome)
          (streamSums (s.tile t) x m af wf)⟩ ∧
      s₁.parcel p = s.parcel p ∧ (s₁.tile t).acc = (s.tile t).acc ∧ (s₁.tile t).scratch = (s.tile t).scratch ∧
      ∀ i, i ≠ t → s₁.tile i = s.tile i := by
  have hint : streamInt (plane (s.tile t) x.plane) x = integerPath wf af (plane (s.tile t) x.plane).scaled x.scl.isSome := by
    simp [streamInt, haf, hwf]
  have hnone : ((x.scl.map fun q => q + 4 * m).bind fun q => scratchBadAt (s.tile t) q 4) = none := by
    cases hq : x.scl with
    | none => rfl
    | some q => exact scratchBad_eq_false.1 (hscl q hq)
  unfold doStreamRow
  dsimp only
  rw [hwf, haf, Option.getD_some, Option.getD_some, scratchBad_eq_false.1 hrow, hnone, hint]
  dsimp only
  rw [rowSums_map_fst]
  cases hq : x.scl <;>
    refine ⟨_, by simp only [streamSums, hq]; rfl, by simp, by simp, by simp, fun i hi => ?_⟩ <;>
    · rw [tile_tileFlags_ne _ _ _ hi, State.tile_modTile_ne _ _ hi]; simp

/-- A row's column sums are in flight for 259 cycles after its slot, 260 in 16-bit float mode (R76, R82, R85). -/
theorem streamRow_lands (s : State) (p cyc rank t m : Nat) (x : StreamOp) (af wf : Fmt) (rest : List Flight)
    (h : NextWork s p ⟨cyc, rank, .streamRow t x m⟩ rest) (haf : Fmt.ofCode x.fmt = some af)
    (hwf : Fmt.ofCode (plane (s.tile t) x.plane).fmt = some wf)
    (hrow : TCtx.scratchBad (s.tile t) (x.src + m * x.stride) (streamRowBytes af (plane (s.tile t) x.plane).kUsed) = false)
    (hscl : ∀ q, x.scl = some q → TCtx.scratchBad (s.tile t) (q + 4 * m) 4 = false) :
    ((s.settle p (cyc + 1)).parcel p).flight = placeFlight ⟨cyc + 259 + slotExtra wf, 1,
        .accRow t x m (integerPath wf af (plane (s.tile t) x.plane).scaled x.scl.isSome)
          (streamSums (s.tile t) x m af wf)⟩ rest ∧
    ((s.settle p (cyc + 1)).tile t).acc = (s.tile t).acc ∧
    ((s.settle p (cyc + 1)).tile t).scratch = (s.tile t).scratch ∧
    ∀ i, i ≠ t → (s.settle p (cyc + 1)).tile i = s.tile i := by
  obtain ⟨s₁, hd, hp, hacc, hscratch, hne⟩ :=
    doStreamRow_good (s.modParcel p fun P => { P with flight := rest }) p t cyc m x af wf haf hwf hrow hscl
  have hd' : workDone s p ⟨cyc, rank, .streamRow t x m⟩ rest = s₁.fly p _ := hd
  have hrest : (s₁.parcel p).flight = rest := by rw [hp]; simp
  have hfl := State.fly_flight s₁ p ⟨cyc + 259 + slotExtra wf, 1,
    .accRow t x m (integerPath wf af (plane (s.tile t) x.plane).scaled x.scl.isSome) (streamSums (s.tile t) x m af wf)⟩
  rw [hrest] at hfl
  obtain ⟨h1, h2, -⟩ := settle_nextWork_fields h (by
    intro g hg
    rw [hd'] at hg
    rcases (State.mem_placeFlight _ _ _).1 (hfl ▸ hg) with rfl | hg
    · show cyc < cyc + 259 + slotExtra wf; omega
    · exact h.2 g hg)
  rw [hd'] at h1 h2
  exact ⟨h1.trans hfl, (congrArg Tile.acc (tile_congr h2 t)).trans hacc,
    (congrArg Tile.scratch (tile_congr h2 t)).trans hscratch, fun i hi => (tile_congr h2 i).trans (hne i hi)⟩

/-! ### Rows of a DRAIN -/

theorem length_bytesOfNat (v n : Nat) : (bytesOfNat v n).length = n := by
  induction n generalizing v with
  | zero => rfl
  | succ n ih => rw [bytesOfNat, List.length_cons, ih]

theorem length_packRow (f : Fmt) (codes : List Nat) (pad : Nat) : (f.packRow codes pad).length = f.rowBytes codes.length :=
  length_bytesOfNat _ _

/-- The blocks of a list are the list, cut. -/
theorem flatten_chunks {α : Type} (k n : Nat) (xs : List α) (h : xs.length ≤ n) (hk : 0 < k) :
    (chunks k n xs).flatten = xs := by
  induction n generalizing xs with
  | zero => obtain rfl := List.length_eq_zero_iff.1 (Nat.le_zero.1 h); rfl
  | succ n ih =>
    cases xs with
    | nil => rfl
    | cons x xs =>
      rw [chunks, List.flatten_cons, ih _ (by simp only [List.length_drop]; omega), List.take_append_drop]

theorem length_convertAll (f : Fmt) (r : Rnd) (sat : Bool) (k : Int) (xs : List FVal) :
    (f.convertAll r sat k xs).1.length = xs.length := by
  induction xs with
  | nil => rfl
  | cons x xs ih => simp [Fmt.convertAll, ih]

/-- A block with a generated scale has a code for each element. -/
theorem length_genScale (f : Fmt) (r : Rnd) (xs : List FVal) : (f.genScale r xs).2.1.length = xs.length := by
  unfold Fmt.genScale
  split
  · simp
  · exact length_convertAll _ _ _ _ _

/-- A converted row has a code for each entry. -/
theorem length_drainRow (f : Fmt) (r : Rnd) (sat gen fp : Bool) (shift : Nat) (vs : List Word) :
    (drainRow f r sat gen fp shift vs).1.length = vs.length := by
  cases gen with
  | false => simp [drainRow, gather]
  | true =>
    have hcut : (blocks32 (vs.map (drainValue fp shift))).flatten.length = vs.length := by
      rw [blocks32, flatten_chunks _ _ _ le_rfl (by decide), List.length_map]
    simp only [drainRow, if_true, List.flatMap_map, List.length_flatMap, length_genScale, List.length_map]
    rw [← hcut, List.length_flatten]

/-- The pieces of a row that lands by cycle `last` land in it and the cycles before it, one in each. -/
theorem cyc_of_mem_rowPieces {width last rank t a : Nat} {bytes : List Byte} {g : Flight}
    (hg : g ∈ rowPieces width last rank t a bytes) : last + 1 ≤ g.cyc + (bytes.length + width - 1) / width := by
  obtain ⟨k, -, rfl⟩ := List.mem_map.1 hg
  dsimp only
  omega

theorem logicalTile_congr {s s' : State} (h : CtlKept s s') (p t : Nat) : s'.logicalTile p t = s.logicalTile p t := by
  simp only [State.logicalTile, State.logicalSector, State.sectorsOf, h p]

/-- What a row leaves depends on its tile, on who holds it and on the free value of its padding. -/
theorem drainLandings_congr {s s' : State} (hc : CtlKept s s') {t : Nat} (ht : s'.tile t = s.tile t)
    (hf : s'.fresh = s.fresh) (p : Nat) (x : DrainOp) (f : Fmt) (r : Rnd) (m : Nat) :
    drainLandings s' p t x f r m = drainLandings s p t x f r m := by
  simp only [drainLandings, logicalTile_congr hc, ht, hf]

/-- A row of good entries is converted, packed and put in flight, and leaves every tile's entries and bytes (R160, R161). -/
theorem doDrainRow_good (s : State) (p t cyc m : Nat) (x : DrainOp) (f : Fmt) (r : Rnd)
    (hf : Fmt.ofCode x.fmt = some f) (hr : Rnd.ofField x.rnd = some r)
    (hgood : TCtx.accBad (s.tile t) (x.base + m * x.pitch) x.cols = false) :
    ∃ s₁ : State, doDrainRow s p t cyc x m = s₁.flyAll p (drainLandings s p t x f r m) ∧
      (s₁.parcel p).flight = (s.parcel p).flight ∧
      ∀ i, (s₁.tile i).acc = (s.tile i).acc ∧ (s₁.tile i).scratch = (s.tile i).scratch := by
  have hlt : (s.readAcc p t (x.base + m * x.pitch) x.cols).logicalTile p t = s.logicalTile p t :=
    logicalTile_congr (ctlKept_readAcc _ _ _ _ _) p t
  unfold doDrainRow
  dsimp only
  rw [accBad_eq_false.1 hgood]
  simp only [hf, hr, Option.getD_some, hlt, State.readAcc_fresh, decide_eq_true_eq]
  refine ⟨_, by rfl, ?_, fun i => ?_⟩
  · split
    · rw [parcel_withFresh]; simp
    · rw [State.count_parcel, parcel_withFresh]; simp
  · split
    · rw [tile_withFresh]; simp
    · rw [tile_count, tile_withFresh]; simp

/-- Where the row fits 2,048 bytes, nothing of it lands before it is read. -/
theorem cyc_of_mem_drainLandings {s : State} {p t m cyc : Nat} {x : DrainOp} {f : Fmt} {r : Rnd} {g : Flight}
    (hc : cyc ≤ x.start + x.perRow * (m + 1)) (hb : f.rowBytes x.cols ≤ 2048) (hg : g ∈ drainLandings s p t x f r m) :
    cyc < g.cyc := by
  simp only [drainLandings, List.mem_append] at hg
  rcases hg with hg | hg
  · split at hg
    · obtain rfl := List.mem_singleton.1 hg
      dsimp only
      omega
    · have h := cyc_of_mem_rowPieces hg
      rw [length_packRow, length_drainRow, List.length_map, List.length_range] at h
      omega
  · cases hq : x.scl with
    | none => rw [hq] at hg; cases hg
    | some q =>
      rw [hq] at hg
      obtain rfl := List.mem_singleton.1 hg
      dsimp only
      split <;> omega

/-- A row of good entries is in flight to its destination once its cycle is over (R160, R161). -/
theorem drainRow_lands (s : State) (p cyc rank t m : Nat) (x : DrainOp) (f : Fmt) (r : Rnd) (rest : List Flight)
    (h : NextWork s p ⟨cyc, rank, .drainRow t x m⟩ rest) (hc : cyc ≤ x.start + x.perRow * (m + 1))
    (hf : Fmt.ofCode x.fmt = some f) (hr : Rnd.ofField x.rnd = some r)
    (hgood : TCtx.accBad (s.tile t) (x.base + m * x.pitch) x.cols = false) (hb : f.rowBytes x.cols ≤ 2048) :
    ((s.settle p (cyc + 1)).parcel p).flight =
      (drainLandings s p t x f r m).foldl (fun l g => placeFlight g l) rest ∧
    ((s.settle p (cyc + 1)).tile t).acc = (s.tile t).acc ∧
    ∀ i, ((s.settle p (cyc + 1)).tile i).scratch = (s.tile i).scratch := by
  obtain ⟨s₁, hd, hp, hkept⟩ :=
    doDrainRow_good (s.modParcel p fun P => { P with flight := rest }) p t cyc m x f r hf hr hgood
  rw [drainLandings_congr (s := s) (ctlKept_modParcel _ _ _ rfl) rfl rfl] at hd
  have hd' : workDone s p ⟨cyc, rank, .drainRow t x m⟩ rest = s₁.flyAll p (drainLandings s p t x f r m) := hd
  have hfl : ((s₁.flyAll p (drainLandings s p t x f r m)).parcel p).flight =
      (drainLandings s p t x f r m).foldl (fun l g => placeFlight g l) rest := by
    simp only [State.flyAll, State.parcel_modParcel_self, hp]
  obtain ⟨h1, h2, -⟩ := settle_nextWork_fields h (by
    intro g hg
    rw [hd', hfl, mem_foldl_placeFlight] at hg
    exact hg.elim (cyc_of_mem_drainLandings hc hb) (h.2 g))
  rw [hd'] at h1 h2
  exact ⟨h1.trans hfl, (congrArg Tile.acc (tile_congr h2 t)).trans (hkept t).1,
    fun i => (congrArg Tile.scratch (tile_congr h2 i)).trans (hkept i).2⟩

/-- Settles O8: each piece of work in flight has a lemma of its own, and what settling may touch is workOnly_settle. -/
theorem workInFlightLandsInItsCycle : Obligations.WorkInFlightLandsInItsCycle :=
  ⟨workOnly_settle, settle_of_nil, scratch_lands, sram_lands, streamRow_lands, accRow_lands, drainRow_lands⟩

/-! ### An instruction that changes a plane and puts work in flight -/

theorem flight_modParcel (s : State) (p : Nat) (f : Parcel → Parcel)
    (h : (f (s.parcel p)).flight = (s.parcel p).flight) (q : Nat) :
    ((s.modParcel p f).parcel q).flight = (s.parcel q).flight := by
  by_cases hq : q = p
  · subst hq; rw [State.parcel_modParcel_self, h]
  · rw [State.parcel_modParcel_ne _ _ hq]

/-- A fault keeps the work in flight of every parcel. -/
theorem flight_engineFaultAt (s : State) (t e cyc : Nat) (pc : BitVec 12) (idx : Nat) (cause : Cause)
    (chan cairn q : Nat) :
    ((s.engineFaultAt t e cyc pc idx cause chan cairn).parcel q).flight = (s.parcel q).flight := by
  unfold State.engineFaultAt
  dsimp only
  split
  · rfl
  cases s.tileParcel t with
  | none => simp
  | some p =>
    dsimp only
    generalize hx : (if State.isPrimary (s.parcel p) cyc t e = true then _ else s) = x
    have hsx : (x.parcel q).flight = (s.parcel q).flight := by
      rw [← hx]
      split
      · refine (flight_modParcel _ _ _ (by rfl) q).trans ?_
        split <;> rfl
      · rfl
    refine (flight_modParcel _ _ _ (by split <;> rfl) q).trans ?_
    simpa using hsx

/-- A retirement keeps the work in flight of every parcel. -/
theorem flight_retireAt (s : State) (t e cyc occ ret : Nat) (b : Bool) (q : Nat) :
    ((retireAt s t e cyc occ ret b).parcel q).flight = (s.parcel q).flight := by
  unfold retireAt
  dsimp only
  split
  · rw [parcel_setEngine, State.count_parcel]
  · rw [State.engineFault, flight_engineFaultAt, parcel_setEngine, State.count_parcel]

@[simp] theorem plane_setPlane_self (T : Tile) (k : Nat) (P : Plane) : plane (setPlane T k P) k = P := by
  unfold plane setPlane; split <;> rfl

theorem plane_withEngines (T : Tile) (es : Tab Engine) (k : Nat) : plane { T with engines := es } k = plane T k := rfl

/-- A plane is a part of its tile of its own. -/
theorem setPlane_only (T : Tile) (k : Nat) (P : Plane) :
    setPlane T k P = { T with plane0 := (setPlane T k P).plane0, plane1 := (setPlane T k P).plane1 } := by
  unfold setPlane; split <;> rfl

@[simp] theorem engines_setPlane (T : Tile) (k : Nat) (P : Plane) : (setPlane T k P).engines = T.engines := by
  rw [setPlane_only]
@[simp] theorem imem_setPlane (T : Tile) (k : Nat) (P : Plane) : (setPlane T k P).imem = T.imem := by rw [setPlane_only]
@[simp] theorem scratch_setPlane (T : Tile) (k : Nat) (P : Plane) : (setPlane T k P).scratch = T.scratch := by
  rw [setPlane_only]
@[simp] theorem scratchErr_setPlane (T : Tile) (k : Nat) (P : Plane) : (setPlane T k P).scratchErr = T.scratchErr := by
  rw [setPlane_only]

/-- The state in which an instruction has put `P` into plane `k` of its tile and `work` in flight. -/
abbrev withPlaneWork (c : TCtx) (k : Nat) (P : Plane) (work : List Flight) : State :=
  (c.s.modTile c.t fun T => setPlane T k P).flyAll c.p work

/-- A plane and work in flight are no part of an engine. -/
theorem withPlaneWork_engine (c : TCtx) (k : Nat) (P : Plane) (work : List Flight) (i j : Nat) :
    (withPlaneWork c k P work).engine i j = c.s.engine i j := by
  unfold State.engine
  by_cases hi : i = c.t
  · subst hi; simp
  · rw [tile_flyAll, State.tile_modTile_ne _ _ hi]

/-- An instruction that changes a plane, puts work in flight and retires does nothing else. -/
theorem retireAt_withPlaneWork {s : State} {t e cyc p : Nat} {c : TCtx} (hc : c = issued s t e cyc p)
    (hs : s.tileParcel t = some p) (k : Nat) (P : Plane) (work : List Flight) (occ ret : Nat) :
    let s' := retireAt (withPlaneWork c k P work) t e cyc occ ret true
    RetiredOne c s' occ ret ∧ EngineKept c s' ∧ WithinTile c.s s' t p ∧
    s'.tile t = { setPlane c.T k P with engines := (s'.tile t).engines } ∧ NowFlying c.s s' p work := by
  obtain ⟨ht, he, hcyc, hp, hT⟩ : c.t = t ∧ c.e = e ∧ c.cyc = cyc ∧ c.p = p ∧ c.T = c.s.tile t := by
    subst hc; exact ⟨rfl, rfl, rfl, rfl, rfl⟩
  have hE : c.s.engine t e = c.E := by rw [hc]; exact issued_engine s t e cyc p
  have htp : c.s.tileParcel t = some p := by rw [hc, issued_tileParcel]; exact hs
  subst ht he hcyc hp
  intro s'
  let s₁ := withPlaneWork c k P work
  have htile : s₁.tile c.t = setPlane c.T k P := by simp [s₁, hT]
  have hne : ∀ i, i ≠ c.t → s₁.tile i = c.s.tile i := fun i hi =>
    State.tile_modTile_ne c.s (fun T => setPlane T k P) hi
  have hctl : CtlKept c.s s₁ := (ctlKept_modTile _ _ _).trans (ctlKept_flyAll _ _ _)
  have htp₁ : s₁.tileParcel c.t = some c.p := (hctl.tileParcel c.t).trans htp
  have honly := retireAt_engineOnly s₁ c.t c.e c.cyc occ ret true
  have hsib : ∀ i j, ¬ (i = c.t ∧ j = c.e) →
      s'.engine i j = { c.s.engine i j with faultRecord := (s'.engine i j).faultRecord } := by
    intro i j hij
    rw [← withPlaneWork_engine c k P work]; exact honly.2 i j hij
  have heng := retireAt_engine s₁ c.t c.e c.cyc occ ret true
  dsimp only at heng
  rw [withPlaneWork_engine, hE] at heng
  obtain ⟨h1, h2, h3, h4, h5, h6, h7, h8, h9, h10⟩ := heng
  refine ⟨⟨h1, h2, h3, h4, ?_, fun j hj => hsib _ _ fun h => hj h.2, h6, h7⟩, ⟨h8, h9, h10⟩, ⟨?_, ?_, ?_⟩, ?_, ?_⟩
  · rw [h5, htile]; simp [queueAfter]
  · obtain ⟨a, l, i, q, h⟩ := retireAt_only s₁ c.t c.e c.cyc occ ret true
    show s' = _
    rw [show s' = _ from h]; rfl
  · refine fun i hi => ⟨?_, fun j => hsib i j fun h => hi h.1⟩
    rw [← hne i hi]; exact honly.1 i
  · intro hprim i hi
    rw [← hne i hi]
    exact retireAt_tile_ne s₁ _ _ _ _ _ _ htp₁ (by simpa [s₁, State.flyAll] using hprim) hi
  · rw [← htile]; exact honly.1 c.t
  · show (s'.parcel c.p).flight = _
    rw [flight_retireAt]; simp [State.flyAll]

/-- A row whose body meets no fault answers with the body's effect. -/
theorem issue_ok {s s' : State} {t : TileId} {e : EngineId} {cyc p op : Nat} {mine : Nat → Bool}
    {body : TCtx → Except Cause State} (h : Ready s t e cyc p op) (hm : mine op = true)
    (hb : body (issued s t e cyc p) = .ok s') : issue s t e cyc mine body = .next s' := by
  rw [issue_ready h hm, hb]

/-! ### STREAM -/

theorem eq_false_or_of_imp {b : Bool} {P : Prop} (h : b = true → P) : b = false ∨ P := by
  cases b with
  | false => exact .inl rfl
  | true => exact .inr (h rfl)

theorem firstCause_ok {l : List (Bool × Cause)} (h : ∀ x ∈ l, x.1 = false) : firstCause l = .ok () := by
  induction l with
  | nil => rfl
  | cons x l ih =>
    obtain ⟨b, k⟩ := x
    obtain rfl : b = false := h (b, k) (by simp)
    exact (if_neg (by simp)).trans (ih fun y hy => h y (by simp [hy]))

/-- A STREAM that no fault meets at its issue starts its slots (R79, R83, R84, R159). -/
theorem streamBody_allowed {c : TCtx} {af wf : Fmt} (h : StreamAllowed c af wf) :
    let P := plane c.T (fld c.w 8 1)
    let int := integerPath wf af P.scaled (bitAt c.w 92)
    let last := (streamSlots int (fld c.w 48 12 + 1) - 1) * slotCycles wf
    streamBody c = .ok (retireAt
      (withPlaneWork c (fld c.w 8 1)
        { P with mode := .ready, freeAt := max P.freeAt (c.cyc + last + 256 + slotExtra wf) }
        (streamWork c.t (streamOp c) int (slotCycles wf)))
      c.t c.e c.cyc (streamSlots int (fld c.w 48 12 + 1) * slotCycles wf) (last + 262 + slotExtra wf) true) := by
  obtain ⟨haf, hwf, hmode, hready, hact, hpairs, hascl, hsh, hpath, hsrc, hrange, hsrange, hacc, hpitch⟩ := h
  dsimp only
  unfold streamBody
  dsimp only
  rw [haf, hwf]
  dsimp only
  rw [firstCause_ok]
  · rfl
  · simp only [List.forall_mem_cons, Bool.or_eq_false_iff, Bool.and_eq_false_iff, decide_eq_false_iff_not,
      Bool.not_eq_false']
    have hshift : (((plane c.T (fld c.w 8 1)).mode != PlaneMode.empty) = false ∨ ¬fld c.w 90 2 ≠ 0) ∨
        integerPath wf af (plane c.T (fld c.w 8 1)).scaled (bitAt c.w 92) = true := by
      cases hint : integerPath wf af (plane c.T (fld c.w 8 1)).scaled (bitAt c.w 92) with
      | true => exact .inr rfl
      | false => exact .inl (.inr (not_not.2 (hpath hint)))
    exact ⟨⟨⟨hact, .inr hpairs⟩, eq_false_or_of_imp hascl⟩,
      ⟨⟨⟨hsh, hshift⟩, not_not.2 hsrc⟩, eq_false_or_of_imp fun h => not_not.2 (hsrange h).1⟩,
      ⟨hrange, eq_false_or_of_imp fun h => (hsrange h).2⟩, ⟨Nat.not_lt.2 hacc, Nat.not_lt.2 hpitch⟩,
      ⟨hmode, Nat.not_lt.2 hready⟩, by simp⟩

/-- Settles O6: the body's effect is a plane held, slots in flight and a retirement. -/
theorem streamPutsItsSlotsInFlight : Obligations.StreamPutsItsSlotsInFlight := by
  intro s t e cyc p c af wf ⟨hready, hc⟩ hallow
  have hbody := streamBody_allowed hallow
  obtain ⟨ht, he, hcyc⟩ : c.t = t ∧ c.e = e ∧ c.cyc = cyc := by subst hc; exact ⟨rfl, rfl, rfl⟩
  rw [ht, he, hcyc] at hbody
  exact ⟨_, issue_ok hready rfl (hc ▸ hbody), retireAt_withPlaneWork hc hready.1 _ _ _ _ _⟩

/-! ### WLOAD -/

/-- A WLOAD that no fault meets starts to fill its plane (R77, R79, R154, R156). -/
theorem wloadBody_allowed {c : TCtx} {f : Fmt} (h : WloadAllowed c f) :
    wloadBody c = .ok (retireAt
      (withPlaneWork c (fld c.w 8 1)
        { Plane.empty with
            mode := .loading, readyAt := c.cyc + 132, freeAt := (plane c.T (fld c.w 8 1)).freeAt, fmt := fld c.w 9 4
            kUsed := fld c.w 69 7 + 1, nUsed := fld c.w 76 9 + 1, scaled := bitAt c.w 48 }
        (weightReads c.t c.cyc (wloadOp c f)))
      c.t c.e c.cyc 128 132 true) := by
  obtain ⟨hf, hweight, htern, hfloat, hcols, hstride, hsrc, hrange, hscl, hfree⟩ := h
  unfold wloadBody
  dsimp only
  rw [hf]
  dsimp only
  rw [firstCause_ok]
  · rfl
  · simp only [List.forall_mem_cons, Bool.or_eq_false_iff, Bool.and_eq_false_iff, decide_eq_false_iff_not,
      Bool.not_eq_false']
    exact ⟨⟨⟨hweight, not_or_of_imp htern⟩, eq_false_or_of_imp hfloat⟩,
      ⟨⟨⟨Nat.not_lt.2 hcols, not_or_of_imp fun h => Nat.not_lt.2 (hstride h)⟩, not_not.2 hsrc⟩,
        eq_false_or_of_imp fun h => not_not.2 (hscl h).1⟩,
      ⟨hrange, eq_false_or_of_imp fun h => (hscl h).2⟩, Nat.not_lt.2 hfree, by simp⟩

/-! ### The weights that the reads of a WLOAD leave in its plane -/

/-- The codes of output column `n` below K_USED in the scratchpad (R154). -/
abbrev columnCodes (m : Mem) (f : Fmt) (x : WloadOp) (n : Nat) : List Nat :=
  (List.range x.kUsed).map (weightCode m f x n)

/-- The weights of the plane once the first `j` reads are done: whole columns, and in 16-bit float mode after an odd number
of reads the lower half of one more. -/
def columnsRead (m : Mem) (f : Fmt) (x : WloadOp) (j : Nat) : List (List Nat) :=
  if f.is16f then
    (List.range (j / 2)).map (columnCodes m f x) ++
      (if j % 2 = 1 then [(List.range (min 64 x.kUsed)).map (weightCode m f x (j / 2))] else [])
  else (List.range (min (j * weightsPerCell f) x.nUsed)).map (columnCodes m f x)

/-- What read `j` makes of the plane's weights `W` (R77, R154). -/
def readInto (W : List (List Nat)) (m : Mem) (f : Fmt) (x : WloadOp) (j : Nat) : List (List Nat) :=
  let codes := (readColumns f x.nUsed j).map fun n => readCodes m f (x.src + j * x.stride) x.kUsed n j
  if f.is16f && j % 2 = 1 then W.dropLast ++ [W.getLastD [] ++ codes.headD []] else W ++ codes

theorem columnsRead_zero (m : Mem) (f : Fmt) (x : WloadOp) : columnsRead m f x 0 = [] := by simp [columnsRead]

theorem weightsPerCell_pos (f : Fmt) : 0 < weightsPerCell f := by cases f <;> decide

/-- Outside 16-bit float mode a read carries the next columns, as many as a cell holds or are left. -/
theorem readColumns_uniform {f : Fmt} (hf : f.is16f = false) (n j : Nat) :
    readColumns f n j =
      (List.range (min (weightsPerCell f) (n - j * weightsPerCell f))).map fun i => j * weightsPerCell f + i := by
  have hcut : ∀ w b : Nat, (List.range w).filter (fun i => decide (i < b)) = List.range (min w b) := by
    intro w b
    induction w with
    | zero => simp
    | succ w ih =>
      rw [List.range_succ, List.filter_append, ih]
      by_cases h : w < b
      · rw [List.filter_singleton, decide_eq_true h, Nat.min_eq_left h.le, Nat.min_eq_left h, List.range_succ]; rfl
      · rw [List.filter_singleton, decide_eq_false h, Nat.min_eq_right (by omega), Nat.min_eq_right (by omega)]; simp
  rw [readColumns, hf, if_neg (by simp), ← hcut, List.filter_map]
  congr 1
  refine List.filter_congr fun i _ => ?_
  simp only [Function.comp_apply, decide_eq_decide]
  omega

/-- In 16-bit float mode a column of at most 128 lanes is its lower 64 lanes, then the others. -/
theorem columnCodes_halves {f : Fmt} (hf : f.is16f = true) (m : Mem) (x : WloadOp) (hk : x.kUsed ≤ 128) (i : Nat) :
    columnCodes m f x i = (List.range (min 64 x.kUsed)).map (weightCode m f x i) ++
      readCodes m f (x.src + (2 * i + 1) * x.stride) x.kUsed i (2 * i + 1) := by
  have hodd : (2 * i + 1) % 2 = 1 := by omega
  have hsplit : x.kUsed = min 64 x.kUsed + min 64 (x.kUsed - 1 * 64) := by omega
  rw [columnCodes, readCodes, if_pos hf, hodd]
  conv_lhs => rw [hsplit, List.range_add, List.map_append, List.map_map]
  congr 1
  refine List.map_congr_left fun l hl => ?_
  have hl' := List.mem_range.1 hl
  have h64 : min 64 x.kUsed = 64 := by omega
  have hdiv : (64 + l) / 64 = 1 := by omega
  have hmod : (64 + l) % 64 = l := by omega
  simp only [Function.comp_apply, weightCode, if_pos hf, h64, hdiv, hmod]

/-- The lower half of a column is what its even read carries. -/
theorem readCodes_lower {f : Fmt} (hf : f.is16f = true) (m : Mem) (x : WloadOp) (i : Nat) :
    readCodes m f (x.src + 2 * i * x.stride) x.kUsed i (2 * i) =
      (List.range (min 64 x.kUsed)).map (weightCode m f x i) := by
  have heven : 2 * i % 2 = 0 := by omega
  rw [readCodes, if_pos hf, heven, Nat.zero_mul, Nat.sub_zero]
  refine List.map_congr_left fun l hl => ?_
  have hl' := List.mem_range.1 hl
  have hdiv : l / 64 = 0 := by omega
  have hmod : l % 64 = l := by omega
  simp only [weightCode, if_pos hf, hdiv, hmod, Nat.add_zero]

/-- Outside 16-bit float mode a read carries whole columns. -/
theorem readCodes_uniform {f : Fmt} (hf : f.is16f = false) (m : Mem) (x : WloadOp) {j i : Nat}
    (hi : i < weightsPerCell f) :
    readCodes m f (x.src + j * x.stride) x.kUsed (j * weightsPerCell f + i) j =
      columnCodes m f x (j * weightsPerCell f + i) := by
  have hdiv : (j * weightsPerCell f + i) / weightsPerCell f = j := by
    rw [Nat.mul_comm, Nat.mul_add_div (weightsPerCell_pos f), Nat.div_eq_of_lt hi, Nat.add_zero]
  rw [readCodes, if_neg (by simp [hf])]
  refine List.map_congr_left fun l _ => ?_
  simp only [weightCode, hf, Bool.false_eq_true, if_false, hdiv]

/-- Each read adds its columns, or half of one. -/
theorem readInto_columnsRead (m : Mem) (f : Fmt) (x : WloadOp) {j : Nat} (hk : x.kUsed ≤ 128)
    (hj : j < wloadReads f x.nUsed) : readInto (columnsRead m f x j) m f x j = columnsRead m f x (j + 1) := by
  cases hf : f.is16f with
  | false =>
    have hw := weightsPerCell_pos f
    have hjn : j * weightsPerCell f < x.nUsed := by
      rw [wloadReads, if_neg (by simp [hf]), Nat.lt_div_iff_mul_lt hw] at hj
      omega
    have hnext : min ((j + 1) * weightsPerCell f) x.nUsed =
        min (j * weightsPerCell f) x.nUsed + min (weightsPerCell f) (x.nUsed - j * weightsPerCell f) := by
      rw [Nat.succ_mul]; omega
    simp only [readInto, columnsRead, hf, Bool.false_and, Bool.false_eq_true, if_false]
    rw [hnext, List.range_add, List.map_append, Nat.min_eq_left hjn.le, readColumns_uniform hf, List.map_map, List.map_map]
    congr 1
    refine List.map_congr_left fun i hi => readCodes_uniform hf m x ?_
    have := List.mem_range.1 hi
    omega
  | true =>
    obtain ⟨i, rfl | rfl⟩ := Nat.even_or_odd' j
    · have h0 : 2 * i % 2 = 0 := by omega
      have h1 : (2 * i + 1) % 2 = 1 := by omega
      have h2 : 2 * i / 2 = i := by omega
      have h3 : (2 * i + 1) / 2 = i := by omega
      simp [readInto, columnsRead, readColumns, hf, h0, h1, h2, h3, readCodes_lower hf]
    · have h1 : (2 * i + 1) % 2 = 1 := by omega
      have h2 : (2 * i + 1) / 2 = i := by omega
      have h3 : (2 * i + 1 + 1) % 2 = 0 := by omega
      have h4 : (2 * i + 1 + 1) / 2 = i + 1 := by omega
      simp [readInto, columnsRead, readColumns, hf, h1, h2, h3, h4, List.range_succ, columnCodes_halves hf m x hk i]

/-- Once every read is done the plane holds every used column. -/
theorem columnsRead_all (m : Mem) (f : Fmt) (x : WloadOp) :
    columnsRead m f x (wloadReads f x.nUsed) = (List.range x.nUsed).map (columnCodes m f x) := by
  cases hf : f.is16f with
  | false =>
    have hw := weightsPerCell_pos f
    have hle : x.nUsed ≤ wloadReads f x.nUsed * weightsPerCell f := by
      rw [wloadReads, if_neg (by simp [hf])]
      have := Nat.lt_div_mul_add hw (a := x.nUsed + weightsPerCell f - 1)
      omega
    rw [columnsRead, if_neg (by simp [hf]), Nat.min_eq_right hle]
  | true =>
    have h0 : 2 * x.nUsed % 2 = 0 := by omega
    have h1 : 2 * x.nUsed / 2 = x.nUsed := by omega
    simp [columnsRead, wloadReads, hf, h0, h1]

/-! ### The reads of a WLOAD, one after another -/

/-- A range within one that holds no such error holds none. -/
theorem errAt_none_of_within {errs : Tab Nat} {kind a n b k : Nat} (h : errAt errs kind a n = none) (hab : a ≤ b)
    (hbn : b + k ≤ a + n) : errAt errs kind b k = none := by
  simp only [errAt, Option.map_eq_none_iff, List.find?_eq_none, Bool.and_eq_true, decide_eq_true_eq] at h ⊢
  exact fun c hc ⟨⟨hkind, hlo⟩, hhi⟩ => h c hc ⟨⟨hkind, by omega⟩, by omega⟩

/-- The columns of a read are used columns. -/
theorem readColumns_within {f : Fmt} {n j : Nat} (hj : j < wloadReads f n) :
    (readColumns f n j).headD 0 + (readColumns f n j).length ≤ n := by
  cases hf : f.is16f with
  | false =>
    have hw := weightsPerCell_pos f
    rw [wloadReads, if_neg (by simp [hf]), Nat.lt_div_iff_mul_lt hw] at hj
    obtain ⟨k, hk⟩ : ∃ k, min (weightsPerCell f) (n - j * weightsPerCell f) = k + 1 :=
      Nat.exists_eq_add_one.2 (by omega)
    rw [readColumns_uniform hf, hk, List.range_succ_eq_map]
    simp only [List.map_cons, List.headD_cons, List.length_cons, List.length_map, List.length_range]
    omega
  | true =>
    rw [wloadReads, if_pos hf] at hj
    rw [readColumns, if_pos hf]
    simp only [List.headD_cons, List.length_singleton]
    omega

/-- A read of good bytes adds its codes to the plane, and leaves the scratchpad and the work in flight. -/
theorem doWeightRead_good (s : State) (p t cyc j : Nat) (x : WloadOp) (f : Fmt) (hf : Fmt.ofCode x.fmt = some f)
    (hgood : WloadGood (s.tile t) x) (hr : x.reads = wloadReads f x.nUsed) (hj : j < x.reads) :
    (doWeightRead s p t cyc x j).parcel p = s.parcel p ∧
    ((doWeightRead s p t cyc x j).tile t).scratch = (s.tile t).scratch ∧
    ((doWeightRead s p t cyc x j).tile t).scratchErr = (s.tile t).scratchErr ∧
    (plane ((doWeightRead s p t cyc x j).tile t) x.plane).weights =
      readInto (plane (s.tile t) x.plane).weights (s.tile t).scratch f x j := by
  have hbytes : scratchBadAt (s.tile t) (x.src + j * x.stride) 128 = none := scratchBad_eq_false.1 (hgood.1 j hj)
  have hscales : ∀ q, x.scl = some q → scratchBadAt (s.tile t) (q + 4 * (readColumns f x.nUsed j).headD 0)
      (4 * (readColumns f x.nUsed j).length) = none := by
    intro q hq
    have hin := readColumns_within (hr ▸ hj)
    exact errAt_none_of_within (scratchBad_eq_false.1 (hgood.2 q hq)) (by omega) (by omega)
  unfold doWeightRead
  dsimp only
  rw [hf, Option.getD_some, hbytes]
  cases hq : x.scl
  case' some q => rw [Option.bind_some, hscales q hq]
  all_goals
    dsimp only [Option.bind_none]
    refine ⟨by simp, by simp, by simp, ?_⟩
    rw [plane_tileFlags, State.tile_modTile_self, plane_setPlane_self]
    split <;>
    · simp only [tile_readScratch]
      rfl

/-- In state `s` the first `j` reads of the WLOAD `x` of tile `t` are done, the others are all that is in flight, and the
bytes of the scratchpad are those of tile `T`. -/
abbrev ReadUpTo (s : State) (p t cyc : Nat) (x : WloadOp) (T : Tile) (f : Fmt) (j : Nat) : Prop :=
  (s.parcel p).flight = (weightReads t cyc x).drop j ∧ (s.tile t).scratch = T.scratch ∧
  (s.tile t).scratchErr = T.scratchErr ∧ (plane (s.tile t) x.plane).weights = columnsRead T.scratch f x j

theorem wloadGood_congr {T T' : Tile} (h : T'.scratchErr = T.scratchErr) (x : WloadOp) (hg : WloadGood T x) :
    WloadGood T' x := by
  simpa only [WloadGood, TCtx.scratchBad, scratchBadAt, h] using hg

theorem length_weightReads (t cyc : Nat) (x : WloadOp) : (weightReads t cyc x).length = x.reads := by simp [weightReads]

section reads

variable {p t cyc upto : Nat} {x : WloadOp} {T : Tile} {f : Fmt} (hf : Fmt.ofCode x.fmt = some f)
  (hgood : WloadGood T x) (hr : x.reads = wloadReads f x.nUsed) (hk : x.kUsed ≤ 128) (hup : cyc + x.reads ≤ upto)

include hf hgood hr hk

/-- The next read is done in its cycle. -/
theorem readUpTo_succ {s : State} {j : Nat} (h : ReadUpTo s p t cyc x T f j) (hj : j < x.reads) :
    ReadUpTo (workDone s p ⟨cyc + j, 0, .weightRead t x j⟩ ((weightReads t cyc x).drop (j + 1))) p t cyc x T f
      (j + 1) := by
  obtain ⟨-, hscratch, herr, hweights⟩ := h
  obtain ⟨h1, h2, h3, h4⟩ := doWeightRead_good
    (s.modParcel p fun P => { P with flight := (weightReads t cyc x).drop (j + 1) }) p t (cyc + j) j x f hf
    (wloadGood_congr herr x hgood) hr hj
  refine ⟨(congrArg Parcel.flight h1).trans (by simp), h2.trans hscratch, h3.trans herr, h4.trans ?_⟩
  rw [tile_modParcel, hscratch, hweights]
  exact readInto_columnsRead _ _ _ hk (hr ▸ hj)

include hup

/-- Every read is done before a cycle after the last of them. -/
theorem readUpTo_settleRun (n : Nat) {s : State} {j : Nat} (h : ReadUpTo s p t cyc x T f j) (hj : j ≤ x.reads)
    (hn : x.reads ≤ j + n) : ReadUpTo (settleRun p upto n s) p t cyc x T f x.reads := by
  induction n generalizing s j with
  | zero =>
    obtain rfl : j = x.reads := by omega
    exact h
  | succ n ih =>
    rcases hj.lt_or_eq with hlt | rfl
    · have hhead : (weightReads t cyc x).drop j =
          ⟨cyc + j, 0, .weightRead t x j⟩ :: (weightReads t cyc x).drop (j + 1) := by
        rw [List.drop_eq_getElem_cons (by rwa [length_weightReads])]
        simp [weightReads]
      rw [settleRun_succ (h.1.trans hhead) (by dsimp only; omega)]
      exact ih (readUpTo_succ hf hgood hr hk h hlt) hlt (by omega)
    · rw [settleRun_later]
      · exact h
      · rw [h.1, List.drop_of_length_le (length_weightReads t cyc x).le]; simp

/-- Once the reads are over, the plane holds the codes of every used column. -/
theorem weights_settle {s : State} (h : ReadUpTo s p t cyc x T f 0) :
    (plane ((s.settle p upto).tile t) x.plane).weights = (List.range x.nUsed).map (columnCodes T.scratch f x) := by
  have hlen := length_le_fuel (s.parcel p).flight
  rw [h.1, List.drop_zero, length_weightReads] at hlen
  obtain ⟨-, -, -, hdone⟩ := readUpTo_settleRun hf hgood hr hk hup
    (((s.parcel p).flight.map fun f => f.work.size).foldl (· + ·) 0) h (Nat.zero_le _)
    (by rw [h.1, List.drop_zero]; omega)
  rw [hr, columnsRead_all] at hdone
  exact hdone

end reads

/-- The reads of a WLOAD fly in their order. -/
theorem foldl_weightReads (t cyc : Nat) (x : WloadOp) :
    (weightReads t cyc x).foldl (fun l f => placeFlight f l) [] = weightReads t cyc x := by
  rw [foldl_placeFlight_sorted _ (by simp), List.nil_append]
  refine List.pairwise_map.2 (List.pairwise_lt_range.imp fun h => ?_)
  simp [Flight.before]
  omega

/-- A plane takes 128 reads at most (Table 4.1). -/
theorem wloadReads_le {f : Fmt} {n : Nat} (h : n ≤ outputColumns f) : wloadReads f n ≤ 128 := by
  cases hf : f.is16f with
  | false =>
    rw [outputColumns, if_neg (by simp [hf])] at h
    rw [wloadReads, if_neg (by simp [hf])]
    have hw := weightsPerCell_pos f
    exact Nat.le_of_lt_succ (Nat.div_lt_of_lt_mul (by rw [Nat.mul_succ, Nat.mul_comm]; omega))
  | true =>
    rw [outputColumns, if_pos hf] at h
    rw [wloadReads, if_pos hf]
    omega

/-- Settles O5: the body's effect is a plane that loads and its reads in flight, and the reads, one after another,
fill it. -/
theorem wloadFillsPlane : Obligations.WloadFillsPlane := by
  intro s t e cyc p c f ⟨hready, hc⟩ hallow
  have hbody := wloadBody_allowed hallow
  obtain ⟨ht, he, hcyc⟩ : c.t = t ∧ c.e = e ∧ c.cyc = cyc := by subst hc; exact ⟨rfl, rfl, rfl⟩
  rw [ht, he, hcyc] at hbody
  obtain ⟨h1, h2, h3, htile, hfly⟩ := retireAt_withPlaneWork hc hready.1 (fld c.w 8 1) _ _ 128 132
  refine ⟨_, issue_ok hready rfl (hc ▸ hbody), h1, h2, h3, htile, hfly, fun hnil hgood n hn => ?_⟩
  obtain ⟨hf, -, -, -, hcols, -⟩ := hallow
  have hk : (wloadOp c f).kUsed ≤ 128 := by
    have : fld c.w 69 7 < 2 ^ 7 := Nat.mod_lt _ (by decide)
    show fld c.w 69 7 + 1 ≤ 128
    omega
  have hreads : (wloadOp c f).reads ≤ 128 := wloadReads_le hcols
  have hstart : (weightReads t cyc (wloadOp c f)).drop 0 =
      (weightReads t cyc (wloadOp c f)).foldl (fun l f => placeFlight f l) [] := by
    rw [foldl_weightReads, List.drop_zero]
  have hfill := weights_settle (upto := cyc + 128) hf hgood rfl hk (by omega)
    ⟨(hfly.trans (by rw [hnil])).trans hstart.symm, by rw [htile]; simp, by rw [htile]; simp, by
      rw [htile, columnsRead_zero, plane_withEngines, wloadOp, plane_setPlane_self]
      rfl⟩
  refine (congrArg (fun W => List.getD W n []) hfill).trans ?_
  have hn' : n < (wloadOp c f).nUsed := hn
  simp only [List.getD_eq_getElem?_getD, List.getElem?_map, List.getElem?_range hn', Option.map_some, Option.getD_some]
  rfl

end Sys2Proof.Proofs.ArrayTiles
end

section
/-! PROOFS. The family of 05_engines.md: what ends, halts and wakes an engine, and the runs of a copy channel. -/

namespace Sys2Proof.Proofs.Engines

open Sys2Proof Sys2Proof.Machine Sys2Proof.Claims Sys2Proof.Proofs.ArrayTiles

/-! ### Reading back -/

theorem engine_congr {s s' : State} (h : s'.tiles = s.tiles) (i j : Nat) : s'.engine i j = s.engine i j := by
  simp only [State.engine, tile_congr h]

theorem engine_congr_tile {s s' : State} {i : Nat} (h : s'.tile i = s.tile i) (j : Nat) :
    s'.engine i j = s.engine i j := by
  simp only [State.engine, h]

theorem cunit_congr {s s' : State} (hu : s'.units = s.units) (hc : s'.channels = s.channels) (u : Nat) :
    s'.cunit u = s.cunit u := by
  unfold State.cunit State.unitDefault State.channel
  rw [hu, hc]

@[simp] theorem copyChan_modCopyChan_self (s : State) (t e ch : Nat) (f : CopyChan → CopyChan) :
    (s.modCopyChan t e ch f).copyChan t e ch = f (s.copyChan t e ch) := by
  simp [State.copyChan, State.modCopyChan]

theorem modCopyChan_engineOnly (s : State) (t e ch : Nat) (f : CopyChan → CopyChan) :
    EngineOnly s (s.modCopyChan t e ch f) t e := s.setEngine_engineOnly t e _

theorem scratch_of_engineOnly {s s' : State} {t e : Nat} (h : EngineOnly s s' t e) (i : Nat) :
    (s'.tile i).scratch = (s.tile i).scratch := (congrArg Tile.scratch (h.1 i)).trans rfl

theorem scratchErr_of_engineOnly {s s' : State} {t e : Nat} (h : EngineOnly s s' t e) (i : Nat) :
    (s'.tile i).scratchErr = (s.tile i).scratchErr := (congrArg Tile.scratchErr (h.1 i)).trans rfl

/-- Settling keeps what holds the tile. -/
theorem settleTile_tileParcel (s : State) (t cyc i : Nat) : (s.settleTile t cyc).tileParcel i = s.tileParcel i := by
  unfold State.settleTile
  split
  · exact (ctlKept_settle _ _ _).tileParcel i
  · rfl

@[simp] theorem settleTile_posts (s : State) (t cyc : Nat) : (s.settleTile t cyc).posts = s.posts :=
  (congrArg State.posts (workOnly_settleTile s t cyc)).trans rfl

@[simp] theorem settleTile_stack (s : State) (t cyc : Nat) : (s.settleTile t cyc).stack = s.stack :=
  (congrArg State.stack (workOnly_settleTile s t cyc)).trans rfl

@[simp] theorem settle_stack (s : State) (p cyc : Nat) : (s.settle p cyc).stack = s.stack :=
  (congrArg State.stack (workOnly_settle s p cyc)).trans rfl

@[simp] theorem settleTile_legBudget (s : State) (t cyc : Nat) : (s.settleTile t cyc).legBudget = s.legBudget :=
  (congrArg State.legBudget (workOnly_settleTile s t cyc)).trans rfl

/-! ### The fault record (Table 5.7) -/

theorem code_lt (cause : Cause) : cause.code < 256 := by cases cause <;> decide

theorem fld_faultRecord_cause (cause : Cause) (primary : Bool) (chan cairn pc idx : Nat) :
    fld (faultRecordOf cause.code primary chan cairn pc idx).toNat 0 8 = cause.code := by
  have hcode := code_lt cause
  simp only [faultRecordOf, fld, BitVec.toNat_ofNat, Nat.shiftRight_zero]
  cases primary <;> simp only [Bool.false_eq_true, if_false, if_true] <;> omega

theorem fld_faultRecord_cairn (cause : Cause) (primary : Bool) {chan cairn : Nat} (pc idx : Nat) (hchan : chan < 8)
    (hcairn : cairn < 64) : fld (faultRecordOf cause.code primary chan cairn pc idx).toNat 12 6 = cairn := by
  have hcode := code_lt cause
  simp only [faultRecordOf, fld, BitVec.toNat_ofNat, Nat.shiftRight_eq_div_pow]
  cases primary <;> simp only [Bool.false_eq_true, if_false, if_true] <;> omega

/-! ### A change of the engines of one tile -/

/-- The primary fault of parcel `p`'s leg, where there is one, is of tile `t`. -/
def PrimaryIn (s : State) (p t : Nat) : Prop := ∀ x, (s.parcel p).primary = some x → x.2.1 = t

theorem primaryIn_of_none {s : State} {p : Nat} (t : Nat) (h : (s.parcel p).primary = none) : PrimaryIn s p t :=
  fun x hx => by rw [h] at hx; cases hx

/-- From `s` to `s'` nothing has changed but engines of tile `t`, parcels, the error log and the interrupts waiting, and, where
the leg's primary fault was of another tile, the record of that fault (R123). -/
structure OwnEngines (s s' : State) (t : Nat) : Prop where
  within : s' = { s with tiles := s'.tiles, parcels := s'.parcels, log := s'.log, irq := s'.irq }
  data : ∀ i, s'.tile i = { s.tile i with engines := (s'.tile i).engines }
  others : ∀ i, i ≠ t → ∀ j, s'.engine i j = { s.engine i j with faultRecord := (s'.engine i j).faultRecord }
  ctl : CtlKept s s'
  primary : PrimaryIn s ((s.tileParcel t).getD 0) t →
    PrimaryIn s' ((s.tileParcel t).getD 0) t ∧ ∀ i, i ≠ t → s'.tile i = s.tile i

theorem OwnEngines.refl (s : State) (t : Nat) : OwnEngines s s t :=
  ⟨rfl, fun _ => rfl, fun _ _ _ => rfl, .of_parcels rfl, fun h => ⟨h, fun _ _ => rfl⟩⟩

theorem OwnEngines.trans {s s' s'' : State} {t : Nat} (h : OwnEngines s s' t) (h' : OwnEngines s' s'' t) :
    OwnEngines s s'' t where
  within := h'.within.trans (by rw [h.within])
  data i := by rw [h'.data i, h.data i]
  others i hi j := by rw [h'.others i hi j, h.others i hi j]
  ctl := h.ctl.trans h'.ctl
  primary hp := by
    obtain ⟨hp', htile⟩ := h.primary hp
    rw [← h.ctl.tileParcel t] at hp' ⊢
    obtain ⟨hp'', htile'⟩ := h'.primary hp'
    exact ⟨hp'', fun i hi => (htile' i hi).trans (htile i hi)⟩

theorem OwnEngines.posts {s s' : State} {t : Nat} (h : OwnEngines s s' t) : s'.posts = s.posts :=
  (congrArg State.posts h.within).trans rfl

theorem OwnEngines.stack {s s' : State} {t : Nat} (h : OwnEngines s s' t) : s'.stack = s.stack :=
  (congrArg State.stack h.within).trans rfl

theorem OwnEngines.scratch {s s' : State} {t : Nat} (h : OwnEngines s s' t) (i : Nat) :
    (s'.tile i).scratch = (s.tile i).scratch := (congrArg Tile.scratch (h.data i)).trans rfl

theorem OwnEngines.cairns {s s' : State} {t : Nat} (h : OwnEngines s s' t) (i : Nat) :
    (s'.tile i).cairns = (s.tile i).cairns := (congrArg Tile.cairns (h.data i)).trans rfl

/-- Writing an engine of the tile. -/
theorem ownEngines_setEngine (s : State) (t e : Nat) (E : Engine) : OwnEngines s (s.setEngine t e E) t where
  within := rfl
  data := (s.setEngine_engineOnly t e E).1
  others i hi j := (s.setEngine_engineOnly t e E).2 i j fun h => hi h.1
  ctl := .of_parcels rfl
  primary h := ⟨h, fun _ hi => s.tile_setEngine_ne E hi⟩

/-- Counting in a parcel's accounts. -/
theorem ownEngines_count (s : State) (q : Option Nat) (k n t : Nat) : OwnEngines s (s.count q k n) t where
  within := by obtain ⟨q', h⟩ := s.count_only q k n; rw [h]
  data i := by rw [tile_count]
  others i _ j := by rw [engine_congr (State.count_tiles s q k n)]
  ctl := ctlKept_count s q k n
  primary h := ⟨fun x hx => h x (by rw [State.count_parcel] at hx; exact hx), fun i _ => tile_count s q k n i⟩

theorem tile_demote_ne (s : State) {t i : Nat} (e : Nat) (h : i ≠ t) : (s.demote t e).tile i = s.tile i := by
  unfold State.demote
  exact State.tile_modEngine_ne s (fun E => { E with faultRecord := _ }) h

/-- The primary fault of a leg after a fault of tile `t` is of `t` where it was before, and then no record of another tile
has lost its PRIMARY bit. -/
theorem primaryIn_engineFaultAt (s : State) (t e cyc : Nat) (pc : BitVec 12) (idx : Nat) (cause : Cause)
    (chan cairn : Nat) (h : PrimaryIn s ((s.tileParcel t).getD 0) t) :
    let s' := s.engineFaultAt t e cyc pc idx cause chan cairn
    PrimaryIn s' ((s.tileParcel t).getD 0) t ∧ ∀ i, i ≠ t → s'.tile i = s.tile i := by
  dsimp only
  unfold State.engineFaultAt
  dsimp only
  split
  · exact ⟨h, fun _ _ => rfl⟩
  cases hp : s.tileParcel t with
  | none =>
    rw [hp] at h
    refine ⟨fun x hx => h x (by simpa using hx), fun i hi => ?_⟩
    exact (tile_congr (State.logCycle_tiles _ _ _ _ _ _ _ _) i).trans (State.tile_setEngine_ne _ _ hi)
  | some p =>
    rw [hp] at h
    dsimp only [Option.getD_some] at h ⊢
    generalize hx : (if State.isPrimary (s.parcel p) cyc t e = true then _ else s) = x
    have hsx : PrimaryIn x p t ∧ ∀ i, i ≠ t → x.tile i = s.tile i := by
      rw [← hx]
      split
      · refine ⟨fun y hy => ?_, fun i hi => ?_⟩
        · rw [State.parcel_modParcel_self] at hy
          obtain rfl := Option.some.inj hy
          rfl
        · rw [tile_modParcel]
          split
          next y t' e' hprim =>
            obtain rfl : t' = t := h _ hprim
            exact tile_demote_ne s e' hi
          · rfl
      · exact ⟨h, fun _ _ => rfl⟩
    obtain ⟨hprim, htile⟩ := hsx
    refine ⟨fun y hy => hprim y ?_, fun i hi => ?_⟩
    · rw [State.markLegFaulted, State.parcel_modParcel_self, parcel_logCycle, parcel_setEngine] at hy
      rw [← hy]
      split <;> rfl
    · rw [State.markLegFaulted, tile_modParcel]
      exact ((tile_congr (State.logCycle_tiles _ _ _ _ _ _ _ _) i).trans (State.tile_setEngine_ne _ _ hi)).trans
        (htile i hi)

/-- A fault of an engine of the tile. -/
theorem ownEngines_engineFaultAt (s : State) (t e cyc : Nat) (pc : BitVec 12) (idx : Nat) (cause : Cause)
    (chan cairn : Nat) : OwnEngines s (s.engineFaultAt t e cyc pc idx cause chan cairn) t where
  within := by obtain ⟨a, l, i, q, h⟩ := s.engineFaultAt_only t e cyc pc idx cause chan cairn; rw [h]
  data := (s.engineFaultAt_engineOnly t e cyc pc idx cause chan cairn).1
  others i hi j := (s.engineFaultAt_engineOnly t e cyc pc idx cause chan cairn).2 i j fun h => hi h.1
  ctl := ctlKept_engineFaultAt s t e cyc pc idx cause chan cairn
  primary := primaryIn_engineFaultAt s t e cyc pc idx cause chan cairn

/-- The retirement of an instruction of an engine of the tile. -/
theorem ownEngines_retireAt (s : State) (t e cyc occ ret : Nat) (b : Bool) :
    OwnEngines s (retireAt s t e cyc occ ret b) t := by
  unfold retireAt
  dsimp only
  split
  · exact (ownEngines_count _ _ _ _ _).trans (ownEngines_setEngine _ _ _ _)
  · exact ((ownEngines_count _ _ _ _ _).trans (ownEngines_setEngine _ _ _ _)).trans
      (ownEngines_engineFaultAt _ _ _ _ _ _ _ _ _)

/-- The frame of a command that changes tile `t` (from `b` to `s`) and then only engines of it. -/
theorem OwnEngines.othersKept {b s s' : State} {t : Nat} (h : OwnEngines s s' t)
    (htile : ∀ i, i ≠ t → s.tile i = b.tile i) (hparcels : s.parcels = b.parcels) :
    OthersKept b s' t ((b.tileParcel t).getD 0) := by
  refine ⟨fun i hi => ⟨?_, fun j => ?_⟩, fun hnone i hi => ?_⟩
  · rw [← htile i hi]; exact h.data i
  · rw [← engine_congr_tile (htile i hi) j]; exact h.others i hi j
  · have htp : s.tileParcel t = b.tileParcel t := (CtlKept.of_parcels hparcels).tileParcel t
    have hprim : PrimaryIn s ((s.tileParcel t).getD 0) t :=
      primaryIn_of_none t (by rw [htp, parcel_congr hparcels]; exact hnone)
    exact ((h.primary hprim).2 i hi).trans (htile i hi)

theorem OwnEngines.withinTile {b s' : State} {t : Nat} (h : OwnEngines b s' t) :
    WithinTile b s' t ((b.tileParcel t).getD 0) :=
  ⟨h.within, h.othersKept (fun _ _ => rfl) rfl⟩

/-! ### Ends, halts and timeouts (R110, R116, R119, R125, R127) -/

/-- What a command leaves that writes engine `E` into place `e` of tile `t`, and beyond the tiles no more than a frame of the
statements allows. -/
theorem frames_of_setEngine {b s' : State} {t e : Nat} {E : Engine} (p : Nat)
    (hwithin : s' = { b with tiles := s'.tiles, parcels := s'.parcels, log := s'.log, irq := s'.irq })
    (htiles : s'.tiles = (b.setEngine t e E).tiles) :
    WithinTile b s' t p ∧ TileDataKept b s' t ∧ SiblingsKept b s' t e ∧ s'.engine t e = E := by
  have honly : EngineOnly b s' t e := (b.setEngine_engineOnly t e E).trans (.of_tiles t e htiles)
  have hne : ∀ i, i ≠ t → s'.tile i = b.tile i := fun i hi =>
    (tile_congr htiles i).trans (b.tile_setEngine_ne E hi)
  exact ⟨⟨hwithin, fun i hi => ⟨honly.1 i, fun j => honly.2 i j fun h => hi h.1⟩, fun _ => hne⟩,
    honly.dataKept, honly.siblingsKept, (engine_congr htiles t e).trans (b.engine_setEngine_self t e E)⟩

/-- An engine that has not faulted faults where it stands: its record names the cause and the cairn (R121, R125). -/
theorem engineFault_faulted {b : State} {t e : Nat} (cyc : Nat) (cause : Cause) {cairn : Nat}
    (hmode : (b.engine t e).mode ≠ .faulted) (hcairn : cairn < 64) :
    let s' := b.engineFault t e cyc cause 7 cairn
    EngineFaulted b s' t e ((b.tileParcel t).getD 0) cause ∧ fld (s'.engine t e).faultRecord.toNat 12 6 = cairn := by
  intro s'
  obtain ⟨primary, hE⟩ := b.engineFaultAt_engine t e cyc (b.engine t e).pc (b.engine t e).retired cause 7 cairn hmode
  have hE' : s'.engine t e = _ := hE
  have honly := b.engineFault_engineOnly t e cyc cause 7 cairn
  have hframe := (ownEngines_engineFaultAt b t e cyc (b.engine t e).pc (b.engine t e).retired cause 7 cairn).withinTile
  rw [hE']
  exact ⟨⟨by rw [hE'], by rw [hE']; exact fld_faultRecord_cause _ _ _ _ _ _, by rw [hE'], by rw [hE'],
    hframe, honly.dataKept, honly.siblingsKept⟩, fld_faultRecord_cairn _ _ _ _ (by decide) hcairn⟩

/-! ### Posts (R111, R114) -/

/-- A cairn, as a cycle begins, is at most what it was before a post of that cycle (R114). -/
theorem cairnAt_le_of_arrival {T : Tile} {as : List (Nat × Nat × Nat)} {j cyc inc v : Nat}
    (harrivals : T.arrivals = as ++ [(cyc, j, inc)]) (hv : Tab.get 0 T.cairns j = v + inc) : cairnAt T j cyc ≤ v := by
  rw [cairnAt, harrivals, List.filter_append, List.filter_singleton]
  simp only [le_refl, decide_true, Bool.and_self, cond_true, List.map_append, List.map_cons, List.map_nil,
    List.foldl_append, List.foldl_cons, List.foldl_nil, hv]
  omega

/-- Waking the WAITs on a cairn touches engines of its tile alone. -/
theorem ownEngines_wakeWaiters (s : State) (t j cyc n : Nat) : OwnEngines s (wakeWaiters s t j cyc n) t := by
  induction n with
  | zero => exact .refl s t
  | succ k ih =>
    rw [wakeWaiters]
    split
    · exact ih.trans (ownEngines_retireAt _ _ _ _ _ _ _)
    · exact ih

/-- A tile with `inc` added to its cairn `j` in cycle `cyc`. -/
def cairnAdded (T : Tile) (j inc cyc : Nat) : Tile :=
  { T with
      cairns := Tab.set 0 T.cairns j (Tab.get 0 T.cairns j + inc)
      arrivals := (T.arrivals.filter fun a => cyc ≤ a.1) ++ [(cyc, j, inc)] }

/-- A post that a cairn can hold is added, and wakes the WAITs that it satisfies. -/
theorem addToCairn_of_le {s : State} {t j inc : Nat} (cyc : Nat) (h : Tab.get 0 (s.tile t).cairns j + inc ≤ 65535) :
    addToCairn s t j inc cyc =
      wakeWaiters (s.modTile t fun T => cairnAdded T j inc cyc) t j (cyc + 1) (engineCount t) :=
  if_neg (Nat.not_lt.2 h)

/-- A post that a cairn cannot hold faults engine 0 of its tile. -/
theorem addToCairn_of_lt {s : State} {t j inc : Nat} (cyc : Nat) (h : 65535 < Tab.get 0 (s.tile t).cairns j + inc) :
    addToCairn s t j inc cyc = s.engineFault t 0 cyc .cairnOverflow 7 j :=
  if_pos h

/-- POST_ARRIVAL adds the oldest post to the cairn. -/
theorem postArrival_takes {s : State} {t : TileId} {cairn : BitVec 6} {q : PostFlight} {rest : List PostFlight} (cyc : Nat)
    (h : takeFirst (fun x : PostFlight => x.dst.tile = t.val && x.dst.cairn = cairn.toNat) s.posts = some (q, rest)) :
    execPostArrival t cairn cyc s =
      .next (addToCairn { s.settleTile t cyc with posts := rest } t cairn.toNat q.dst.inc cyc) := by
  unfold execPostArrival
  dsimp only
  rw [settleTile_posts, h]

/-- Settles O11: an end and a halt write one engine, a timeout and a post that overflows are faults, and a post that a cairn
holds wakes engines of its tile alone. -/
theorem engineEventsComplete : Obligations.EngineEventsComplete := by
  refine ⟨?_, ?_, ?_, ?_, ?_, ?_⟩
  · rintro s b t e cyc rfl hmode hending hdone hretire hissue
    obtain ⟨hw, hd, hs, hE⟩ := frames_of_setEngine
      (s' := ((s.settleTile t cyc).setEngine t e { (s.settleTile t cyc).engine t e with
        mode := .ended, ending := false, retired := ((s.settleTile t cyc).engine t e).retired + 1
        retireLast := BitVec.ofNat 32 (((s.settleTile t cyc).engine t e).retired + 1), retireAt := cyc }).count
          ((s.settleTile t cyc).tileParcel t) (busyKey t e) (cyc - ((s.settleTile t cyc).engine t e).busyFrom)) 0
      (by obtain ⟨q, h⟩ := State.count_only _ _ _ _; rw [h]; rfl) (State.count_tiles _ _ _ _)
    exact ⟨_, if_pos (by simp [hmode, hending, hdone, hretire, hissue]), hw, hd, hs, hE⟩
  · rintro s b t e cyc rfl hmode hending hhalt hretired hdone hretire
    obtain ⟨hw, hd, hs, hE⟩ := frames_of_setEngine (b := s.settleTile t cyc) (t := t) (e := e)
      (E := { (s.settleTile t cyc).engine t e with
        mode := .halted, retireLast := BitVec.ofNat 32 ((s.settleTile t cyc).engine t e).retired }) 0 rfl rfl
    exact ⟨_, if_pos (by simp [hmode, hending, hhalt, hretired, hdone, hretire]), hw, hd, hs, hE⟩
  · rintro s b t cairn cyc q rest rfl htake hle
    let s₁ : State := State.modTile { s.settleTile t cyc with posts := rest } t fun T =>
      cairnAdded T cairn.toNat q.dst.inc cyc
    have hadded : s₁.tile t = cairnAdded ((s.settleTile t cyc).tile t) cairn.toNat q.dst.inc cyc :=
      State.tile_modTile_self _ _ _
    have hown := ownEngines_wakeWaiters s₁ t cairn.toNat (cyc + 1) (engineCount t)
    have htile := hown.data t
    rw [hadded] at htile
    refine ⟨_, (postArrival_takes cyc htake).trans (congrArg _ (addToCairn_of_le cyc hle)),
      hown.posts, hown.stack.trans (settleTile_stack s t cyc), ?_, ?_, ?_, ?_, ?_⟩
    · rw [htile]; exact Tab.get_set_self _ _ _ _
    · intro j hj; rw [htile]; exact Tab.get_set_ne _ _ _ hj
    · rw [htile]; exact cairnAt_le_of_arrival rfl (Tab.get_set_self _ _ _ _)
    · rw [hown.scratch, hadded]; rfl
    · rw [← settleTile_tileParcel s t cyc t]
      exact hown.othersKept (fun i hi => State.tile_modTile_ne _ _ hi) rfl
  · rintro s b t cairn cyc q rest rfl htake hlt
    let s₁ : State := { s.settleTile t cyc with posts := rest }
    have hown := ownEngines_engineFaultAt s₁ t 0 cyc (s₁.engine t 0).pc (s₁.engine t 0).retired .cairnOverflow 7
      cairn.toNat
    refine ⟨_, (postArrival_takes cyc htake).trans (congrArg _ (addToCairn_of_lt cyc hlt)),
      hown.posts, hown.stack.trans (settleTile_stack s t cyc),
      hown.cairns t, ?_⟩
    by_cases hmode : ((s.settleTile t cyc).engine t 0).mode = .faulted
    · have hsame : s₁.engineFault t 0 cyc .cairnOverflow 7 cairn.toNat = s₁ := if_pos hmode
      rw [if_pos hmode, hsame]
      exact ⟨hmode, rfl⟩
    · obtain ⟨⟨hfaulted, hcause, -⟩, hcairn⟩ :=
        engineFault_faulted (b := s₁) cyc .cairnOverflow (t := t) (e := 0) hmode cairn.isLt
      rw [if_neg hmode]
      exact ⟨hfaulted, hcause, hcairn⟩
  · rintro s b t e cyc rfl hmode hlate
    obtain ⟨hfaulted, hcairn⟩ := engineFault_faulted cyc .waitTimeout (t := t) (e := e) (b := s.settleTile t cyc)
      (by rw [hmode]; decide) ((s.settleTile t cyc).engine t e).waitCairn.isLt
    rw [settleTile_tileParcel] at hfaulted
    exact ⟨_, if_pos (by simpa [hmode] using hlate), hfaulted, hcairn⟩
  · rintro s b t e cyc rfl hmode hlate
    obtain ⟨hfaulted, -⟩ := engineFault_faulted cyc .waitTimeout (t := t) (e := e) (b := s.settleTile t cyc) (cairn := 0)
      (by rw [hmode]; decide) (by decide)
    rw [settleTile_tileParcel] at hfaulted
    exact ⟨_, if_pos (by simpa [hmode] using hlate), hfaulted⟩

/-! ### Runs (R174, R177, R180, R237, R472) -/

theorem flight_count (s : State) (q : Option Nat) (k n p : Nat) :
    ((s.count q k n).parcel p).flight = (s.parcel p).flight := by rw [State.count_parcel]

/-- Counting a bridge crossing touches the parcels only. -/
theorem countBridge_only (s : State) (q : Option Nat) (a b n : Nat) :
    ∃ ps, countBridge s q a b n = { s with parcels := ps } := by
  unfold countBridge
  split
  · exact ⟨s.parcels, rfl⟩
  · exact s.count_only _ _ _

theorem flight_countBridge (s : State) (q : Option Nat) (a b n p : Nat) :
    ((countBridge s q a b n).parcel p).flight = (s.parcel p).flight := by
  unfold countBridge
  split
  · rfl
  · exact flight_count _ _ _ _ _

/-- From `s` to `s'` a copy channel of an engine of tile `t` has put `work` in flight: no memory and no unit has changed. -/
structure RunFlies (s s' : State) (p : Nat) (work : Flight) : Prop where
  stack : s'.stack = s.stack
  units : s'.units = s.units
  channels : s'.channels = s.channels
  flight : (s'.parcel p).flight = placeFlight work (s.parcel p).flight
  scratch : ∀ j, (s'.tile j).scratch = (s.tile j).scratch

/-- A run of good bytes puts them in flight. -/
theorem moveRun_good (s : State) (t e ch cyc p i l run sec land : Nat) (f : List Byte → Flight)
    (h : TCtx.scratchBad (s.tile t) l run = false) :
    RunFlies s (moveRun s t e ch cyc p i l run sec land f) p (f (Mem.readBytes (s.tile t).scratch l run)) := by
  let landed (K : CopyChan) : CopyChan :=
    { K with queue := setDesc (fun d => { d with landAt := max d.landAt land }) K.queue i }
  let s₁ := (s.readScratch p t l run).modCopyChan t e ch landed
  let s₂ := (s₁.fly p (f (Mem.readBytes (s.tile t).scratch l run))).count (some p) 0x12 (granules run)
  have hmove : moveRun s t e ch cyc p i l run sec land f = countBridge s₂ (some p) (tileSector t) sec run := by
    unfold moveRun
    dsimp only
    rw [scratchBad_eq_false.1 h]
  obtain ⟨q, hq⟩ := countBridge_only s₂ (some p) (tileSector t) sec run
  have hparcel : s₁.parcel p = s.parcel p := parcel_readScratch _ _ _ _ _ _
  rw [hmove]
  refine ⟨by rw [hq]; simp [s₂, s₁, State.fly], by rw [hq]; simp [s₂, s₁, State.fly],
    by rw [hq]; simp [s₂, s₁, State.fly], ?_, fun j => ?_⟩
  · rw [flight_countBridge, flight_count, State.fly_flight, hparcel]
  · rw [hq]
    calc (State.tile { s₂ with parcels := q } j).scratch = (s₁.tile j).scratch :=
          congrArg Tile.scratch (tile_congr (State.count_tiles _ _ _ _) j)
      _ = ((s.readScratch p t l run).tile j).scratch := scratch_of_engineOnly (modCopyChan_engineOnly _ _ _ _ _) j
      _ = (s.tile j).scratch := by rw [tile_readScratch]

/-- The state in which the channel has counted the run of the descriptor at place `i` as started. -/
def runStarted (s : State) (t e ch i : Nat) (d : CopyDesc) : State :=
  s.modCopyChan t e ch fun K => { K with queue := setDesc (fun x => { x with started := d.started + 1 }) K.queue i }

/-- COPY_RUN starts the run that its channel may start. -/
theorem copyRun_starts {s b : State} {t : TileId} {e : EngineId} {ch : Fin 4} {cyc p i : Nat} {d : CopyDesc}
    (h : MayStart s b t e ch cyc p i d) : execCopyRun t e ch cyc s = .next (startRun b t e ch cyc p i d) := by
  obtain ⟨hp, rfl, hnext, hhalted, hruns, hissues⟩ := h
  unfold execCopyRun
  rw [hp]
  dsimp only
  rw [hnext]
  exact if_neg (by simp [hhalted, hissues, hruns])

theorem stack_of_mayStart {s b : State} {t : TileId} {e : EngineId} {ch : Fin 4} {cyc p i : Nat} {d : CopyDesc}
    (h : MayStart s b t e ch cyc p i d) : b.stack = s.stack := by
  obtain ⟨-, rfl, -⟩ := h
  exact settle_stack s p cyc

/-- A run to or from stack memory waits for its segment turns (R190). -/
theorem startRun_stack {s : State} {p : Nat} {d : CopyDesc} {c o : Nat} (t e ch cyc i : Nat)
    (h : nextFar s p d = .stack c o) :
    startRun s t e ch cyc p i d = (runStarted s t e ch i d).modCopyChan t e ch fun K =>
      { K with
          queue := setDesc (fun x => { x with inFlight := x.inFlight + 1 }) K.queue i
          runSeq := K.runSeq + 1
          runs := K.runs ++
            [⟨K.runSeq, K.completed + i, Desc.volatile d.raw && e = 0, nextLocal d, c, o, Desc.run d.raw, 0⟩] } := by
  unfold nextFar at h
  unfold startRun
  dsimp only
  rw [h]
  rfl

/-- A run to a tile moves its bytes in its cycle (model's choice, log entry 10). -/
theorem startRun_tile {s : State} {p : Nat} {d : CopyDesc} {t' o : Nat} (t e ch cyc i : Nat)
    (h : nextFar s p d = .tile t' o) :
    startRun s t e ch cyc p i d =
      moveRun (runStarted s t e ch i d) t e ch cyc p i (nextLocal d) (Desc.run d.raw) (tileSector t') cyc
        fun bytes => ⟨cyc, rankRemote (s.logicalTile p t), .scratch t' o bytes⟩ := by
  unfold nextFar at h
  unfold startRun
  dsimp only
  rw [h]
  rfl

/-- A run to a unit moves its bytes at the end of the Celulo cycle (R237). -/
theorem startRun_unit {s : State} {p : Nat} {d : CopyDesc} {u o : Nat} (t e ch cyc i : Nat)
    (h : nextFar s p d = .unit u o) :
    startRun s t e ch cyc p i d =
      moveRun (runStarted s t e ch i d) t e ch cyc p i (nextLocal d) (Desc.run d.raw) (channelSector (u / 64)) (celuloEnd cyc)
        fun bytes => ⟨celuloEnd cyc, rankDescriptor, .sram u o bytes⟩ := by
  unfold nextFar at h
  unfold startRun
  dsimp only
  rw [h]
  rfl

/-- Starting a run whose far side is no stack memory puts the bytes that it reads in flight. -/
theorem startedRun_flies {b : State} {p : Nat} {d : CopyDesc} (t e ch cyc i sec land : Nat) (f : List Byte → Flight)
    (h : TCtx.scratchBad (b.tile t) (nextLocal d) (Desc.run d.raw) = false) :
    RunFlies b (moveRun (runStarted b t e ch i d) t e ch cyc p i (nextLocal d) (Desc.run d.raw) sec land f) p
      (f (nextBytes b t d)) := by
  have honly : EngineOnly b (runStarted b t e ch i d) t e := modCopyChan_engineOnly _ _ _ _ _
  have hgood : TCtx.scratchBad ((runStarted b t e ch i d).tile t) (nextLocal d) (Desc.run d.raw) = false := by
    rw [← h, TCtx.scratchBad, TCtx.scratchBad, scratchBadAt, scratchBadAt, scratchErr_of_engineOnly honly]
  obtain ⟨hstack, hunits, hchannels, hflight, hscratch⟩ :=
    moveRun_good (runStarted b t e ch i d) t e ch cyc p i (nextLocal d) (Desc.run d.raw) sec land f hgood
  rw [scratch_of_engineOnly honly] at hflight
  exact ⟨hstack, hunits, hchannels, hflight, fun j => (hscratch j).trans (scratch_of_engineOnly honly j)⟩

/-- Where nothing else is in flight, the run's bytes are the next work of the parcel. -/
theorem RunFlies.nextWork {s s' : State} {p : Nat} {work : Flight} (h : RunFlies s s' p work)
    (hnil : (s.parcel p).flight = []) : NextWork s' p work [] :=
  ⟨by rw [h.flight, hnil]; rfl, fun _ hg => by cases hg⟩

/-! ### The completion of a descriptor (R117, R118) -/

/-- Waking a WAITQ touches engines of its tile alone. -/
theorem ownEngines_wakeQueueWait (s : State) (t e ch cyc : Nat) : OwnEngines s (wakeQueueWait s t e ch cyc) t := by
  unfold wakeQueueWait
  dsimp only
  split
  · exact ownEngines_retireAt _ _ _ _ _ _ _
  · exact .refl s t

/-- A retirement leaves the copy channels of its engine. -/
theorem copyChan_retireAt (s : State) (t e cyc occ ret : Nat) (b : Bool) (ch : Nat) :
    (retireAt s t e cyc occ ret b).copyChan t e ch = s.copyChan t e ch := by
  obtain ⟨-, -, -, -, -, -, -, -, hchans, -⟩ := retireAt_engine s t e cyc occ ret b
  rw [State.copyChan, hchans, State.copyChan]

theorem copyChan_wakeQueueWait (s : State) (t e ch cyc : Nat) :
    (wakeQueueWait s t e ch cyc).copyChan t e ch = s.copyChan t e ch := by
  unfold wakeQueueWait
  dsimp only
  split
  · exact copyChan_retireAt _ _ _ _ _ _ _ _
  · rfl

theorem sendPost_tiles (s : State) (t e : Nat) (post : Option Post) : (sendPost s t e post).tiles = s.tiles := by
  cases post <;> rfl

theorem sendPost_stack (s : State) (t e : Nat) (post : Option Post) : (sendPost s t e post).stack = s.stack := by
  cases post <;> rfl

/-- The state in which the oldest descriptor of a channel has left its queue and its post is in flight. -/
def entryFreed (s : State) (t e ch cyc : Nat) (post : Option Post) : State :=
  sendPost (s.modCopyChan t e ch fun K => freeEntry K cyc) t e post

theorem entryFreed_engineOnly (s : State) (t e ch cyc : Nat) (post : Option Post) :
    EngineOnly s (entryFreed s t e ch cyc post) t e :=
  (modCopyChan_engineOnly _ _ _ _ _).trans (.of_tiles _ _ (sendPost_tiles _ _ _ _))

theorem copyChan_entryFreed (s : State) (t e ch cyc : Nat) (post : Option Post) :
    (entryFreed s t e ch cyc post).copyChan t e ch = freeEntry (s.copyChan t e ch) cyc := by
  rw [entryFreed, State.copyChan, engine_congr (sendPost_tiles _ _ _ _)]
  exact copyChan_modCopyChan_self s t e ch fun K => freeEntry K cyc

theorem entryFreed_stack (s : State) (t e ch cyc : Nat) (post : Option Post) :
    (entryFreed s t e ch cyc post).stack = s.stack := sendPost_stack _ _ _ _

/-- An entry that a descriptor leaves is not free in the same cycle (R118). -/
theorem queueFree_freeEntry {K : CopyChan} {cyc : Nat} (h : K.queue ≠ []) :
    queueFree (freeEntry K cyc) cyc ≤ 16 - K.queue.length := by
  have hlen := List.length_pos_iff.2 h
  simp only [queueFree, freeEntry, List.length_drop, le_refl, if_true]
  omega

/-- DESCRIPTOR_COMPLETE takes a descriptor whose runs have all landed out of its queue (R117). -/
theorem descriptorComplete_completes {s : State} {t : TileId} {e : EngineId} {ch : Fin 4} {cyc : Nat} {d : CopyDesc}
    {ds : List CopyDesc} (hq : ((s.settleTile t cyc).copyChan t e ch).queue = d :: ds)
    (hhalted : ((s.settleTile t cyc).copyChan t e ch).halted = false) (hruns : Desc.runs d.raw ≤ d.started)
    (hflight : d.inFlight = 0) (hland : d.landAt ≤ cyc) :
    execDescriptorComplete t e ch cyc s =
      .next (wakeQueueWait (entryFreed (s.settleTile t cyc) t e ch cyc d.post) t e ch (cyc + 1)) := by
  unfold execDescriptorComplete
  dsimp only
  rw [hq]
  exact if_neg (by simp [hhalted, hflight, hruns, hland])

/-- Settles O12: a run to or from stack memory joins its channel's list; the bytes of any other are its parcel's next work
in flight in the cycle that starts it, or for a unit at the end of that Celulo cycle (the model's choice, log entry 10);
a descriptor that completes frees its entry and may wake its engine. -/
theorem copyRunsAndCompletion : Obligations.CopyRunsAndCompletion := by
  refine ⟨?_, ?_, ?_, ?_⟩
  · intro s b t e ch cyc p i c o d hmay hfar
    have honly : EngineOnly b (startRun b t e ch cyc p i d) t e := by
      rw [startRun_stack t e ch cyc i hfar]
      exact (modCopyChan_engineOnly _ _ _ _ _).trans (modCopyChan_engineOnly _ _ _ _ _)
    refine ⟨_, copyRun_starts hmay, ?_, scratch_of_engineOnly honly t, ?_⟩
    · rw [startRun_stack t e ch cyc i hfar, ← stack_of_mayStart hmay]; rfl
    · rw [startRun_stack t e ch cyc i hfar, copyChan_modCopyChan_self, runStarted, copyChan_modCopyChan_self,
        decide_eq_decide.2 (Fin.ext_iff (a := e) (b := 0))]
      rfl
  · intro s b t e ch cyc p i t' o d hmay hfar hgood
    have hrun := startedRun_flies (p := p) t e ch cyc i (tileSector t') cyc
      (fun bytes => ⟨cyc, rankRemote (b.logicalTile p t), .scratch t' o bytes⟩) hgood
    rw [← startRun_tile t e ch cyc i hfar] at hrun
    refine ⟨_, copyRun_starts hmay, hrun.stack.trans (stack_of_mayStart hmay), hrun.flight, hrun.scratch, fun hnil => ?_⟩
    obtain ⟨-, hlands, -⟩ := scratch_lands _ p cyc _ t' o _ [] (hrun.nextWork hnil)
    rw [hlands, hrun.scratch]
  · intro s b t e ch cyc p i u o d hmay hfar hgood
    have hrun := startedRun_flies (p := p) t e ch cyc i (channelSector (u / 64)) (celuloEnd cyc)
      (fun bytes => ⟨celuloEnd cyc, rankDescriptor, .sram u o bytes⟩) hgood
    rw [← startRun_unit t e ch cyc i hfar] at hrun
    refine ⟨_, copyRun_starts hmay, hrun.stack.trans (stack_of_mayStart hmay), hrun.units, hrun.flight, hrun.scratch,
      fun hnil => ?_⟩
    obtain ⟨-, -, hlands, -⟩ := sram_lands _ p (celuloEnd cyc) _ u o _ [] (hrun.nextWork hnil)
    rw [hlands, cunit_congr hrun.units hrun.channels]
  · rintro s b t e ch cyc d ds rfl hq hhalted hruns hflight hland
    have hown := ownEngines_wakeQueueWait (entryFreed (s.settleTile t cyc) t e ch cyc d.post) t e ch (cyc + 1)
    have hchan := (copyChan_wakeQueueWait (entryFreed (s.settleTile t cyc) t e ch cyc d.post) t e ch (cyc + 1)).trans
      (copyChan_entryFreed (s.settleTile t cyc) t e ch cyc d.post)
    refine ⟨_, descriptorComplete_completes hq hhalted hruns hflight hland,
      hown.stack.trans ((entryFreed_stack _ _ _ _ _ _).trans (settleTile_stack s t cyc)), ?_, ?_, ?_, ?_,
      (hown.scratch t).trans (scratch_of_engineOnly (entryFreed_engineOnly _ _ _ _ _ _) t)⟩
    · rw [hchan, freeEntry, hq]; rfl
    · rw [hchan]; rfl
    · rw [hchan]; exact queueFree_freeEntry (by rw [hq]; simp)
    · rw [hown.posts, ← settleTile_posts s t cyc, entryFreed]
      cases d.post with
      | none => exact (List.append_nil _).symm
      | some x => rfl

end Sys2Proof.Proofs.Engines
end

section
/-! PROOFS. The family of 06_tile_instructions.md: what each tile instruction does at its issue, and what it leaves. -/

namespace Sys2Proof.Proofs.TileInstructions

open Sys2Proof Sys2Proof.Machine Sys2Proof.Claims Sys2Proof.Proofs.ArrayTiles Sys2Proof.Proofs.Engines

/-! ### The instruction at its issue -/

/-- The instruction `c` stands in a state that agrees with it: its engine, its tile, and the parcel that holds the tile. -/
structure Stands (c : TCtx) : Prop where
  engine : c.s.engine c.t c.e = c.E
  tile : c.s.tile c.t = c.T
  parcel : c.s.tileParcel c.t = some c.p
  mode : c.E.mode = .issuing

section issues

variable {s : State} {t : TileId} {e : EngineId} {cyc p op : Nat} {c : TCtx} (h : Issues s t e cyc p op c)

include h

theorem stands_of_issues : Stands c := by
  obtain ⟨⟨hp, -, hcan, -⟩, rfl⟩ := h
  refine ⟨issued_engine s t e cyc p, rfl, (issued_tileParcel s t e cyc p).trans hp, ?_⟩
  simp only [canIssue, Bool.and_eq_true, decide_eq_true_eq] at hcan
  exact hcan.1.1.1

theorem place_of_issues : c.t = t ∧ c.cyc = cyc ∧ c.p = p := by
  obtain ⟨-, rfl⟩ := h
  exact ⟨rfl, rfl, rfl⟩

/-- The word of the instruction carries its opcode. -/
theorem opcode_of_issues : c.w % 256 = op := by
  obtain ⟨⟨-, -, -, -, -, hop, -⟩, rfl⟩ := h
  obtain ⟨w, hw, rfl⟩ := Option.map_eq_some_iff.1 hop
  simp only [issued, hw, Option.getD_some]

/-- Up to its issue only work in flight is done, its word is fetched, its leg begins and an event may be counted. -/
theorem workOnly_of_issues : WorkOnly s c.s := by
  obtain ⟨-, rfl⟩ := h
  have hbegun : WorkOnly s (((begun s p cyc).setEngine t e (engineBegun s t e p cyc)).beginLeg p) := by
    obtain ⟨q, hq⟩ := State.beginLeg_only ((begun s p cyc).setEngine t e (engineBegun s t e p cyc)) p
    rw [hq]
    exact (workOnly_settle s p cyc).trans (Eq.refl _)
  unfold issued atIssue
  dsimp only
  split
  · refine hbegun.trans ?_
    obtain ⟨l, i, hli⟩ := State.bucketEvent_only
      (((begun s p cyc).setEngine t e (engineBegun s t e p cyc)).beginLeg p) 1 t (some p)
    rw [WorkOnly, hli]
  · exact hbegun

theorem posts_of_issues : c.s.posts = s.posts := (congrArg State.posts (workOnly_of_issues h)).trans rfl
theorem launches_of_issues : c.s.launches = s.launches := (congrArg State.launches (workOnly_of_issues h)).trans rfl
theorem stack_of_issues : c.s.stack = s.stack := (congrArg State.stack (workOnly_of_issues h)).trans rfl
theorem channels_of_issues : c.s.channels = s.channels := (congrArg State.channels (workOnly_of_issues h)).trans rfl

/-- A row whose body meets no fault answers with the body's effect. -/
theorem issue_of_ok {s' : State} {mine : Nat → Bool} {body : TCtx → Except Cause State} (hm : mine op = true)
    (hb : body c = .ok s') : issue s t e cyc mine body = .next s' := by
  obtain ⟨hready, rfl⟩ := h
  exact issue_ok hready hm hb

end issues

/-- The fault of an instruction leaves its engine where it is and everything else of its tile (R121). -/
theorem engineFault_faultedBy {c : TCtx} (hc : Stands c) (cause : Cause) :
    FaultedBy c (c.s.engineFault c.t c.e c.cyc cause 7 0) cause := by
  obtain ⟨primary, hE⟩ := c.s.engineFaultAt_engine c.t c.e c.cyc (c.s.engine c.t c.e).pc (c.s.engine c.t c.e).retired
    cause 7 0 (by rw [hc.engine, hc.mode]; decide)
  have hE' : (c.s.engineFault c.t c.e c.cyc cause 7 0).engine c.t c.e = _ := hE
  have honly := c.s.engineFault_engineOnly c.t c.e c.cyc cause 7 0
  rw [hc.engine] at hE'
  rw [FaultedBy, hE']
  exact ⟨rfl, fld_faultRecord_cause _ _ _ _ _ _, rfl, rfl, by rw [EngineKept, hE']; exact ⟨rfl, rfl, rfl⟩, rfl,
    honly.dataKept, honly.siblingsKept, engineFault_within _ _ _ _ _ _ _ hc.parcel⟩

/-- A row whose body meets a fault answers with it. -/
theorem issue_faults {s : State} {t : TileId} {e : EngineId} {cyc p op : Nat} {c : TCtx} {cause : Cause}
    {mine : Nat → Bool} {body : TCtx → Except Cause State} (h : Issues s t e cyc p op c) (hm : mine op = true)
    (hb : body c = .error cause) : ∃ s', issue s t e cyc mine body = .next s' ∧ FaultedBy c s' cause := by
  have hfault := engineFault_faultedBy (stands_of_issues h) cause
  obtain ⟨hready, rfl⟩ := h
  exact ⟨_, by rw [issue_ready hready hm, hb]; rfl, hfault⟩

/-! ### What an instruction does before it retires -/

/-- From `s` to `s'` nothing has changed but the engine's offset registers, copy channels, launches and noted destinations,
the format flags of its tile, the work in flight and the accounts of parcel `p`, the error log, the interrupts waiting and
the launches on their way to units. -/
structure Effect (s s' : State) (t e p : Nat) : Prop where
  within : s' = { s with
    tiles := s'.tiles, parcels := s'.parcels, log := s'.log, irq := s'.irq, launches := s'.launches }
  tile : s'.tile t = { s.tile t with engines := (s'.tile t).engines, formatStatus := (s'.tile t).formatStatus }
  others : ∀ i, i ≠ t → s'.tile i = s.tile i
  engine : s'.engine t e = { s.engine t e with
    offs := (s'.engine t e).offs, chans := (s'.engine t e).chans, launches := (s'.engine t e).launches
    pendingDst := (s'.engine t e).pendingDst }
  siblings : ∀ j, j ≠ e → s'.engine t j = s.engine t j
  ctl : CtlKept s s'
  primary : (s'.parcel p).primary = (s.parcel p).primary

theorem Effect.trans {s s' s'' : State} {t e p : Nat} (h : Effect s s' t e p) (h' : Effect s' s'' t e p) :
    Effect s s'' t e p where
  within := h'.within.trans (by rw [h.within])
  tile := by rw [h'.tile, h.tile]
  others i hi := (h'.others i hi).trans (h.others i hi)
  engine := by rw [h'.engine, h.engine]
  siblings j hj := (h'.siblings j hj).trans (h.siblings j hj)
  ctl := h.ctl.trans h'.ctl
  primary := h'.primary.trans h.primary

/-- Before it retires, an instruction leaves where its engine is in its program. -/
theorem Effect.program {s s' : State} {t e p : Nat} (h : Effect s s' t e p) :
    (s'.engine t e).pc = (s.engine t e).pc ∧ (s'.engine t e).loops = (s.engine t e).loops ∧
    (s'.engine t e).retired = (s.engine t e).retired ∧ (s'.engine t e).retireAt = (s.engine t e).retireAt ∧
    (s'.engine t e).queue = (s.engine t e).queue := by
  rw [h.engine]
  exact ⟨rfl, rfl, rfl, rfl, rfl⟩

/-- An effect that raises no format flag and sends no launch. -/
structure QuietEffect (s s' : State) (t e p : Nat) : Prop extends Effect s s' t e p where
  flags : (s'.tile t).formatStatus = (s.tile t).formatStatus
  launches : s'.launches = s.launches

theorem QuietEffect.trans {s s' s'' : State} {t e p : Nat} (h : QuietEffect s s' t e p) (h' : QuietEffect s' s'' t e p) :
    QuietEffect s s'' t e p where
  toEffect := h.toEffect.trans h'.toEffect
  flags := h'.flags.trans h.flags
  launches := h'.launches.trans h.launches

theorem QuietEffect.refl (s : State) (t e p : Nat) : QuietEffect s s t e p :=
  ⟨⟨rfl, rfl, fun _ _ => rfl, rfl, fun _ _ => rfl, fun _ => rfl, rfl⟩, rfl, rfl⟩

/-- Records and events counted touch no tile and no parcel. -/
theorem quietEffect_log (s : State) (l : ErrorLog) (q : List (Nat × Nat)) (t e p : Nat) :
    QuietEffect s { s with log := l, irq := q } t e p :=
  ⟨⟨rfl, rfl, fun _ _ => rfl, rfl, fun _ _ => rfl, fun _ => rfl, rfl⟩, rfl, rfl⟩

/-- Writing the engine's registers. -/
theorem quietEffect_setEngine (s : State) (t e p : Nat) {E : Engine}
    (h : E = { s.engine t e with offs := E.offs, chans := E.chans, launches := E.launches, pendingDst := E.pendingDst }) :
    QuietEffect s (s.setEngine t e E) t e p where
  within := rfl
  tile := (s.setEngine_engineOnly t e E).1 t |>.trans (by simp [State.setEngine])
  others i hi := s.tile_setEngine_ne E hi
  engine := by rw [State.engine_setEngine_self]; exact h
  siblings j hj := s.engine_setEngine_ne E hj
  ctl := .of_parcels rfl
  primary := rfl
  flags := by simp [State.setEngine]
  launches := rfl

/-- Work put in flight. -/
theorem quietEffect_modParcel (s : State) (t e p : Nat) {f : Parcel → Parcel}
    (hctl : (f (s.parcel p)).ctl = (s.parcel p).ctl) (hprim : (f (s.parcel p)).primary = (s.parcel p).primary) :
    QuietEffect s (s.modParcel p f) t e p where
  within := rfl
  tile := rfl
  others _ _ := rfl
  engine := rfl
  siblings _ _ := rfl
  ctl := ctlKept_modParcel s p f hctl
  primary := by rw [State.parcel_modParcel_self, hprim]
  flags := rfl
  launches := rfl

/-- Launches sent to units. -/
theorem effect_launches (s : State) (us : List LaunchFlight) (t e p : Nat) : Effect s { s with launches := us } t e p :=
  ⟨rfl, rfl, fun _ _ => rfl, rfl, fun _ _ => rfl, fun _ => rfl, rfl⟩

/-- Raising format flags of the tile. -/
theorem effect_tileFlags (s : State) (t e p : Nat) (f : FFlags) : Effect s (s.tileFlags t e f) t e p where
  within := by obtain ⟨a, h⟩ := s.tileFlags_only t e f; rw [h]
  tile := by rw [tile_tileFlags]
  others i hi := tile_tileFlags_ne s e f hi
  engine := by rw [State.engine, tile_tileFlags]; rfl
  siblings j _ := by rw [State.engine, tile_tileFlags]; rfl
  ctl := ctlKept_tileFlags s t e f
  primary := by rw [parcel_tileFlags]

/-- What an instruction leaves that has had its effect and retires: its engine retires one instruction and keeps the
registers that the effect gave it, and a fault past index 4,095 alone reaches beyond the effect. -/
theorem Effect.retire {c : TCtx} {s₁ : State} (hc : Stands c) (h : Effect c.s s₁ c.t c.e c.p) (occ ret : Nat) (b : Bool) :
    let s' := retireAt s₁ c.t c.e c.cyc occ ret b
    RetiredOne c s' occ ret ∧ EngineKept { c with E := s₁.engine c.t c.e } s' ∧ OthersKept c.s s' c.t c.p ∧
    s'.tile c.t = { c.T with engines := (s'.tile c.t).engines, formatStatus := (s₁.tile c.t).formatStatus } ∧
    (s₁.launches = c.s.launches → WithinTile c.s s' c.t c.p) := by
  intro s'
  have honly : EngineOnly s₁ s' c.t c.e := retireAt_engineOnly s₁ c.t c.e c.cyc occ ret b
  have hparcel : s₁.tileParcel c.t = some c.p := (h.ctl.tileParcel c.t).trans hc.parcel
  have htile : s'.tile c.t = { c.T with engines := (s'.tile c.t).engines, formatStatus := (s₁.tile c.t).formatStatus } := by
    rw [honly.1 c.t, h.tile, hc.tile]
  have hothers : OthersKept c.s s' c.t c.p := by
    refine ⟨fun i hi => ⟨?_, fun j => ?_⟩, fun hprim i hi => ?_⟩
    · rw [← h.others i hi]; exact honly.1 i
    · rw [← engine_congr_tile (h.others i hi) j]; exact honly.2 i j fun hij => hi hij.1
    · rw [← h.others i hi]
      exact retireAt_tile_ne s₁ c.t c.e c.cyc occ ret b hparcel (h.primary.trans hprim) hi
  obtain ⟨hretired, hloops, hnext, hretire, hqueue, hgoes, hpast, hkept⟩ := retireAt_engine s₁ c.t c.e c.cyc occ ret b
  obtain ⟨hpc, hl, hn, hr, hq⟩ := h.program
  rw [hc.engine] at hpc hl hn hr hq
  rw [hpc, hl] at hloops hnext hqueue hgoes hpast
  rw [hn] at hretired
  rw [hr] at hretire
  refine ⟨⟨hretired, hloops, hnext, hretire, hqueue.trans ?_, fun j hj => ?_, hgoes, hpast⟩, hkept, hothers, htile,
    fun hlaunches => ⟨?_, hothers⟩⟩
  · rw [queueAfter, queueAfter, h.tile, hc.tile, hpc, hq]
  · rw [← h.siblings j hj]; exact honly.siblingsKept j hj
  · obtain ⟨a, l, i, q, hs⟩ := retireAt_only s₁ c.t c.e c.cyc occ ret b
    rw [show s' = _ from hs, h.within, hlaunches]

/-- An instruction that leaves the format flags and sends no launch completes quietly. -/
theorem QuietEffect.retire {c : TCtx} {s₁ : State} (hc : Stands c) (h : QuietEffect c.s s₁ c.t c.e c.p)
    (occ ret : Nat) (b : Bool) :
    let s' := retireAt s₁ c.t c.e c.cyc occ ret b
    RetiredQuietly c s' occ ret ∧ EngineKept { c with E := s₁.engine c.t c.e } s' := by
  obtain ⟨hone, hkept, -, htile, hwithin⟩ := h.toEffect.retire hc occ ret b
  refine ⟨⟨hone, hwithin h.launches, ?_⟩, hkept⟩
  rw [TileDataKept, hc.tile]
  rw [h.flags, hc.tile] at htile
  exact htile

/-- An instruction whose whole effect is to retire. -/
theorem retireAt_quietly {c : TCtx} (hc : Stands c) (occ ret : Nat) (b : Bool) :
    let s' := retireAt c.s c.t c.e c.cyc occ ret b
    RetiredQuietly c s' occ ret ∧ EngineKept c s' := by
  have h := (QuietEffect.refl c.s c.t c.e c.p).retire hc occ ret b
  rw [hc.engine] at h
  exact h

/-! ### NOP and END (R144) -/

/-- Settles O1: a NOP only retires, and an END only rewrites its engine. -/
theorem nopWaitsAndEndDiscardsLoops : Obligations.NopWaitsAndEndDiscardsLoops := by
  refine ⟨fun s t e cyc p c h => ?_, fun s t e cyc p c h => ?_⟩
  · exact ⟨_, issue_of_ok h rfl rfl, retireAt_quietly (stands_of_issues h) _ _ true⟩
  · obtain ⟨hwithin, hdata, hsiblings, hengine⟩ := frames_of_setEngine (b := c.s) (t := c.t) (e := c.e)
      (E := { c.E with ending := true, loops := [], nextIssue := c.cyc, busyFrom := c.cyc }) p rfl rfl
    have hexec := issue_of_ok h (mine := (· = 0x01)) (body := endBody) rfl rfl
    obtain ⟨-, rfl⟩ := h
    exact ⟨_, hexec, hengine, hwithin, hdata, hsiblings⟩

/-! ### SETO and ADDO (R149) -/

/-- The state in which an instruction has written offset register `r` of its engine. -/
def withOffset (c : TCtx) (r : Nat) (v : BitVec 40) : State :=
  c.s.setEngine c.t c.e { c.E with offs := Tab.set 0 c.E.offs r v }

theorem setoBody_of_allowed {c : TCtx} (hr : fld c.w 8 3 ≠ 0) (hv : setoValue c < 2 ^ 40) :
    setoBody c = .ok (retireAt (withOffset c (fld c.w 8 3) (BitVec.ofNat 40 (setoValue c))) c.t c.e c.cyc 1 1 true) := by
  unfold setoBody
  dsimp only
  rw [firstCause_ok]
  · rfl
  · simp only [List.forall_mem_cons, decide_eq_false_iff_not, Nat.not_le]
    exact ⟨hr, hv, by simp⟩

/-- SETO names register 0, or a product that 40 bits do not hold. -/
theorem setoBody_of_illegal {c : TCtx} (h : fld c.w 8 3 = 0 ∨ 2 ^ 40 ≤ setoValue c) :
    setoBody c = .error .illegalField := by
  unfold setoBody
  dsimp only
  by_cases hr : fld c.w 8 3 = 0
  · simp only [firstCause, hr, decide_true, if_true]
    rfl
  · have hv : 2 ^ 40 ≤ if bitAt c.w 11 then c.param (fld c.w 12 4) * 2 ^ fld c.w 16 4 else fld c.w 20 40 :=
      h.resolve_left hr
    simp only [firstCause, hr, hv, decide_true, decide_false, Bool.false_eq_true, if_true, if_false]
    rfl

theorem addoBody_of_allowed {c : TCtx} (hr : fld c.w 8 3 ≠ 0) :
    addoBody c = .ok (retireAt (withOffset c (fld c.w 8 3) (addoValue (Tab.get 0 c.E.offs (fld c.w 8 3))
      (BitVec.ofNat 40 (fld c.w 11 40)) (BitVec.ofNat 40 (fld c.w 51 40)))) c.t c.e c.cyc 1 1 true) := by
  unfold addoBody
  dsimp only
  rw [if_neg hr]
  rfl

theorem addoBody_of_zero {c : TCtx} (hr : fld c.w 8 3 = 0) : addoBody c = .error .illegalField := by
  unfold addoBody
  dsimp only
  rw [if_pos hr]
  rfl

/-- What is left of an instruction that writes an offset register and retires. -/
theorem retire_withOffset {c : TCtx} (hc : Stands c) (r : Nat) (v : BitVec 40) :
    let s' := retireAt (withOffset c r v) c.t c.e c.cyc 1 1 true
    RetiredQuietly c s' 1 1 ∧ Tab.get 0 (s'.engine c.t c.e).offs r = v ∧
    (∀ i, i ≠ r → Tab.get 0 (s'.engine c.t c.e).offs i = Tab.get 0 c.E.offs i) ∧
    EngineKept { c with E := { c.E with offs := (s'.engine c.t c.e).offs } } s' := by
  intro s'
  have heffect : QuietEffect c.s (withOffset c r v) c.t c.e c.p := quietEffect_setEngine _ _ _ _ (by rw [hc.engine])
  obtain ⟨hquiet, hoffs, hchans, hlaunches⟩ := heffect.retire hc 1 1 true
  have hE : (withOffset c r v).engine c.t c.e = { c.E with offs := Tab.set 0 c.E.offs r v } :=
    State.engine_setEngine_self _ _ _ _
  simp only [hE] at hoffs hchans hlaunches
  have hoffs' : (s'.engine c.t c.e).offs = Tab.set 0 c.E.offs r v := hoffs
  refine ⟨hquiet, ?_, fun i hi => ?_, rfl, hchans, hlaunches⟩
  · rw [hoffs']; exact Tab.get_set_self _ _ _ _
  · rw [hoffs']; exact Tab.get_set_ne _ _ _ hi

/-- Settles O2: SETO and ADDO write one offset register and retire; their only fault is an illegal field. -/
theorem offsetRegisterWrites : Obligations.OffsetRegisterWrites := by
  refine ⟨?_, ?_, ?_, ?_⟩
  · intro s t e cyc p c h hr hv
    have hexec := issue_of_ok h (mine := (· = 0x05)) rfl (setoBody_of_allowed hr hv)
    have hleft := retire_withOffset (stands_of_issues h) (fld c.w 8 3) (BitVec.ofNat 40 (setoValue c))
    obtain ⟨-, rfl⟩ := h
    exact ⟨_, hexec, hleft⟩
  · intro s t e cyc p c h hr
    have hexec := issue_of_ok h (mine := (· = 0x06)) rfl (addoBody_of_allowed hr)
    have hleft := retire_withOffset (stands_of_issues h) (fld c.w 8 3) (addoValue (Tab.get 0 c.E.offs (fld c.w 8 3))
      (BitVec.ofNat 40 (fld c.w 11 40)) (BitVec.ofNat 40 (fld c.w 51 40)))
    obtain ⟨-, rfl⟩ := h
    exact ⟨_, hexec, hleft⟩
  · intro s t e cyc p c h hbad
    exact issue_faults h (mine := (· = 0x05)) rfl (setoBody_of_illegal hbad)
  · intro s t e cyc p c h hzero
    exact issue_faults h (mine := (· = 0x06)) rfl (addoBody_of_zero hzero)

/-! ### LOOP, WAIT, WAITQ and POST (R145 to R148, R152) -/

/-- The engine once its LOOP has opened a loop (R145). -/
def loopOpened (c : TCtx) : Engine :=
  { c.E with
      loops :=
        { first := c.E.pc.toNat + 1, last := c.E.pc.toNat + fld c.w 8 12, trips := loopTrips c, done := 0 } :: c.E.loops
      pc := BitVec.ofNat 12 (c.E.pc.toNat + 1)
      queue := c.E.queue.drop 1
      retired := c.E.retired + 1
      nextIssue := c.cyc + 1
      busyTo := c.cyc + 1
      retireAt := max c.E.retireAt (c.cyc + 1) }

theorem loopBody_of_allowed {c : TCtx} (h : LoopAllowed c) :
    loopBody c = .ok ((c.s.setEngine c.t c.e (loopOpened c)).count (some c.p) (busyKey c.t c.e) 1) := by
  obtain ⟨hlen, hmin, hmax, houter, hlast, hdepth⟩ := h
  have houter' : (match c.E.loops with
      | f :: _ => decide (f.last < c.E.pc.toNat + fld c.w 8 12)
      | [] => false) = false := by
    cases hl : c.E.loops with
    | nil => rfl
    | cons f fs => exact decide_eq_false (Nat.not_lt.2 (houter f (by rw [hl]; rfl)))
  unfold loopBody
  dsimp only
  rw [firstCause_ok]
  · rfl
  · simp only [List.forall_mem_cons, Bool.or_eq_false_iff, decide_eq_false_iff_not]
    exact ⟨hlen, ⟨Nat.not_lt.2 hmin, Nat.not_lt.2 hmax⟩, houter', Nat.not_lt.2 hlast, Nat.not_le.2 hdepth, by simp⟩

/-- What a LOOP leaves that opens its loop. -/
theorem loopOpened_leaves (c : TCtx) :
    let s' := (c.s.setEngine c.t c.e (loopOpened c)).count (some c.p) (busyKey c.t c.e) 1
    let E' := s'.engine c.t c.e
    WithinTile c.s s' c.t c.p ∧ TileDataKept c.s s' c.t ∧ SiblingsKept c.s s' c.t c.e ∧
    E'.loops =
      { first := c.E.pc.toNat + 1, last := c.E.pc.toNat + fld c.w 8 12, trips := loopTrips c, done := 0 } :: c.E.loops ∧
    E'.retired = c.E.retired + 1 ∧ E'.nextIssue = c.cyc + 1 ∧ E'.pc = BitVec.ofNat 12 (c.E.pc.toNat + 1) ∧
    EngineKept c s' := by
  intro s' E'
  obtain ⟨hwithin, hdata, hsiblings, hengine⟩ := frames_of_setEngine (b := c.s) (t := c.t) (e := c.e) (s' := s')
    (E := loopOpened c) c.p (by obtain ⟨q, hq⟩ := State.count_only _ _ _ _; rw [show s' = _ from hq]; rfl)
    (State.count_tiles _ _ _ _)
  refine ⟨hwithin, hdata, hsiblings, ?_⟩
  rw [EngineKept, show E' = loopOpened c from hengine, hengine]
  exact ⟨rfl, rfl, rfl, rfl, rfl, rfl, rfl⟩

/-- The engine that waits for its cairn (R112). -/
def waitingForCairn (c : TCtx) : Engine :=
  { c.E with
      mode := .waitCairn, waitCairn := BitVec.ofNat 6 (fld c.w 8 6), waitTarget := (waitTarget c).toNat
      waitSince := c.cyc }

theorem waitBody_of_le {c : TCtx} (h : waitTarget c ≤ 65535) :
    waitBody c = .ok (if waitTarget c ≤ (cairnAt c.T (fld c.w 8 6) c.cyc : Int) then retireAt c.s c.t c.e c.cyc 1 0 false
      else c.s.setEngine c.t c.e (waitingForCairn c)) := by
  have hsatisfied : (decide (waitTarget c ≤ 0) || decide ((waitTarget c).toNat ≤ cairnAt c.T (fld c.w 8 6) c.cyc)) =
      decide (waitTarget c ≤ (cairnAt c.T (fld c.w 8 6) c.cyc : Int)) := by
    rw [← Bool.decide_or, decide_eq_decide]
    omega
  have hbody : waitBody c =
      if 65535 < waitTarget c then .error .illegalField
      else if decide (waitTarget c ≤ 0) || decide ((waitTarget c).toNat ≤ cairnAt c.T (fld c.w 8 6) c.cyc) then
        .ok (retireAt c.s c.t c.e c.cyc 1 0 false)
      else .ok (c.s.setEngine c.t c.e (waitingForCairn c)) := rfl
  rw [hbody, if_neg (not_lt.2 h), hsatisfied]
  simp only [decide_eq_true_eq]
  split <;> rfl

/-- The engine that waits for entries of its queue (R118). -/
def waitingForQueue (c : TCtx) : Engine :=
  { c.E with
      mode := .waitQueue, waitChannel := BitVec.ofNat 2 (fld c.w 8 2), waitTarget := fld c.w 10 5, waitSince := c.cyc }

theorem waitqBody_of_range {c : TCtx} (hmin : 1 ≤ fld c.w 10 5) (hmax : fld c.w 10 5 ≤ 16) :
    waitqBody c = .ok (if fld c.w 10 5 ≤ queueFree (c.s.copyChan c.t c.e (fld c.w 8 2)) c.cyc
      then retireAt c.s c.t c.e c.cyc 1 0 false else c.s.setEngine c.t c.e (waitingForQueue c)) := by
  unfold waitqBody
  dsimp only
  rw [if_neg (by simp [Nat.not_lt.2 hmin, Nat.not_lt.2 hmax])]
  split <;> rfl

/-- A wait retires where it is satisfied, and rewrites its engine where it is not. -/
theorem retire_or_wait {c : TCtx} (hc : Stands c) (P : Prop) [Decidable P] (E : Engine) :
    let s' := if P then retireAt c.s c.t c.e c.cyc 1 0 false else c.s.setEngine c.t c.e E
    WithinTile c.s s' c.t c.p ∧ TileDataKept c.s s' c.t ∧ SiblingsKept c.s s' c.t c.e ∧
    if P then RetiredOne c s' 1 0 ∧ EngineKept c s' else s'.engine c.t c.e = E := by
  dsimp only
  by_cases hP : P
  · obtain ⟨⟨hone, hwithin, hdata⟩, hkept⟩ := retireAt_quietly hc 1 0 false
    simp only [if_pos hP]
    exact ⟨hwithin, hdata, (retireAt_engineOnly c.s c.t c.e c.cyc 1 0 false).siblingsKept, hone, hkept⟩
  · simp only [if_neg hP]
    exact frames_of_setEngine c.p rfl rfl

/-- The post that a field asks for goes to the tile it names (R113, R139). -/
theorem resolvePost_of_place {c : TCtx} {f : PostField} {g : Nat} (hen : f.en = true) (hinc : f.inc ≠ 0)
    (hplace : (if f.self then some c.t else c.s.globalTile c.p f.tile) = some g) :
    c.resolvePost f = .ok (some ⟨g, f.cairn, f.inc⟩) := by
  unfold TCtx.resolvePost
  rw [hen, if_neg (by simp), if_neg hinc]
  split at hplace
  next hself => rw [if_pos hself, Option.some.inj hplace]
  next hself => rw [if_neg hself, hplace]

theorem postBody_of_place {c : TCtx} {g : Nat} (hretired : c.E.retireAt < c.cyc) (hen : (postField c.w 8).en = true)
    (hinc : (postField c.w 8).inc ≠ 0)
    (hplace : (if (postField c.w 8).self then some c.t else c.s.globalTile c.p (postField c.w 8).tile) = some g) :
    postBody c = .ok (sendPost (retireAt c.s c.t c.e c.cyc 1 0 true) c.t c.e
      (some ⟨g, (postField c.w 8).cairn, (postField c.w 8).inc⟩)) := by
  unfold postBody
  dsimp only
  rw [if_neg (Nat.not_le.2 hretired), hen, resolvePost_of_place hen hinc hplace]
  rfl

/-- What a POST leaves that retires and sends its post. -/
theorem postSent_leaves {c : TCtx} (hc : Stands c) (post : Post) :
    let s' := sendPost (retireAt c.s c.t c.e c.cyc 1 0 true) c.t c.e (some post)
    RetiredOne c s' 1 0 ∧ EngineKept c s' ∧ TileDataKept c.s s' c.t ∧ s'.posts = c.s.posts ++ [⟨c.t, c.e, post⟩] ∧
    s'.stack = c.s.stack ∧ s'.channels = c.s.channels ∧ OthersKept c.s s' c.t c.p := by
  intro s'
  obtain ⟨⟨hone, ⟨-, hothers⟩, hdata⟩, hkept⟩ := retireAt_quietly hc 1 0 true
  have htiles : s'.tiles = (retireAt c.s c.t c.e c.cyc 1 0 true).tiles := sendPost_tiles _ _ _ _
  have htile := tile_congr htiles
  have hengine := engine_congr htiles
  simp only [RetiredOne, EngineKept, TileDataKept, OthersKept, SiblingsKept, ← htile, ← hengine] at hone hkept hdata hothers
  exact ⟨hone, hkept, hdata, congrArg (· ++ _) (retireAt_posts _ _ _ _ _ _ _), retireAt_stack _ _ _ _ _ _ _,
    retireAt_channels _ _ _ _ _ _ _, hothers⟩

/-- Settles O3: a LOOP and a wait that is not satisfied rewrite their engine; a wait that is satisfied and a POST retire. -/
theorem loopWaitAndPostComplete : Obligations.LoopWaitAndPostComplete := by
  refine ⟨?_, ?_, ?_, ?_⟩
  · intro s t e cyc p c h hallow
    have hexec := issue_of_ok h (mine := (· = 0x02)) rfl (loopBody_of_allowed hallow)
    have hleft := loopOpened_leaves c
    obtain ⟨-, rfl⟩ := h
    exact ⟨_, hexec, hleft⟩
  · intro s t e cyc p c h htarget
    have hexec := issue_of_ok h (mine := (· = 0x03)) rfl (waitBody_of_le htarget)
    have hleft := retire_or_wait (stands_of_issues h) (waitTarget c ≤ (cairnAt c.T (fld c.w 8 6) c.cyc : Int))
      (waitingForCairn c)
    obtain ⟨-, rfl⟩ := h
    exact ⟨_, hexec, hleft⟩
  · intro s t e cyc p c h hmin hmax
    have hexec := issue_of_ok h (mine := (· = 0x11)) rfl (waitqBody_of_range hmin hmax)
    have hleft := retire_or_wait (stands_of_issues h)
      (fld c.w 10 5 ≤ queueFree (c.s.copyChan c.t c.e (fld c.w 8 2)) c.cyc) (waitingForQueue c)
    obtain ⟨-, rfl⟩ := h
    exact ⟨_, hexec, hleft⟩
  · intro s t e cyc p g c h hretired hen hinc hplace
    obtain ⟨ht, hcyc, hp⟩ := place_of_issues h
    rw [← hcyc] at hretired
    rw [← ht, ← hp] at hplace
    have hexec := issue_of_ok h (mine := (· = 0x04)) rfl (postBody_of_place hretired hen hinc hplace)
    have hposts := posts_of_issues h
    have hstack := stack_of_issues h
    have hchannels := channels_of_issues h
    have hleft := postSent_leaves (stands_of_issues h) ⟨g, (postField c.w 8).cairn, (postField c.w 8).inc⟩
    rw [hposts, hstack, hchannels] at hleft
    obtain ⟨-, rfl⟩ := h
    exact ⟨_, hexec, hleft⟩

/-! ### DRAIN (R160 to R162) -/

/-- A DRAIN that no fault meets at its issue puts its rows in flight and retires. -/
theorem drainBody_of_allowed {c : TCtx} {f : Fmt} {r : Rnd} {g : Nat} (h : DrainAllowed c f r g) :
    drainBody c = .ok (retireAt (c.s.flyAll c.p (drainWork c.t (fld c.w 37 9 + 1) (drainOp c f g))) c.t c.e c.cyc
      ((fld c.w 37 9 + 1) * drainRowCycles c f g)
      ((fld c.w 37 9 + 1) * drainRowCycles c f g + 20 + (if g = c.t then 0 else 12)) true) := by
  obtain ⟨hf, hr, he8m0, htern, hgen, hshift, hpitch, hrow, hdst, htile, hreach, hrange, hacc⟩ := h
  have hcycles : drainRowCycles c f g = max ((fld c.w 46 9 + 1 + 63) / 64)
      ((f.rowBytes (fld c.w 46 9 + 1) + (if decide (g = c.t) then 255 else 127)) /
        (if decide (g = c.t) then 256 else 128)) := by
    rw [drainRowCycles]
    by_cases hown : g = c.t <;> simp only [hown, decide_true, decide_false, if_true, if_false, Bool.false_eq_true]
  unfold drainBody
  dsimp only
  rw [hf, hr, htile]
  dsimp only
  rw [firstCause_ok, firstCause_ok]
  · simp only [drainOp, hcycles, decide_eq_true_eq]
    rfl
  · simp only [List.forall_mem_cons, Bool.or_eq_false_iff, Bool.and_eq_false_iff, decide_eq_false_iff_not]
    exact ⟨⟨hrange, eq_false_or_of_imp fun hb => (hgen hb).2.2⟩, Nat.not_lt.2 hacc, by simp⟩
  · have hreach' : (decide (g = c.t) || isVectorTile g && decide (tileSector g = tileSector c.t)) = true := by
      simpa using hreach
    simp only [List.forall_mem_cons, Bool.or_eq_false_iff, Bool.and_eq_false_iff, decide_eq_false_iff_not,
      Bool.not_eq_false']
    exact ⟨⟨⟨he8m0, not_or_of_imp htern⟩, eq_false_or_of_imp fun hb => (hgen hb).1⟩,
      ⟨⟨⟨⟨⟨eq_false_or_of_imp fun hb => not_not.2 (hshift hb), Nat.not_lt.2 hpitch⟩, Nat.not_lt.2 hrow⟩, not_not.2 hdst⟩,
        eq_false_or_of_imp fun hb => not_not.2 (hgen hb).2.1⟩, hreach'⟩, rfl, by simp⟩

/-- What is left of an instruction that puts work in flight and retires. -/
theorem retire_withWork {c : TCtx} (hc : Stands c) (work : List Flight) (occ ret : Nat) :
    let s' := retireAt (c.s.flyAll c.p work) c.t c.e c.cyc occ ret true
    RetiredQuietly c s' occ ret ∧ EngineKept c s' ∧ NowFlying c.s s' c.p work := by
  intro s'
  have heffect : QuietEffect c.s (c.s.flyAll c.p work) c.t c.e c.p := quietEffect_modParcel _ _ _ _ rfl rfl
  obtain ⟨hquiet, hkept⟩ := heffect.retire hc occ ret true
  rw [show State.engine (c.s.flyAll c.p _) c.t c.e = c.E from hc.engine] at hkept
  exact ⟨hquiet, hkept, (flight_retireAt _ _ _ _ _ _ _ _).trans (congrArg Parcel.flight (State.parcel_modParcel_self _ _ _))⟩

/-- Settles O7: the body's effect is rows in flight, each read and converted in its cycle (the model's choice, log
entry 10), and a retirement. -/
theorem drainPutsItsRowsInFlight : Obligations.DrainPutsItsRowsInFlight := by
  intro s t e cyc p c f r g h hallow
  have hexec := issue_of_ok h (mine := (· = 0x40)) rfl (drainBody_of_allowed hallow)
  have hleft := retire_withWork (stands_of_issues h) (drainWork c.t (fld c.w 37 9 + 1) (drainOp c f g))
    ((fld c.w 37 9 + 1) * drainRowCycles c f g)
    ((fld c.w 37 9 + 1) * drainRowCycles c f g + 20 + (if g = c.t then 0 else 12))
  obtain ⟨-, rfl⟩ := h
  exact ⟨_, hexec, hleft⟩

/-! ### COPY (R150, R151, R175 to R179) -/

theorem allBelow_eq_true {f : Nat → Bool} {n : Nat} : allBelow f n = true ↔ ∀ i, i < n → f i = true := by
  induction n with
  | zero => simp [allBelow]
  | succ n ih => rw [allBelow, Bool.and_eq_true, ih, Nat.forall_lt_succ_right]

/-- The state in which the event of a corrected one of `n` constant slots from `i` has been counted (R351). -/
def slotsCounted (c : TCtx) (i n : Nat) : State :=
  if slotsCorr c.T i n then c.s.bucketEvent 1 c.t (some c.p) else c.s

theorem slotsCounted_only (c : TCtx) (i n : Nat) : ∃ l q, slotsCounted c i n = { c.s with log := l, irq := q } := by
  unfold slotsCounted
  split
  · exact c.s.bucketEvent_only 1 c.t (some c.p)
  · exact ⟨c.s.log, c.s.irq, rfl⟩

/-- An instruction goes on with good constant slots. -/
theorem withSlots_of_good {c : TCtx} {i n : Nat} (body : TCtx → Except Cause State)
    (h : TCtx.slotsBad c.T i n = false) : c.withSlots (some (i, n)) body = body { c with s := slotsCounted c i n } := by
  have hnone : errAt c.T.imemErr 2 i n = none := by simpa [TCtx.slotsBad] using h
  unfold TCtx.withSlots
  dsimp only
  rw [hnone]
  rfl

theorem copyChan_modCopyChan_ne (s : State) (t e : Nat) {ch i : Nat} (f : CopyChan → CopyChan) (h : i ≠ ch) :
    (s.modCopyChan t e ch f).copyChan t e i = s.copyChan t e i := by
  simp only [State.copyChan, State.modCopyChan, State.engine_modEngine_self]
  exact Tab.get_set_ne _ _ _ h

/-- The descriptor that a COPY enqueues. -/
def copyEntry (c : TCtx) (post : Option Post) : CopyDesc :=
  ⟨copyDescriptor c, (copyBases c (copyDescriptor c)).1, (copyBases c (copyDescriptor c)).2, post, 0, 0, c.cyc⟩

/-- The state in which a COPY has enqueued its descriptor. -/
def enqueued (c : TCtx) (post : Option Post) : State :=
  c.s.modCopyChan c.t c.e (fld c.w 8 2) fun K => { K with queue := K.queue ++ [copyEntry c post] }

theorem copyBody_of_allowed {c : TCtx} {post : Option Post} (hpost : PostStands c 28 post)
    (h : CopyAllowed c (copyDescriptor c)) :
    copyBody c = .ok (retireAt (enqueued c post) c.t c.e c.cyc 4 4 true) := by
  obtain ⟨hresolve, hfield⟩ := hpost
  obtain ⟨hslots, -, hkind, hengine, htargets, hlocal, hfar, hdest, hruns, hroom⟩ := h
  have hkinds : Desc.kind (copyDescriptor c) = 0 ∨ (isVectorTile c.t && decide (c.e = 3)) = true := by
    simpa using hengine
  have hgranules : (decide (c.e = 0) = true ∨ ¬Desc.kind (copyDescriptor c) = 0) ∨
      (sideAligned (copyDescriptor c) (copyBases c (copyDescriptor c)).2 64 false &&
        decide (Desc.run (copyDescriptor c) % 64 = 0)) = true := by
    split at hfar
    · exact .inr (by simpa using hfar)
    next hstore => exact .inl (by simpa [or_iff_not_imp_left] using hstore)
  have haligned : (!decide (c.e = 0) && decide (Desc.kind (copyDescriptor c) = 0)) = true ∨
      sideAligned (copyDescriptor c) (copyBases c (copyDescriptor c)).2 16 false = true := by
    split at hfar
    next hstore => exact .inl (by simpa using hstore)
    · exact .inr hfar
  unfold copyBody
  dsimp only
  rw [if_neg (Nat.not_lt.2 hslots), firstCause_ok, hresolve]
  · change (firstCause _ >>= _) = _
    rw [firstCause_ok]
    · rfl
    · simp only [List.forall_mem_cons, Bool.and_eq_false_iff, decide_eq_false_iff_not, Bool.not_eq_false']
      refine ⟨allBelow_eq_true.2 fun i hi => ?_, allBelow_eq_true.2 fun i hi => ?_, hgranules, hroom, by simp⟩
      · obtain ⟨-, -, hsign, hrange⟩ := hruns i hi
        simp only [hsign, hrange, decide_true, Bool.not_false, Bool.and_self]
      · obtain ⟨-, hreach, -⟩ := hruns i hi
        dsimp only [runReaches] at hreach
        generalize farPlace c.s c.p _ _ = place at hreach ⊢
        cases place with
        | tile t o => exact hreach
        | _ => rfl
  · simp only [List.forall_mem_cons, Bool.or_eq_false_iff, Bool.and_eq_false_iff, decide_eq_false_iff_not,
      Bool.not_eq_false']
    refine ⟨hfield, ⟨hkind, hkinds.imp_left not_not.2⟩, not_or_of_imp fun h => not_not.2 (htargets h), hlocal, haligned,
      allBelow_eq_true.2 fun i hi => ?_, hdest, allBelow_eq_true.2 fun i hi => ?_, by simp⟩
    · rw [(hruns i hi).1, Bool.not_false]
    · obtain ⟨-, hreach, -⟩ := hruns i hi
      dsimp only [runReaches] at hreach
      generalize farPlace c.s c.p _ _ = place at hreach ⊢
      cases place with
      | outside => exact hreach
      | stack g o => exact hreach
      | _ => rfl

/-- What a COPY leaves that is enqueued and retires. -/
theorem enqueued_leaves {c : TCtx} (hc : Stands c) (post : Option Post) (l : ErrorLog) (q : List (Nat × Nat)) :
    let s' := retireAt (enqueued { c with s := { c.s with log := l, irq := q } } post) c.t c.e c.cyc 4 4 true
    RetiredQuietly c s' 4 4 ∧ EngineKept { c with E := { c.E with chans := (s'.engine c.t c.e).chans } } s' ∧
    (∀ ch, ch ≠ fld c.w 8 2 → s'.copyChan c.t c.e ch = c.s.copyChan c.t c.e ch) ∧
    (s'.copyChan c.t c.e (fld c.w 8 2)).queue = (c.s.copyChan c.t c.e (fld c.w 8 2)).queue ++ [copyEntry c post] := by
  intro s'
  let s₀ : State := { c.s with log := l, irq := q }
  let s₁ := enqueued { c with s := s₀ } post
  have heffect : QuietEffect c.s s₁ c.t c.e c.p :=
    (quietEffect_log c.s l q c.t c.e c.p).trans (quietEffect_setEngine _ _ _ _ rfl)
  obtain ⟨hquiet, hoffs, hchans, hlaunches⟩ := heffect.retire hc 4 4 true
  have hE : s₁.engine c.t c.e = { s₀.engine c.t c.e with chans := (s₁.engine c.t c.e).chans } := by
    simp only [s₁, enqueued, State.modCopyChan, State.engine_modEngine_self]
  have hE₀ : s₀.engine c.t c.e = c.E := hc.engine
  rw [hE₀] at hE
  have hregs : (s₁.engine c.t c.e).offs = c.E.offs ∧ (s₁.engine c.t c.e).launches = c.E.launches := by
    rw [hE]
    exact ⟨rfl, rfl⟩
  refine ⟨hquiet, ⟨hoffs.trans hregs.1, rfl, hlaunches.trans hregs.2⟩, fun ch hch => ?_, ?_⟩
  · exact (copyChan_retireAt s₁ c.t c.e c.cyc 4 4 true ch).trans (copyChan_modCopyChan_ne s₀ c.t c.e _ hch)
  · refine (congrArg CopyChan.queue (copyChan_retireAt s₁ c.t c.e c.cyc 4 4 true (fld c.w 8 2))).trans ?_
    rw [show s₁.copyChan c.t c.e (fld c.w 8 2) = _ from copyChan_modCopyChan_self _ _ _ _ _]
    rfl

/-! ### CLAUNCH (R153) -/

/-- The launch that a CLAUNCH sends to unit `u` (R235, R236). -/
def launchTo (c : TCtx) (u : Nat) : LaunchFlight :=
  ⟨u, BitVec.ofNat 11 (fld c.w 38 11), BitVec.ofNat 32 (if bitAt c.w 49 then c.param (fld c.w 50 4) else fld c.w 54 32),
    c.t, c.E.retired⟩

/-- The state in which a CLAUNCH has sent its launch to the units `us`. -/
def launchesSent (c : TCtx) (us : List Nat) (post : Option Post) : State :=
  { c.s.setEngine c.t c.e { c.E with launches := c.E.launches ++ [⟨c.E.retired, us, post⟩] } with
    launches := c.s.launches ++ us.map (launchTo c) }

/-- Cycles of a CLAUNCH (R153). -/
abbrev claunchCycles (c : TCtx) : Nat := 4 + (fld c.w 17 9 + 8) / 8

theorem claunchBody_of_allowed {c : TCtx} {post : Option Post} {us : List Nat} (hpost : PostStands c 86 post)
    (hpairs : fld c.w 26 6 + fld c.w 32 6 ≤ 63) (hunits : claunchUnits c = some us) (hroom : c.E.launches.length < 8) :
    claunchBody c = .ok (retireAt (launchesSent c us post) c.t c.e c.cyc (claunchCycles c) (claunchCycles c) true) := by
  obtain ⟨hresolve, hfield⟩ := hpost
  unfold claunchBody
  dsimp only
  rw [firstCause_ok, hresolve, hunits]
  · change (if 8 ≤ c.E.launches.length then _ else _) = _
    rw [if_neg (Nat.not_le.2 hroom)]
    rfl
  · simp only [List.forall_mem_cons, decide_eq_false_iff_not]
    exact ⟨hfield, Nat.not_lt.2 hpairs, by simp⟩

/-- What a CLAUNCH leaves that sends its launches and retires. -/
theorem launchesSent_leaves {c : TCtx} (hc : Stands c) (us : List Nat) (post : Option Post) (occ : Nat) :
    let s' := retireAt (launchesSent c us post) c.t c.e c.cyc occ occ true
    TileDataKept c.s s' c.t ∧ RetiredOne c s' occ occ ∧
    (s'.engine c.t c.e).launches = c.E.launches ++ [⟨c.E.retired, us, post⟩] ∧
    EngineKept { c with E := { c.E with launches := (s'.engine c.t c.e).launches } } s' ∧
    s'.launches = c.s.launches ++ us.map (launchTo c) ∧ s'.units = c.s.units ∧ s'.stack = c.s.stack := by
  intro s'
  let s₀ := c.s.setEngine c.t c.e { c.E with launches := c.E.launches ++ [⟨c.E.retired, us, post⟩] }
  have hset : QuietEffect c.s s₀ c.t c.e c.p := quietEffect_setEngine _ _ _ _ (by rw [hc.engine])
  have heffect : Effect c.s (launchesSent c us post) c.t c.e c.p := hset.toEffect.trans (effect_launches s₀ _ _ _ _)
  obtain ⟨hone, ⟨hoffs, hchans, hlaunches⟩, -, htile, -⟩ := heffect.retire hc occ occ true
  have hE : (launchesSent c us post).engine c.t c.e =
      { c.E with launches := c.E.launches ++ [⟨c.E.retired, us, post⟩] } := State.engine_setEngine_self _ _ _ _
  simp only [hE] at hoffs hchans hlaunches
  refine ⟨?_, hone, hlaunches, ⟨hoffs, hchans, rfl⟩, retireAt_launches _ _ _ _ _ _ _, retireAt_units _ _ _ _ _ _ _,
    retireAt_stack _ _ _ _ _ _ _⟩
  rw [show ((launchesSent c us post).tile c.t).formatStatus = c.T.formatStatus from hc.tile ▸ hset.flags] at htile
  rw [TileDataKept, hc.tile]
  exact htile

/-- Settles O4: a COPY joins its channel's queue and retires; a CLAUNCH joins its engine's launches, sends them and
retires. -/
theorem copyAndClaunchEnqueue : Obligations.CopyAndClaunchEnqueue := by
  refine ⟨?_, ?_⟩
  · intro s t e cyc p c post h hpost hallow
    obtain ⟨hin, hgood, -⟩ := id hallow
    obtain ⟨l, q, hcounted⟩ := slotsCounted_only c (fld c.w 10 12) 4
    have hbody : copyBody { c with s := { c.s with log := l, irq := q } } = _ := copyBody_of_allowed hpost hallow
    have hexec := issue_of_ok h (mine := (· = 0x10)) rfl (body := fun c =>
      c.withSlots (if fld c.w 10 12 + 3 ≤ 4095 then some (fld c.w 10 12, 4) else none) copyBody)
      (by rw [if_pos hin, withSlots_of_good _ hgood, hcounted]; exact hbody)
    have hleft := enqueued_leaves (stands_of_issues h) post l q
    obtain ⟨-, rfl⟩ := h
    exact ⟨_, hexec, hleft⟩
  · intro s t e cyc p c post us h hpost hpairs hunits hroom
    have hexec := issue_of_ok h (mine := (· = 0x50)) rfl (claunchBody_of_allowed hpost hpairs hunits hroom)
    have hlaunches := launches_of_issues h
    have hstack := stack_of_issues h
    have hleft := launchesSent_leaves (stands_of_issues h) us post (claunchCycles c)
    rw [hlaunches, hstack] at hleft
    obtain ⟨-, rfl⟩ := h
    exact ⟨_, hexec, hleft⟩

/-! ### Writes that land as their instruction retires (R142, R250) -/

/-- The state in which the writes `ws` are in flight for the cycle of retirement, one after another. -/
def landAll (c : TCtx) (ret : Nat) (ws : List (Nat × List Byte)) (s : State) : State :=
  ws.foldl (fun s w => c.land s ret w.1 w.2) s

theorem landAll_append (c : TCtx) (ret : Nat) (ws : List (Nat × List Byte)) (w : Nat × List Byte) (s : State) :
    landAll c ret (ws ++ [w]) s = c.land (landAll c ret ws s) ret w.1 w.2 := List.foldl_append

theorem flight_landAll (c : TCtx) (ret : Nat) (ws : List (Nat × List Byte)) (s : State) :
    ((landAll c ret ws s).parcel c.p).flight =
      (landings c ret ws).foldl (fun l f => placeFlight f l) (s.parcel c.p).flight := by
  induction ws generalizing s with
  | nil => rfl
  | cons w ws ih =>
    refine (ih (c.land s ret w.1 w.2)).trans ?_
    rw [TCtx.land, State.fly_flight]
    rfl

theorem quietEffect_landAll (c : TCtx) (ret : Nat) (ws : List (Nat × List Byte)) (s : State) :
    QuietEffect s (landAll c ret ws s) c.t c.e c.p := by
  induction ws generalizing s with
  | nil => exact .refl _ _ _ _
  | cons w ws ih =>
    have hland : QuietEffect s (c.land s ret w.1 w.2) c.t c.e c.p := by
      rw [TCtx.land]
      exact quietEffect_modParcel s c.t c.e c.p (by rfl) (by rfl)
    exact hland.trans (ih _)

theorem engine_landAll (c : TCtx) (ret : Nat) (ws : List (Nat × List Byte)) (s : State) :
    (landAll c ret ws s).engine c.t c.e = s.engine c.t c.e := by
  induction ws generalizing s with
  | nil => rfl
  | cons w ws ih => exact ih (c.land s ret w.1 w.2)

/-- The state in which the writes are in flight, the flags `fl` are raised and the destinations are noted. -/
def writesNoted (c : TCtx) (s : State) (ret : Nat) (ws : List (Nat × List Byte)) (fl : FFlags)
    (dsts : List (Nat × Nat)) : State :=
  noteDst ((landAll c ret ws s).tileFlags c.t c.e fl) c.t c.e c.cyc ret dsts

theorem tileFlags_zero (s : State) (t e : Nat) : s.tileFlags t e 0 = s := if_pos rfl

/-- An instruction that raises no flag only notes its destinations. -/
theorem noteDst_landAll (c : TCtx) (s : State) (ret : Nat) (ws : List (Nat × List Byte)) (dsts : List (Nat × Nat)) :
    noteDst (landAll c ret ws s) c.t c.e c.cyc ret dsts = writesNoted c s ret ws 0 dsts := by
  rw [writesNoted, tileFlags_zero]

theorem engine_tileFlags (s : State) (t e : Nat) (f : FFlags) (i j : Nat) :
    (s.tileFlags t e f).engine i j = s.engine i j := by
  rw [State.engine, tile_tileFlags]
  rfl

theorem effect_writesNoted (c : TCtx) (s : State) (ret : Nat) (ws : List (Nat × List Byte)) (fl : FFlags)
    (dsts : List (Nat × Nat)) : Effect s (writesNoted c s ret ws fl dsts) c.t c.e c.p :=
  ((quietEffect_landAll c ret ws s).toEffect.trans (effect_tileFlags _ _ _ _ _)).trans
    (quietEffect_setEngine _ _ _ _ rfl).toEffect

/-- The engine notes the destinations and keeps its other registers. -/
theorem engine_writesNoted (c : TCtx) (s : State) (ret : Nat) (ws : List (Nat × List Byte)) (fl : FFlags)
    (dsts : List (Nat × Nat)) :
    let E' := (writesNoted c s ret ws fl dsts).engine c.t c.e
    E' = { s.engine c.t c.e with pendingDst := E'.pendingDst } := by
  simp only [writesNoted, noteDst, State.engine_modEngine_self, engine_tileFlags, engine_landAll]

theorem launches_writesNoted (c : TCtx) (s : State) (ret : Nat) (ws : List (Nat × List Byte)) (fl : FFlags)
    (dsts : List (Nat × Nat)) : (writesNoted c s ret ws fl dsts).launches = s.launches :=
  (State.tileFlags_launches _ _ _ _).trans (quietEffect_landAll c ret ws s).launches

theorem flight_writesNoted (c : TCtx) (s : State) (ret : Nat) (ws : List (Nat × List Byte)) (fl : FFlags)
    (dsts : List (Nat × Nat)) :
    ((writesNoted c s ret ws fl dsts).parcel c.p).flight =
      (landings c ret ws).foldl (fun l f => placeFlight f l) (s.parcel c.p).flight := by
  rw [← flight_landAll, writesNoted, noteDst, State.modEngine, parcel_setEngine, parcel_tileFlags]

/-- Writes that happen in one cycle and fly alone. -/
def writesAt (cyc rank t : Nat) (ws : List (Nat × List Byte)) : List Flight :=
  ws.map fun w => ⟨cyc, rank, .scratch t w.1 w.2⟩

/-- Writes that fly alone are made in their order (R142). -/
theorem scratch_settleRun_writes {p t cyc rank upto : Nat} (hcyc : cyc < upto) {ws : List (Nat × List Byte)} {s : State}
    {n : Nat} (hs : (s.parcel p).flight = writesAt cyc rank t ws) (hn : ws.length ≤ n) :
    ((settleRun p upto n s).tile t).scratch = written (s.tile t).scratch ws := by
  induction ws generalizing s n with
  | nil =>
    rw [settleRun_later p upto n (by rw [hs]; simp [writesAt])]
    rfl
  | cons w ws ih =>
    obtain ⟨n, rfl⟩ := Nat.exists_eq_add_one.2 (Nat.lt_of_lt_of_le (Nat.succ_pos _) hn)
    rw [settleRun_succ (rest := writesAt cyc rank t ws) hs hcyc, ih ?_ (Nat.le_of_succ_le_succ hn)]
    · simp [workDone, doWork, writeScratch, written]
    · simp [workDone, doWork, writeScratch]

/-- Once their cycle is over, writes that fly alone lie in the scratchpad. -/
theorem scratch_settle_writes {p t cyc rank upto : Nat} (hcyc : cyc < upto) {ws : List (Nat × List Byte)} {s : State}
    (hs : (s.parcel p).flight = writesAt cyc rank t ws) :
    ((s.settle p upto).tile t).scratch = written (s.tile t).scratch ws := by
  have hfuel := length_le_fuel (s.parcel p).flight
  rw [hs, writesAt, List.length_map] at hfuel
  rw [State.settle, tile_modParcel]
  exact scratch_settleRun_writes hcyc hs (by rw [hs]; exact hfuel)

/-- Writes of one instruction fly in their order where nothing else does. -/
theorem foldl_landings (c : TCtx) (ret : Nat) (ws : List (Nat × List Byte)) :
    (landings c ret ws).foldl (fun l f => placeFlight f l) [] = landings c ret ws := by
  rw [foldl_placeFlight_sorted _ (by simp), List.nil_append]
  refine List.pairwise_map.2 (List.pairwise_of_forall fun x y => ?_)
  simp [Flight.before]

/-- An instruction that puts writes in flight for the cycle of its retirement, raises flags, notes its destinations and
retires. -/
theorem writesAtRetirement_of_noted {c : TCtx} (hc : Stands c) {s₀ : State}
    (hs₀ : ∃ l q, s₀ = { c.s with log := l, irq := q }) (occ ret : Nat) (ws : List (Nat × List Byte)) (fl : FFlags)
    (dsts : List (Nat × Nat)) :
    WritesAtRetirement c (retireAt (writesNoted c s₀ ret ws fl dsts) c.t c.e c.cyc occ ret true) occ ret ws := by
  obtain ⟨l, q, rfl⟩ := hs₀
  let s₀ : State := { c.s with log := l, irq := q }
  let s₁ := writesNoted c s₀ ret ws fl dsts
  have heffect : Effect c.s s₁ c.t c.e c.p :=
    (quietEffect_log c.s l q c.t c.e c.p).toEffect.trans (effect_writesNoted c s₀ ret ws fl dsts)
  obtain ⟨hone, ⟨hoffs, hchans, hlaunches⟩, -, htile, hwithin⟩ := heffect.retire hc occ ret true
  have hE : s₁.engine c.t c.e = { c.E with pendingDst := (s₁.engine c.t c.e).pendingDst } := by
    rw [← hc.engine]
    exact engine_writesNoted c s₀ ret ws fl dsts
  have hregs : (s₁.engine c.t c.e).offs = c.E.offs ∧ (s₁.engine c.t c.e).chans = c.E.chans ∧
      (s₁.engine c.t c.e).launches = c.E.launches := by
    rw [hE]
    exact ⟨rfl, rfl, rfl⟩
  obtain ⟨hoffs₁, hchans₁, hlaunches₁⟩ := hregs
  have hflags : ((retireAt s₁ c.t c.e c.cyc occ ret true).tile c.t).formatStatus = (s₁.tile c.t).formatStatus := by
    rw [htile]
  have hflight : NowFlying c.s (retireAt s₁ c.t c.e c.cyc occ ret true) c.p (landings c ret ws) :=
    (flight_retireAt _ _ _ _ _ _ _ _).trans (flight_writesNoted c s₀ ret ws fl dsts)
  have hscratch : ((retireAt s₁ c.t c.e c.cyc occ ret true).tile c.t).scratch = c.T.scratch := by rw [htile]
  refine ⟨hone, ⟨hoffs.trans hoffs₁, hchans.trans hchans₁, hlaunches.trans hlaunches₁⟩,
    hwithin (launches_writesNoted c s₀ ret ws fl dsts), by rw [hflags]; exact htile, hflight, fun hnil => ?_⟩
  rw [NowFlying, hnil, foldl_landings] at hflight
  exact (scratch_settle_writes (Nat.lt_succ_self _) hflight).trans (congrArg (written · ws) hscratch)

/-- The body of an instruction answers with the writes `ws` in flight, events counted, flags raised, destinations noted and
its retirement. -/
def PutsWrites (c : TCtx) (answer : Except Cause State) (occ ret : Nat) (ws : List (Nat × List Byte)) : Prop :=
  ∃ s₀ fl dsts, (∃ l q, s₀ = { c.s with log := l, irq := q }) ∧
    answer = .ok (retireAt (writesNoted c s₀ ret ws fl dsts) c.t c.e c.cyc occ ret true)

/-- A row whose body puts writes in flight answers with them landing at its retirement. -/
theorem issue_writes {s : State} {t : TileId} {e : EngineId} {cyc p op occ ret : Nat} {c : TCtx} {mine : Nat → Bool}
    {body : TCtx → Except Cause State} {ws : List (Nat × List Byte)} (h : Issues s t e cyc p op c) (hm : mine op = true)
    (hb : PutsWrites c (body c) occ ret ws) :
    ∃ s', issue s t e cyc mine body = .next s' ∧ WritesAtRetirement c s' occ ret ws := by
  obtain ⟨s₀, fl, dsts, hs₀, hb⟩ := hb
  exact ⟨_, issue_of_ok h hm hb, writesAtRetirement_of_noted (stands_of_issues h) hs₀ occ ret ws fl dsts⟩

/-! ### GXPOSE and GPERM (R167, R168, R185, R186) -/

/-- The destination rows of a transpose, from row 0 on. -/
def transposeWrites (c : TCtx) (src ss dst ds rows w cols : Nat) : List (Nat × List Byte) :=
  (List.range cols).map fun k => (dst + k * ds * 16, transposed c.T.scratch src ss rows w k)

theorem landColumns_eq_landAll (c : TCtx) (ret src ss dst ds rows w cols : Nat) (s : State) :
    landColumns c ret src ss dst ds rows w cols s = landAll c ret (transposeWrites c src ss dst ds rows w cols) s := by
  induction cols with
  | zero => rfl
  | succ k ih =>
    rw [transposeWrites, List.range_succ, List.map_append, List.map_singleton, landAll_append, landColumns, ih]
    rfl

theorem findSome_range_eq_none {α : Type} {n : Nat} {f : Nat → Option α} (h : ∀ i, i < n → f i = none) :
    (List.range n).findSome? f = none :=
  List.findSome?_eq_none_iff.2 fun i hi => h i (List.mem_range.1 hi)

/-- Cycles that a GXPOSE occupies its engine: its sub-blocks of Table 7.9, and 8 (R167). -/
abbrev gxposeCycles (c : TCtx) : Nat :=
  ((fld c.w 78 8 + (subBlock (fld c.w 94 2)).1) / (subBlock (fld c.w 94 2)).1) *
    ((fld c.w 86 8 + (subBlock (fld c.w 94 2)).2) / (subBlock (fld c.w 94 2)).2) + 8

/-- A GXPOSE that no fault meets puts its destination rows in flight. -/
theorem gxposeBody_of_allowed {c : TCtx} (h : GxposeAllowed c) :
    PutsWrites c (gxposeBody c) (gxposeCycles c) (gxposeCycles c + 24)
      (transposeWrites c (c.ea 8 20 1 28) (fld c.w 31 12) (c.ea 43 20 1 63) (fld c.w 66 12) (fld c.w 78 8 + 1)
        (elemWidth (fld c.w 94 2)) (fld c.w 86 8 + 1)) := by
  obtain ⟨hhazard, hwidth, hsize, hsrow, hdrow, hsrc, hdst, hapart, hsrange, hdrange, hgood⟩ := h
  refine ⟨countScratch c c.s ((List.range (fld c.w 78 8 + 1)).map fun i =>
      (c.ea 8 20 1 28 + i * fld c.w 31 12 * 16, (fld c.w 86 8 + 1) * elemWidth (fld c.w 94 2))), 0,
    [(c.ea 43 20 1 63, fld c.w 86 8 * fld c.w 66 12 * 16 + (fld c.w 78 8 + 1) * elemWidth (fld c.w 94 2))],
    countScratch_only _ _ _, ?_⟩
  unfold gxposeBody
  dsimp only
  rw [hhazard, if_neg (by simp), firstCause_ok]
  · rw [findSome_range_eq_none fun i hi => scratchBad_eq_false.1 (hgood i hi), landColumns_eq_landAll]
    dsimp only [bind, Except.bind]
    rw [noteDst_landAll]
    simp only [Nat.add_right_comm _ 1, Nat.add_sub_cancel]
  · simp only [List.forall_mem_cons, Bool.or_eq_false_iff, decide_eq_false_iff_not]
    exact ⟨⟨⟨⟨⟨⟨⟨hwidth, Nat.not_lt.2 hsize⟩, Nat.not_lt.2 hsrow⟩, Nat.not_lt.2 hdrow⟩, not_not.2 hsrc⟩, not_not.2 hdst⟩,
      hapart⟩, ⟨hsrange, hdrange⟩, by simp⟩

/-- The blocks of a GPERM after the stages of its program (R185). -/
def permuteWrites (c : TCtx) (src dst ew : Nat) (slots : List Nat) (blocks : Nat) : List (Nat × List Byte) :=
  (List.range blocks).map fun k =>
    (dst + 256 * k,
      (applyStages (8 - ew) 0 (slots.take (2 * (8 - ew) - 1))
        ((List.range (256 / elemWidth ew)).map fun i =>
          Mem.readBytes c.T.scratch (src + 256 * k + i * elemWidth ew) (elemWidth ew))).flatten)

theorem landBlocks_eq_landAll (c : TCtx) (ret src dst ew : Nat) (slots : List Nat) (blocks : Nat) (s : State) :
    landBlocks c ret src dst ew slots blocks s = landAll c ret (permuteWrites c src dst ew slots blocks) s := by
  induction blocks with
  | zero => rfl
  | succ k ih =>
    rw [permuteWrites, List.range_succ, List.map_append, List.map_singleton, landAll_append, landBlocks, ih]
    rfl

/-- The slots of a GPERM's program. -/
def programSlots (c : TCtx) : List Nat := (List.range 16).map fun i => (Tab.get 0 c.T.imem (fld c.w 62 12 + i)).toNat

/-- A GPERM that no fault meets puts its permuted blocks in flight. -/
theorem gpermBody_of_allowed {c : TCtx} (h : GpermAllowed c) :
    PutsWrites c (gpermBody c) (fld c.w 54 8 + 9) (fld c.w 54 8 + 33)
      (permuteWrites c (c.ea 8 20 1 28) (c.ea 31 20 1 51) (fld c.w 74 2) (programSlots c) (fld c.w 54 8 + 1)) := by
  obtain ⟨hin, hslots, hhazard, hwidth, hsrc, hdst, hapart, hprogram, hsrange, hdrange, hgood⟩ := h
  refine ⟨countScratch c (slotsCounted c (fld c.w 62 12) 16) ((List.range (fld c.w 54 8 + 1)).map fun i =>
    (c.ea 8 20 1 28 + 256 * i, 256)), 0, [(c.ea 31 20 1 51, 256 * (fld c.w 54 8 + 1))], ?_, ?_⟩
  · obtain ⟨l, q, hcounted⟩ := slotsCounted_only c (fld c.w 62 12) 16
    obtain ⟨l', q', hread⟩ := countScratch_only c { c.s with log := l, irq := q }
      ((List.range (fld c.w 54 8 + 1)).map fun i => (c.ea 8 20 1 28 + 256 * i, 256))
    exact ⟨l', q', by rw [hcounted]; exact hread⟩
  unfold gpermBody
  dsimp only
  rw [hhazard, if_neg (by simp), if_pos hin, withSlots_of_good _ hslots]
  dsimp only
  rw [firstCause_ok, scratchBad_eq_false.1 hgood]
  · rw [landBlocks_eq_landAll]
    dsimp only [bind, Except.bind]
    rw [noteDst_landAll]
    rfl
  · simp only [List.forall_mem_cons, Bool.or_eq_false_iff, decide_eq_false_iff_not]
    exact ⟨⟨⟨⟨⟨⟨Nat.not_lt.2 hin, hwidth⟩, not_not.2 hsrc⟩, not_not.2 hdst⟩, hapart⟩, hprogram⟩, ⟨hsrange, hdrange⟩,
      by simp⟩

/-- Settles O10: a GXPOSE puts its destination rows in flight, a GPERM its permuted blocks, and both retire. They
read their source at issue (the model's choice, log entry 10). -/
theorem graticuleTransposesAndPermutes : Obligations.GraticuleTransposesAndPermutes := by
  refine ⟨fun s t e cyc p c h hallow => ?_, fun s t e cyc p c h hallow => ?_⟩
  · exact issue_writes h (mine := (· = 0xA0)) rfl (gxposeBody_of_allowed hallow)
  · exact issue_writes h (mine := (· = 0xA1)) rfl (gpermBody_of_allowed hallow)

/-! ### The VECTOR operations (R141, R163 to R166) -/

/-- The command of a row of Table 6.12 is the issue of its opcode. -/
theorem exec_vectorRow {op : Nat} {t : TileId} {e : EngineId} {cyc : Nat} {row : Instr}
    (h : vectorRow op t e cyc = some row) (s : State) : exec row s = issue s t e cyc (· = op) vectorBody := by
  unfold vectorRow at h
  split at h
  all_goals cases h
  all_goals rfl

/-- Cycles that a VECTOR operation occupies its engine (Table 6.12). -/
abbrev vectorCycles (c : TCtx) (op : Nat) : Nat := (fld c.w 77 12 + 64) / 64 * vecRate op

/-- Cycles from its issue to its retirement (R163). -/
abbrev vectorLatency (c : TCtx) (op : Nat) : Nat := vectorCycles c op + 10 + (if vecReduce op then 6 else 0)

/-- Where the bytes of ranges lie. -/
abbrev places (rs : List VRange) : List (Nat × Nat) := rs.map fun x => (x.lo, x.n)

/-- The checks of a VECTOR operation, in the order of R134 (R163, R164). -/
def vectorChecks (c : TCtx) (op : Nat) (fa fb fd : Fmt) : List (Bool × Cause) :=
  [(vecFormatBad op fa fb fd (fld c.w 105 2) || (Rnd.ofField (fld c.w 101 2)).isNone, .illegalFormat),
   (vecA c % 4 ≠ 0 || vecD c % 4 ≠ 0 || (usesB op && vecB c % 4 ≠ 0) || (vecScaled c op && vecS c % 8 ≠ 0), .illegalField),
   (lenRagged fa (fld c.w 77 12 + 1) || (vecTwo op && !bitAt c.w 104 && lenRagged fb (fld c.w 77 12 + 1)) ||
     (!vecReduce op && lenRagged fd (fld c.w 77 12 + 1)) || (op = 0x78 && (fld c.w 77 12 + 1) % 2 ≠ 0), .illegalField),
   ((vecDests c op fb fd).any (fun x => (vecSources c op fa fb).any (overlapBad x)), .illegalField),
   ((vecSources c op fa fb ++ vecDests c op fb fd).any (fun x => TCtx.scratchOver c.t x.lo x.n), .scratchRange)]

/-- The state in which the corrected bytes that the operation reads have been counted. -/
def vectorRead (c : TCtx) (op : Nat) (fa fb fd : Fmt) : State := countScratch c c.s (places (vecReads c op fa fb fd))

/-- The results of the operation that is no split, converted to the destination format (R163). -/
def vectorConverted (c : TCtx) (op : Nat) (fa fb fd : Fmt) (r : Rnd) : List Nat × List Nat × FFlags :=
  vecConvert fd r (bitAt c.w 103) (fld c.w 105 2 = 3) ((vecResults c op fa fb fd).map (·.1))

/-- The flags that the operation raises: of its conversion, and on the way (R64). -/
def vectorFlags (c : TCtx) (op : Nat) (fa fb fd : Fmt) (r : Rnd) : FFlags :=
  (vectorConverted c op fa fb fd r).2.2 ||| joinFlags ((vecResults c op fa fb fd).map (·.2))

/-- The state in which the results of an operation that is no split are in flight. -/
def resultsLanding (c : TCtx) (op : Nat) (fa fb fd : Fmt) (r : Rnd) : State :=
  let s := c.land (vectorRead c op fa fb fd) (vectorLatency c op) (vecD c)
    (fd.packRow (vectorConverted c op fa fb fd r).1 0)
  if fld c.w 105 2 = 3 then
    c.land s (vectorLatency c op) (vecS c) ((vectorConverted c op fa fb fd r).2.1.map (BitVec.ofNat 8))
  else s

/-- The state in which the hi and lo parts of a split are in flight. -/
def partsLanding (c : TCtx) (op : Nat) (fa fb fd : Fmt) : State :=
  c.land
    (c.land (vectorRead c op fa fb fd) (vectorLatency c op) (vecD c) (fd.packRow ((splitParts c op fa).map (·.1)) 0))
    (vectorLatency c op) (vecB c) (fb.packRow ((splitParts c op fa).map (·.2)) 0)

/-- An operation ends with its destinations noted and its retirement. -/
def vectorRetired (c : TCtx) (op : Nat) (fb fd : Fmt) (s : State) : State :=
  retireAt (noteDst s c.t c.e c.cyc (vectorLatency c op) (places (vecDests c op fb fd))) c.t c.e c.cyc (vectorCycles c op)
    (vectorLatency c op) true

/-- A VECTOR operation of known formats, in the words of the statement. -/
theorem vectorBody_of_formats {c : TCtx} {fa fb fd : Fmt} (hfa : Fmt.ofCode (fld c.w 89 4) = some fa)
    (hfb : (if usesB (c.w % 256) then Fmt.ofCode (fld c.w 93 4) else some .fp32) = some fb)
    (hfd : Fmt.ofCode (fld c.w 97 4) = some fd) :
    let op := c.w % 256
    let r := (Rnd.ofField (fld c.w 101 2)).getD .rne
    vectorBody c =
      if hazard c.E c.cyc (places (vecReads c op fa fb fd)) then .ok c.s0
      else (firstCause (vectorChecks c op fa fb fd)).bind fun _ =>
        match (vecReads c op fa fb fd).findSome? fun x => scratchBadAt c.T x.lo x.n with
        | some b => .ok (c.sramFault b)
        | none =>
          if vecSplit op then .ok (vectorRetired c op fb fd (partsLanding c op fa fb fd))
          else .ok (vectorRetired c op fb fd
            ((resultsLanding c op fa fb fd r).tileFlags c.t c.e (vectorFlags c op fa fb fd r))) := by
  have hfb' : (if (vecTwo (c.w % 256) || vecSplit (c.w % 256)) = true then Fmt.ofCode (fld c.w 93 4) else some Fmt.fp32) =
      some fb := hfb
  unfold vectorBody
  dsimp only
  rw [hfa, hfb', hfd]
  rfl

/-- None of the checks of a VECTOR operation that R163 and R164 allow meets a fault. -/
theorem vectorChecks_allowed {c : TCtx} {op : Nat} {fa fb fd : Fmt} {r : Rnd} (h : VectorAllowed c op fa fb fd r) :
    firstCause (vectorChecks c op fa fb fd) = .ok () := by
  obtain ⟨-, -, -, hr, -, hformat, ha, hd, hb, hs, hraggedA, hraggedB, hraggedD, hpairs, hoverlap, hrange, -⟩ := h
  refine firstCause_ok ?_
  simp only [vectorChecks, List.forall_mem_cons, Bool.or_eq_false_iff, Bool.and_eq_false_iff, decide_eq_false_iff_not,
    Bool.not_eq_false', List.any_eq_false, Bool.not_eq_true]
  refine ⟨⟨hformat, by rw [hr]; rfl⟩, ⟨⟨⟨not_not.2 ha, not_not.2 hd⟩, eq_false_or_of_imp fun h => not_not.2 (hb h)⟩,
    eq_false_or_of_imp fun h => not_not.2 (hs h)⟩, ⟨⟨⟨hraggedA, ?_⟩, ?_⟩, not_or_of_imp fun h => not_not.2 (hpairs h)⟩,
    hoverlap, hrange, by simp⟩
  · cases htwo : vecTwo op with
    | false => exact .inl (.inl rfl)
    | true =>
      cases hcast : bitAt c.w 104 with
      | false => exact .inr (hraggedB htwo hcast)
      | true => exact .inl (.inr rfl)
  · cases hreduce : vecReduce op with
    | false => exact .inr (hraggedD hreduce)
    | true => exact .inl rfl

/-- The parts of a split fly as what it writes. -/
theorem partsLanding_eq {c : TCtx} {op : Nat} (fa fb fd : Fmt) (r : Rnd) (h : vecSplit op = true) :
    partsLanding c op fa fb fd =
      landAll c (vectorLatency c op) (vecWrites c op fa fb fd r) (vectorRead c op fa fb fd) := by
  rw [vecWrites, if_pos h]
  rfl

/-- The results of an operation that is no split fly as what it writes. -/
theorem resultsLanding_eq {c : TCtx} {op : Nat} (fa fb fd : Fmt) (r : Rnd) (h : vecSplit op = false) :
    resultsLanding c op fa fb fd r =
      landAll c (vectorLatency c op) (vecWrites c op fa fb fd r) (vectorRead c op fa fb fd) := by
  rw [vecWrites, if_neg (by simp [h]), resultsLanding]
  dsimp only
  split <;> rfl

/-- A VECTOR operation that nothing holds back and no fault meets puts its results in flight. -/
theorem vectorBody_of_allowed {c : TCtx} {op : Nat} {fa fb fd : Fmt} {r : Rnd} (hop : c.w % 256 = op)
    (h : VectorAllowed c op fa fb fd r) :
    PutsWrites c (vectorBody c) (vectorCycles c op) (vectorLatency c op) (vecWrites c op fa fb fd r) := by
  have hchecks := vectorChecks_allowed h
  obtain ⟨hfa, hfb, hfd, hr, hhazard, -, -, -, -, -, -, -, -, -, -, -, hgood⟩ := h
  have hfb' : (if usesB op then Fmt.ofCode (fld c.w 93 4) else some .fp32) = some fb := by
    split at hfb
    next huses => rw [if_pos huses, hfb]
    next huses => rw [if_neg huses, hfb]
  subst hop
  have hbody := vectorBody_of_formats hfa hfb' hfd
  dsimp only at hbody
  rw [hhazard, if_neg (by simp), hchecks, hr, Option.getD_some,
    List.findSome?_eq_none_iff.2 fun x hx => scratchBad_eq_false.1 (hgood x hx)] at hbody
  dsimp only [Except.bind] at hbody
  cases hsplit : vecSplit (c.w % 256) with
  | true =>
    rw [if_pos hsplit, partsLanding_eq fa fb fd r hsplit, vectorRetired, noteDst_landAll] at hbody
    exact ⟨_, _, _, countScratch_only _ _ _, hbody⟩
  | false =>
    rw [if_neg (by simp [hsplit]), resultsLanding_eq fa fb fd r hsplit] at hbody
    exact ⟨_, _, _, countScratch_only _ _ _, hbody⟩

/-- Settles O9: the body's effect is its results in flight, its flags raised, its destinations noted and a retirement.
It reads its operands at issue (the model's choice, log entry 10). -/
theorem vectorOperationsWriteResults : Obligations.VectorOperationsWriteResults := by
  intro s t e cyc p op c row fa fb fd r hrow h hallow
  rw [exec_vectorRow hrow]
  exact issue_writes h (decide_eq_true rfl) (vectorBody_of_allowed (opcode_of_issues h) hallow)

end Sys2Proof.Proofs.TileInstructions
end

section
/-! PROOFS. The family of 08_pereo_stacks.md: the fixed slots of a channel, page clears, whole-channel clearing and
training. -/

namespace Sys2Proof.Proofs.PereoStacks

open Sys2Proof Sys2Proof.Machine Sys2Proof.Claims Sys2Proof.Proofs.ArrayTiles Sys2Proof.Proofs.Engines

/-! ### Reading back -/

theorem channel_congr {s s' : State} (h : s'.channels = s.channels) (c : Nat) : s'.channel c = s.channel c := by
  simp only [State.channel, h]

/-- What a fold keeps, where each of its steps keeps it. -/
theorem foldl_keeps {α β γ : Type} (f : α → β → α) (g : α → γ) (h : ∀ a b, g (f a b) = g a) (l : List β) (a : α) :
    g (l.foldl f a) = g a := by
  induction l generalizing a with
  | nil => rfl
  | cons b l ih => exact (ih (f a b)).trans (h a b)

/-- A step of a fold that keeps what the steps before it brought about leaves it at the end. -/
theorem foldl_reaches {α β : Type} {f : α → β → α} {P : α → Prop} (hkeep : ∀ a b, P a → P (f a b)) {x : β}
    (hx : ∀ a, P (f a x)) {l : List β} (hmem : x ∈ l) (a : α) : P (l.foldl f a) := by
  induction l generalizing a with
  | nil => cases hmem
  | cons b l ih =>
    rcases List.mem_cons.1 hmem with rfl | hmem
    · exact List.foldlRecOn l f (hx a) fun a ha b _ => hkeep a b ha
    · exact ih hmem (f a b)

/-! ### What the counts and swaps of lanes touch (R210) -/

/-- From `s` to `s'` nothing has changed but the lane counts, the lane map and LANE_DEGRADED of channel `c`, the error log and
the interrupts waiting. -/
structure LanesOnly (s s' : State) (c : Nat) : Prop where
  within : s' = { s with channels := s'.channels, log := s'.log, irq := s'.irq }
  others : OtherChannelsKept s s' c
  own : s'.channel c = { s.channel c with
    laneDegraded := (s'.channel c).laneDegraded, laneMap := (s'.channel c).laneMap
    laneCorrected := (s'.channel c).laneCorrected, laneWindow := (s'.channel c).laneWindow
    laneLastSeg := (s'.channel c).laneLastSeg, swapDue := (s'.channel c).swapDue }

theorem LanesOnly.refl (s : State) (c : Nat) : LanesOnly s s c := ⟨rfl, fun _ _ => rfl, rfl⟩

theorem LanesOnly.trans {s s' s'' : State} {c : Nat} (h : LanesOnly s s' c) (h' : LanesOnly s' s'' c) :
    LanesOnly s s'' c where
  within := h'.within.trans (by rw [h.within])
  others i hi := (h'.others i hi).trans (h.others i hi)
  own := by rw [h'.own, h.own]

/-- A step that changes channel `c` in its lanes alone, and then perhaps the log. -/
theorem lanesOnly_modChannel (s : State) (c : Nat) {f : Channel → Channel}
    (h : f (s.channel c) = { s.channel c with
      laneDegraded := (f (s.channel c)).laneDegraded, laneMap := (f (s.channel c)).laneMap
      laneCorrected := (f (s.channel c)).laneCorrected, laneWindow := (f (s.channel c)).laneWindow
      laneLastSeg := (f (s.channel c)).laneLastSeg, swapDue := (f (s.channel c)).swapDue }) :
    LanesOnly s (s.modChannel c f) c where
  within := rfl
  others _ hi := State.channel_modChannel_ne _ _ hi
  own := by rw [State.channel_modChannel_self]; exact h

theorem lanesOnly_logEvent (s : State) (c code source inst : Nat) (p : Option Nat) (sub detail : Nat) :
    LanesOnly s (s.logEvent code source inst p sub detail) c := by
  obtain ⟨l, i, h⟩ := s.logEvent_only code source inst p sub detail
  rw [h]
  exact ⟨rfl, fun _ _ => rfl, rfl⟩

theorem lanesOnly_laneReached (s : State) (c i : Nat) : LanesOnly s (laneReached s c i) c := by
  unfold laneReached
  dsimp only
  split
  · exact .refl s c
  split
  · exact lanesOnly_modChannel s c rfl
  split
  · exact .refl s c
  · exact (lanesOnly_modChannel s c rfl).trans (lanesOnly_logEvent _ _ _ _ _ _ _ _)

theorem lanesOnly_countLane (s : State) (c g i : Nat) : LanesOnly s (countLane s c g i) c := by
  unfold countLane
  dsimp only
  split
  · exact .refl s c
  · exact (lanesOnly_modChannel s c rfl).trans (lanesOnly_laneReached _ _ _)

theorem lanesOnly_countLanes (s : State) (c g : Nat) (errs : List (Nat × Nat)) (gs : List Nat) :
    LanesOnly s (countLanes s c g errs gs) c :=
  List.foldlRecOn (motive := fun s' => LanesOnly s s' c) _ _ (.refl s c) fun _ h _ _ =>
    h.trans (lanesOnly_countLane _ _ _ _)

theorem lanesOnly_swapLanes (c : Nat) (l : List Nat) (s : State) : LanesOnly s (swapLanes s c l) c := by
  induction l generalizing s with
  | nil => exact lanesOnly_modChannel s c rfl
  | cons i l ih =>
    refine LanesOnly.trans ?_ (ih _)
    split
    · exact (lanesOnly_modChannel s c rfl).trans (lanesOnly_logEvent _ _ _ _ _ _ _ _)
    split
    · exact (lanesOnly_modChannel s c rfl).trans (lanesOnly_logEvent _ _ _ _ _ _ _ _)
    · exact (lanesOnly_modChannel s c rfl).trans (lanesOnly_logEvent _ _ _ _ _ _ _ _)

/-! ### The frame counters (R193) -/

theorem find_map_snd {α : Type} (f : Nat → α → α) (t : Tab α) (k : Nat) :
    Tab.find (t.map fun x => (x.1, f x.1 x.2)) k = (Tab.find t k).map (f k) := by
  induction t with
  | nil => rfl
  | cons x t ih =>
    obtain ⟨j, v⟩ := x
    by_cases h : j = k
    · subst h; simp [Tab.find]
    · simp [Tab.find, h, ih]

theorem channel_restartFrames (s : State) (c i : Nat) : (restartFrames s c).channel i = s.channel i := rfl

/-- The unit with its frame counter restarted, where it is one of channel `c`. -/
def frameRestarted (c k : Nat) (U : CUnit) : CUnit := if k / 64 = c then { U with frame := 0 } else U

/-- After a fixed slot of channel `c` the frame counters of its ports are 0. -/
theorem frame_restartFrames (s : State) {c u : Nat} (h : u / 64 = c) : ((restartFrames s c).cunit u).frame = 0 := by
  have hunits : (restartFrames s c).units = s.units.map fun x => (x.1, frameRestarted c x.1 x.2) :=
    List.map_congr_left fun x _ => by rw [frameRestarted]; split <;> rfl
  rw [State.cunit, Tab.get, hunits, find_map_snd (frameRestarted c)]
  cases Tab.find s.units u with
  | none => rfl
  | some U => exact congrArg CUnit.frame (if_pos h)

/-! ### REFRESH_SLOT (R203) -/

/-- The slot's refresh commands are fixed by the meridian, the stack's mode and the clocks, which no swap of lanes changes. -/
theorem LanesOnly.refreshCommands {s s' : State} {c : Nat} (h : LanesOnly s s' c) (k : Nat) :
    refreshCommands s' k = Machine.refreshCommands s k := by rw [h.within]; rfl

theorem refreshSlot_holds (s : State) (c : ChannelId) :
    ∃ s', exec (.refreshSlot c) s = .next s' ∧ s'.stack = s.stack ∧
      (s'.channel c).refreshRow = ((s.channel c).refreshRow + refreshCommands s c) % 6144 ∧ OtherChannelsKept s s' c ∧
      ∀ u, u / 64 = c.val → (s'.cunit u).frame = 0 := by
  have hswap := lanesOnly_swapLanes c (s.channel c).swapDue s
  refine ⟨_, rfl, ?_, ?_, fun i hi => ?_, fun u hu => frame_restartFrames _ hu⟩
  · exact (congrArg State.stack hswap.within).trans rfl
  · rw [channel_restartFrames, State.channel_modChannel_self, hswap.refreshCommands, hswap.own]
  · rw [channel_restartFrames, State.channel_modChannel_ne _ _ hi, hswap.others i hi]

/-! ### SCRUB_SLOT (R205) -/

/-- Scrubbing a granule touches the table of errors, the log and the interrupts waiting. -/
theorem scrubGranule_only (s : State) (c : Nat) (x : Nat × Nat) :
    ∃ t l i, scrubGranule s c x = { s with stackErr := t, log := l, irq := i } := by
  unfold scrubGranule
  dsimp only
  split
  · obtain ⟨l, i, h⟩ := State.bucketEvent_only { s with stackErr := Tab.erase s.stackErr x.1 } 2 c (s.channelParcel c)
    exact ⟨_, l, i, h⟩
  split
  · exact ⟨_, s.log, s.irq, rfl⟩
  split
  · exact ⟨s.stackErr, s.log, s.irq, rfl⟩
  · obtain ⟨l, i, h⟩ := s.logEvent_only 3 2 c (s.channelParcel c) (3 + pairOf (x.1 * 64 - stackKey c 0) * 256)
      ((x.1 * 64 - stackKey c 0) / 64 * 64)
    exact ⟨s.stackErr, l, i, h⟩

/-- No scrub of a granule brings an error back. -/
theorem stackErr_scrubGranule (s : State) (c : Nat) (x : Nat × Nat) :
    (scrubGranule s c x).stackErr = s.stackErr ∨ (scrubGranule s c x).stackErr = Tab.erase s.stackErr x.1 := by
  unfold scrubGranule
  dsimp only
  split
  · exact .inr (State.bucketEvent_stackErr _ _ _ _)
  split
  · exact .inr rfl
  split
  · exact .inl rfl
  · exact .inl (State.logEvent_stackErr _ _ _ _ _ _ _)

theorem get_erase_self {α : Type} (d : α) (t : Tab α) (k : Nat) : Tab.get d (Tab.erase t k) k = d := by
  rw [Tab.get, Tab.find_erase_self]

theorem get_erase_default {α : Type} {d : α} {t : Tab α} {k : Nat} (j : Nat) (h : Tab.get d t k = d) :
    Tab.get d (Tab.erase t j) k = d := by
  by_cases hj : k = j
  · rw [hj, get_erase_self]
  · rw [Tab.get, Tab.find_erase_ne t hj]; exact h

theorem granuleErr_scrubGranule {s : State} {g : Nat} (c : Nat) (x : Nat × Nat) (h : Tab.get 0 s.stackErr g = 0) :
    Tab.get 0 (scrubGranule s c x).stackErr g = 0 := by
  rcases stackErr_scrubGranule s c x with hx | hx <;> rw [hx]
  · exact h
  · exact get_erase_default _ h

/-- A correctable granule is corrected. -/
theorem granuleErr_scrubGranule_self (s : State) (c g : Nat) : Tab.get 0 (scrubGranule s c (g, 1)).stackErr g = 0 := by
  have h : (scrubGranule s c (g, 1)).stackErr = Tab.erase s.stackErr g :=
    State.bucketEvent_stackErr { s with stackErr := Tab.erase s.stackErr g } 2 c (s.channelParcel c)
  rw [h, get_erase_self]

theorem scrubSlot_holds (s : State) (c : ChannelId) :
    ∃ s', exec (.scrubSlot c) s = .next s' ∧ s'.stack = s.stack ∧
      (s'.channel c).scrubRow = ((s.channel c).scrubRow + 1) % 6144 ∧
      (s'.channel c).scrubPasses = (s.channel c).scrubPasses + (if (s.channel c).scrubRow = 6143 then 1 else 0) ∧
      (∀ g, (g, 1) ∈ s.stackErr → stackKey c 0 / 64 ≤ g → g < stackKey c 0 / 64 + channelBytes / 64 →
        rowOf (g * 64 - stackKey c 0) = (s.channel c).scrubRow → Tab.get 0 s'.stackErr g = 0) ∧
      OtherChannelsKept s s' c ∧ ∀ u, u / 64 = c.val → (s'.cunit u).frame = 0 := by
  have hstack (l : List (Nat × Nat)) : (l.foldl (fun s x => scrubGranule s c x) s).stack = s.stack :=
    foldl_keeps _ State.stack (fun a b => by obtain ⟨_, _, _, h⟩ := scrubGranule_only a c b; rw [h]) l s
  have hchannels (l : List (Nat × Nat)) : (l.foldl (fun s x => scrubGranule s c x) s).channels = s.channels :=
    foldl_keeps _ State.channels (fun a b => by obtain ⟨_, _, _, h⟩ := scrubGranule_only a c b; rw [h]) l s
  refine ⟨_, rfl, hstack _, ?_, ?_, fun g hg hlo hhi hrow => ?_, fun i hi => ?_, fun u hu => frame_restartFrames _ hu⟩
  · rw [channel_restartFrames, State.channel_modChannel_self]
  · rw [channel_restartFrames, State.channel_modChannel_self, channel_congr (hchannels _)]
  · refine foldl_reaches (P := fun s => Tab.get 0 s.stackErr g = 0) (fun a x => granuleErr_scrubGranule _ x)
      (fun a => granuleErr_scrubGranule_self a c g) (List.mem_filter.2 ⟨hg, ?_⟩) s
    simp [hlo, hhi, hrow]
  · rw [channel_restartFrames, State.channel_modChannel_ne _ _ hi, channel_congr (hchannels _)]

/-! ### CLEAR_SLOT (R206) -/

theorem zeroRange_channel (s : State) (c o n i : Nat) : (zeroRange s c o n).channel i = s.channel i := rfl

theorem zeroRange_stack (s : State) (c o n : Nat) : (zeroRange s c o n).stack = Mem.zero s.stack (stackKey c o) n := rfl

/-- A byte of a zeroed range, or one that read 0 before. -/
theorem read_zeroRange_zero {s : State} {c o n a : Nat} (h : Mem.read s.stack a = 0 ∨ stackKey c o ≤ a ∧ a < stackKey c o + n) :
    Mem.read (zeroRange s c o n).stack a = 0 := by
  rw [zeroRange_stack]
  by_cases hin : stackKey c o ≤ a ∧ a < stackKey c o + n
  · exact Mem.read_zero_inside _ _ _ hin.1 hin.2
  · rw [Mem.read_zero_outside _ _ _ (by omega)]
    exact h.resolve_right hin

/-- The state in which the pages of a clear slot have been zeroed. -/
def pagesZeroed (s : State) (c : Nat) (pages : List Nat) : State :=
  pages.foldl (fun s g => zeroRange s c (g * 65536) 65536) s

theorem pagesZeroed_channel (s : State) (c : Nat) (pages : List Nat) (i : Nat) :
    (pagesZeroed s c pages).channel i = s.channel i :=
  foldl_keeps (fun s g => zeroRange s c (g * 65536) 65536) (fun s => s.channel i) (fun _ _ => rfl) pages s

theorem read_pagesZeroed_inside (s : State) {c g a : Nat} {pages : List Nat} (hg : g ∈ pages) (ha : inPage c g a) :
    Mem.read (pagesZeroed s c pages).stack a = 0 :=
  foldl_reaches (f := fun s g => zeroRange s c (g * 65536) 65536) (P := fun s => Mem.read s.stack a = 0)
    (fun _ _ h => read_zeroRange_zero (.inl h)) (fun _ => read_zeroRange_zero (.inr ha)) hg s

theorem read_pagesZeroed_outside (s : State) {c a : Nat} {pages : List Nat} (h : ∀ g ∈ pages, ¬ inPage c g a) :
    Mem.read (pagesZeroed s c pages).stack a = Mem.read s.stack a :=
  List.foldlRecOn (motive := fun s' : State => Mem.read s'.stack a = Mem.read s.stack a) pages
      (fun s g => zeroRange s c (g * 65536) 65536) rfl fun s' hs' g hg => by
    have hout := h g hg
    unfold inPage at hout
    rw [zeroRange_stack, Mem.read_zero_outside _ _ _ (by omega), hs']

/-- The state after a clear slot of a channel of a sealed parcel. -/
def slotCleared (s : State) (c : Nat) : State :=
  restartFrames ((pagesZeroed s c (slotPages s c)).modChannel c fun K =>
    { K with clearQueue := (clearTake s.now 0 [] (s.channel c).clearQueue).2
             pagesCleared := K.pagesCleared + (slotPages s c).length }) c

theorem clearSlot_sealed {s : State} {c : ChannelId} {p : Nat} (hp : s.channelParcel c = some p)
    (hmode : (s.parcel p).ctl.mode = .sealed) : exec (.clearSlot c) s = .next (slotCleared s c) := by
  show execClearSlot c s = _
  unfold execClearSlot
  rw [hp]
  exact if_neg (by simp [hmode])

theorem clearSlot_holds (s : State) (c : ChannelId) (p : Nat) (hp : s.channelParcel c = some p)
    (hmode : (s.parcel p).ctl.mode = .sealed) :
    ∃ s', exec (.clearSlot c) s = .next s' ∧
      (∀ g ∈ slotPages s c, ∀ a, inPage c g a → Mem.read s'.stack a = 0) ∧
      (∀ a, (∀ g ∈ slotPages s c, ¬ inPage c g a) → Mem.read s'.stack a = Mem.read s.stack a) ∧
      (s'.channel c).clearQueue = (clearTake s.now 0 [] (s.channel c).clearQueue).2 ∧
      (s'.channel c).pagesCleared = (s.channel c).pagesCleared + (slotPages s c).length ∧
      OtherChannelsKept s s' c ∧ ∀ u, u / 64 = c.val → (s'.cunit u).frame = 0 := by
  refine ⟨_, clearSlot_sealed hp hmode, fun g hg a ha => read_pagesZeroed_inside s hg ha,
    fun a ha => read_pagesZeroed_outside s ha, ?_, ?_, fun i hi => ?_, fun u hu => frame_restartFrames _ hu⟩
  · rw [slotCleared, channel_restartFrames, State.channel_modChannel_self]
  · rw [slotCleared, channel_restartFrames, State.channel_modChannel_self, pagesZeroed_channel]
  · rw [slotCleared, channel_restartFrames, State.channel_modChannel_ne _ _ hi, pagesZeroed_channel]

/-- Settles O13: each slot's work touches its own channel's state, and only a clear slot's pages in stack memory. -/
theorem fixedSlots : Obligations.FixedSlots := ⟨refreshSlot_holds, scrubSlot_holds, clearSlot_holds⟩

/-! ### Page clears and whole-channel clearing (R206, R207) -/

theorem clearEnqueue_holds (s : State) (c : ChannelId) (page : Nat) (hp : (s.channelParcel c).isSome = true)
    (hpage : page < 24576) (hroom : (s.channel c).clearQueue.length < 256) :
    ∃ s', exec (.clearEnqueue c page) s = .next s' ∧
      s'.channel c = { s.channel c with clearQueue := (s.channel c).clearQueue ++ [(page, s.now)] } ∧
      OtherChannelsKept s s' c ∧ s' = { s with channels := s'.channels } := by
  let s' : State := s.modChannel c fun K => { K with clearQueue := K.clearQueue ++ [(page, s.now)] }
  have hexec : exec (.clearEnqueue c page) s = .next s' := by
    show execClearEnqueue c page s = _
    rw [execClearEnqueue, if_neg (by simp [Option.isSome_iff_ne_none.1 hp, hpage]), enqueueClear, if_pos hroom]
    rfl
  exact ⟨s', hexec, State.channel_modChannel_self _ _ _, fun i hi => State.channel_modChannel_ne _ _ hi, rfl⟩

theorem channelClearDone_holds (s : State) (c : ChannelId) (h : (s.channel c).clearing = true) :
    ∃ s', exec (.channelClearDone c) s = .next s' ∧
      (∀ o, o < channelBytes → Mem.read s'.stack (stackKey c o) = 0) ∧
      (∀ a, a < stackKey c 0 ∨ stackKey c channelBytes ≤ a → Mem.read s'.stack a = Mem.read s.stack a) ∧
      (s'.channel c).clearing = false ∧
      (s'.channel c).channelClears = min ((s.channel c).channelClears + 1) 0xFFFFFFFF ∧ OtherChannelsKept s s' c := by
  refine ⟨_, if_pos h, fun o ho => ?_, fun a ha => ?_, ?_, ?_, fun i hi => ?_⟩
  · exact Mem.read_zero_inside _ _ _ (by unfold stackKey; omega) (by unfold stackKey; omega)
  · exact Mem.read_zero_outside _ _ _ (by unfold stackKey at *; omega)
  · rw [State.channel_modChannel_self]
  · rw [State.channel_modChannel_self, zeroRange_channel]
  · rw [State.channel_modChannel_ne _ _ hi, zeroRange_channel]

/-! ### RETRAIN (R211) -/

/-- A write by the operator that the device takes is answered with its status. -/
theorem answer_operator {s : State} {index : Nat} (sub : Nat) (fac seen : Bool) (w : Written)
    (h : Answers s .operator index) :
    answer .operator index sub s (operatorOnly .operator fac seen s w) =
      .next (w.2.send (.status .operator index sub w.1)) := by
  obtain ⟨hopen, hcut⟩ := h
  have hcrossed : crossed index s (operatorOnly .operator fac seen s w) = w := by rw [crossed, hcut]; rfl
  rw [answer, hcrossed]
  exact if_pos hopen

theorem setRetrain_of_allowed {s : State} {c : Nat} (hp : s.channelParcel c = none) (hclear : (s.channel c).clearing = false)
    (htg : tgBusy (s.channel c).tg = false) :
    setRetrain s c 1 = (.ok, s.modChannel c fun K => { K with training := true }) := by
  have hidle := htg
  simp only [tgBusy, Bool.or_eq_false_iff, decide_eq_false_iff_not] at hidle
  obtain ⟨⟨hwaiting, hwriting⟩, hreading⟩ := hidle
  rw [setRetrain, if_neg (by decide), if_neg (by decide)]
  dsimp only
  rw [hp, hclear, if_neg (by simp [hwaiting, hwriting, hreading])]

theorem retrain_holds (s : State) (c : ChannelId) (hp : s.channelParcel c = none) (hclear : (s.channel c).clearing = false)
    (htg : tgBusy (s.channel c).tg = false) (h : Answers s .operator (0x4000 + c)) :
    ∃ s', exec (.retrain .operator c 1) s = .next s' ∧ s'.channel c = { s.channel c with training := true } ∧
      OtherChannelsKept s s' c ∧ s'.sent = s.sent ++ [.status .operator (0x4000 + c) 0x04 .ok] ∧
      s' = { s with channels := s'.channels, sent := s'.sent } := by
  refine ⟨_, answer_operator 0x04 true false _ h, ?_⟩
  rw [setRetrain_of_allowed hp hclear htg]
  exact ⟨State.channel_modChannel_self s c fun K => { K with training := true },
    fun i hi => State.channel_modChannel_ne s (fun K => { K with training := true }) hi, rfl, rfl⟩

/-! ### What a teardown leaves of a channel's training (R305) -/

/-- The part of a channel's state that tells of its training and clearing. -/
def trainingOf (K : Channel) : Bool × Bool × BitVec 16 × Bool := (K.training, K.trained, K.laneMap, K.clearing)

/-- No channel's training or clearing has changed. -/
def TrainingKept (s s' : State) : Prop := ∀ c, trainingOf (s'.channel c) = trainingOf (s.channel c)

theorem TrainingKept.of_channels {s s' : State} (h : s'.channels = s.channels) : TrainingKept s s' := fun c => by
  rw [channel_congr h]

theorem TrainingKept.trans {s s' s'' : State} (h : TrainingKept s s') (h' : TrainingKept s' s'') : TrainingKept s s'' :=
  fun c => (h' c).trans (h c)

theorem trainingKept_modChannel (s : State) (c : Nat) {f : Channel → Channel}
    (h : trainingOf (f (s.channel c)) = trainingOf (s.channel c)) : TrainingKept s (s.modChannel c f) := fun i => by
  by_cases hi : i = c
  · rw [hi, State.channel_modChannel_self, h]
  · rw [State.channel_modChannel_ne _ _ hi]

theorem trainingKept_foldl {β : Type} {f : State → β → State} (h : ∀ s b, TrainingKept s (f s b)) (l : List β) (s : State) :
    TrainingKept s (l.foldl f s) :=
  List.foldlRecOn (motive := fun s' => TrainingKept s s') l f (.of_channels rfl) fun _ hs b _ => hs.trans (h _ b)

theorem trainingKept_enqueuePages (tick : Nat) (l : List (Nat × Nat)) (s : State) :
    TrainingKept s (enqueuePages tick s l).1 := by
  induction l generalizing s with
  | nil => exact .of_channels rfl
  | cons x l ih =>
    obtain ⟨c, g⟩ := x
    rw [enqueuePages]
    cases hq : enqueueClear s c g tick with
    | none => exact ih s
    | some s' =>
      rw [enqueueClear] at hq
      split at hq
      · rw [← Option.some.inj hq]
        exact (trainingKept_modChannel s c rfl).trans (ih _)
      · cases hq

theorem trainingKept_modServing (s : State) (p : Nat) (f : Serving → Serving) : TrainingKept s (s.modServing p f) :=
  .of_channels (State.modServing_channels _ _ _)

theorem trainingKept_freeColumns (s : State) (p tick : Nat) (cols : List Nat) :
    TrainingKept s (freeColumns s p tick cols) := by
  unfold freeColumns
  split
  · exact trainingKept_foldl (fun s c =>
      (trainingKept_enqueuePages tick (columnPages s p c) s).trans (trainingKept_modServing _ _ _)) _ _
  · exact .of_channels rfl

theorem complete_channels (s : State) (p r : Nat) (c : Comp) : (complete s p r c).channels = s.channels := rfl

theorem trainingKept_endSlice (s : State) (p : Nat) : TrainingKept s (endSlice s p) := by
  show TrainingKept s (State.modServing (List.foldl _ (List.foldl _ (List.foldl _ s _) _) _) p _)
  refine TrainingKept.trans ?_ (trainingKept_modServing _ _ _)
  refine TrainingKept.trans ?_ (trainingKept_foldl (fun s (g : Nat × GazEntry) => trainingKept_freeColumns s p s.now g.2.cols) _ _)
  refine TrainingKept.trans (trainingKept_foldl (fun s g => ?_) _ _) (trainingKept_foldl (fun s q => ?_) _ _)
  · dsimp only
    split
    · exact .of_channels (complete_channels _ _ _ _)
    · split
      · exact .of_channels rfl
      · exact .of_channels (complete_channels _ _ _ _)
  · exact TrainingKept.trans (.of_channels (complete_channels _ _ _ _)) (trainingKept_modServing _ _ _)

theorem trainingKept_recordUnits (s : State) (p c : Nat) (primary : Option Nat) :
    TrainingKept s (recordUnits s p c primary) := by
  refine trainingKept_foldl (fun s u => ?_) _ _
  split
  · exact .of_channels rfl
  · exact (trainingKept_modChannel s c rfl).trans (.of_channels (State.logEvent_channels _ _ _ _ _ _ _))

theorem trainingKept_clearUnits (s : State) (c : Nat) : TrainingKept s (clearUnits s c) :=
  TrainingKept.trans (.of_channels rfl) (trainingKept_modChannel _ c rfl)

theorem trainingKept_count (s : State) (p : Option Nat) (k n : Nat) : TrainingKept s (s.count p k n) :=
  .of_channels (State.count_channels _ _ _ _)

theorem trainingKept_countCelulo (s : State) (u k : Nat) : TrainingKept s (countCelulo s u k) :=
  TrainingKept.trans (s' := s.count (s.channelParcel (u / 64)) 0x0D (k - (s.cunit u).startCyc))
    (trainingKept_count s _ _ _) (.of_channels rfl)

theorem trainingKept_stopUnits (cyc : Nat) (s : State) (c : Nat) : TrainingKept s (stopUnits cyc s c) :=
  trainingKept_foldl (fun s (u : Nat × CUnit) => trainingKept_countCelulo s u.1 (celuloCycle cyc)) _ _

theorem trainingKept_stopParcel (s : State) (p cyc : Nat) : TrainingKept s (stopParcel s p cyc) := by
  refine trainingKept_foldl (fun s t => ?_) _ _
  exact (trainingKept_foldl (fun s e => trainingKept_count s _ _ _) _ _).trans (.of_channels rfl)

theorem outcome_channels (s : State) (p o : Nat) : (outcome s p o).channels = s.channels := State.raise_channels _ _ _

theorem outcomeSampled_channels (s : State) (p o : Nat) : (outcomeSampled s p o).channels = s.channels := by
  unfold outcomeSampled
  split
  · exact outcome_channels s p o
  · rfl

theorem discardCommand_channels (s : State) (p : Nat) : (discardCommand s p).channels = s.channels := by
  unfold discardCommand
  dsimp only
  split
  · exact outcome_channels _ _ _
  split
  · exact outcomeSampled_channels _ _ _
  · rfl

theorem cutDelivery_channels (s : State) (p result state : Nat) :
    (cutDelivery s p result state).channels = s.channels := by
  unfold cutDelivery
  split
  · exact State.raise_channels _ _ _
  · rfl

/-- A teardown leaves every channel's training, lane map and clearing. -/
theorem trainingKept_teardown (s : State) (p cause : Nat) (sector : Option Nat) :
    TrainingKept s (teardown s p cause sector) := by
  unfold teardown
  extract_lets cyc unit stopped discarded tiles chans flightless ended unitless tileless lineless cut rec' logged
  have hstopped : TrainingKept s flightless :=
    (trainingKept_stopParcel s p cyc).trans (.of_channels (discardCommand_channels stopped p))
  have hended : TrainingKept flightless ended := trainingKept_endSlice flightless p
  have hunits : TrainingKept ended unitless := trainingKept_foldl (fun s c =>
    ((trainingKept_stopUnits cyc s c).trans (trainingKept_recordUnits _ p c unit)).trans (trainingKept_clearUnits _ c)) _ _
  have htiles : TrainingKept unitless tileless := 
    trainingKept_foldl (fun s t => .of_channels (State.modTile_channels s t clearTile)) _ _
  have hlines : TrainingKept tileless lineless := trainingKept_foldl (fun s k =>
    .of_channels (State.modSector_channels (dropSectorLines s k) k fun K => { K with coreErr := 0 })) _ _
  have hlogged : TrainingKept lineless logged := by
    refine TrainingKept.trans (.of_channels (cutDelivery_channels lineless p 0x09 5)) ?_
    show TrainingKept cut (if cause = 6 then cut else _)
    split
    · exact .of_channels rfl
    · exact .of_channels (State.logEvent_channels _ _ _ _ _ _ _)
  exact ((((hstopped.trans hended).trans hunits).trans htiles).trans hlines).trans (hlogged.trans (.of_channels rfl))

theorem trainingKept_dropUnserviceable (s : State) (k cause : Nat) : TrainingKept s (dropUnserviceable s k cause) := by
  unfold dropUnserviceable
  split
  · exact .of_channels rfl
  split
  · exact trainingKept_teardown _ _ _ _
  · exact .of_channels rfl

/-! ### The end of a training (R208, R209, R211) -/

/-- The channel with its training at an end: the lanes of its map, whether it passed, and TRAIN_RESULT. -/
def trainingJudged (K : Channel) (failing : List Nat) (failed : Bool) (word : BitVec 32) : Channel :=
  { K with training := false, trained := (trainMap failing).2.1 && !failed, trainResult := word,
           laneMap := (trainMap failing).1, swapDue := [] }

/-- A training that ends is judged, perhaps logged, and whole-channel clearing starts. -/
theorem endTraining_eq (s : State) (c : Nat) (failing : List Nat) (failed : Bool) (w h x : Nat) :
    ∃ word l i, endTraining s c failing failed w h x =
      startClearing { s.modChannel c fun K => trainingJudged K failing failed word with log := l, irq := i } c := by
  have hlogged (s : State) (r : Nat) (word : BitVec 32) :
      ∃ l i, (if r = 1 then s else s.logEvent 0xF 2 c none r word.toNat) = { s with log := l, irq := i } := by
    split
    · exact ⟨_, _, rfl⟩
    · exact s.logEvent_only _ _ _ _ _ _
  obtain ⟨l, i, hl⟩ := hlogged (s.modChannel c fun K => trainingJudged K failing failed _) _ _
  exact ⟨_, l, i, congrArg (startClearing · c) hl⟩

theorem trainingComplete_holds (s : State) (c : ChannelId) (failing : List Nat) (failed : Bool) (w h x : Nat)
    (htraining : (s.channel c).training = true) :
    ∃ s', exec (.trainingComplete c failing failed w h x) s = .next s' ∧ (s'.channel c).training = false ∧
      (s'.channel c).trained = ((trainMap failing).2.1 && !failed) ∧ (s'.channel c).laneMap = (trainMap failing).1 ∧
      (s'.channel c).clearing = true ∧
      (sectorOwner s (channelSector c) = none →
        (s'.channel c).clearQueue = [] ∧ OtherChannelsKept s s' c ∧ s'.stack = s.stack) := by
  obtain ⟨ended, hended⟩ : ∃ ended, ended = endTraining s c failing failed w h x := ⟨_, rfl⟩
  obtain ⟨word, l, q, heq⟩ := endTraining_eq s c failing failed w h x
  rw [← hended] at heq
  have hchannel : ended.channel c =
      { trainingJudged (s.channel c) failing failed word with clearing := true, clearQueue := [] } := by
    rw [heq]
    refine (State.channel_modChannel_self _ _ _).trans ?_
    exact congrArg (fun K : Channel => { K with clearing := true, clearQueue := [] })
      (State.channel_modChannel_self s c fun K => trainingJudged K failing failed word)
  have hexec : exec (.trainingComplete c failing failed w h x) s =
      .next (dropUnserviceable ended (channelSector c) 0x02) := by
    rw [hended]; exact if_neg (by simp [htraining])
  have hkept := trainingKept_dropUnserviceable ended (channelSector c) 0x02 c
  rw [hchannel] at hkept
  simp only [trainingOf, trainingJudged, Prod.mk.injEq] at hkept
  obtain ⟨h1, h2, h3, h4⟩ := hkept
  refine ⟨_, hexec, h1, h2, h3, h4, fun howner => ?_⟩
  have hsame : dropUnserviceable ended (channelSector c) 0x02 = ended := by
    have hnone : sectorOwner ended (channelSector c) = none := by rw [heq]; exact howner
    rw [dropUnserviceable, hnone]
  rw [hsame]
  refine ⟨by rw [hchannel], fun i hi => ?_, by rw [heq]; rfl⟩
  rw [heq]
  exact (State.channel_modChannel_ne _ _ hi).trans
    (State.channel_modChannel_ne s (fun K => trainingJudged K failing failed word) hi)

/-- Settles O14: page clears join their queue, a clearing or a training ends on its own channel, and the teardown that may
follow a training leaves what it found. RETRAIN keeps TRAINED and the contents until TRAINING_COMPLETE (the model's choice,
log entry 29). -/
theorem channelClearingAndTraining : Obligations.ChannelClearingAndTraining :=
  ⟨clearEnqueue_holds, channelClearDone_holds, retrain_holds, trainingComplete_holds⟩

end Sys2Proof.Proofs.PereoStacks
end

section
/-! PROOFS. The family of 08_pereo_stacks.md: segment turns, of the copy channels and of the traffic generator. -/

namespace Sys2Proof.Proofs.SegmentTurns

open Sys2Proof Sys2Proof.Machine Sys2Proof.Claims Sys2Proof.Proofs.ArrayTiles Sys2Proof.Proofs.Engines
open Sys2Proof.Proofs.PereoStacks

/-! ### Staging lines (R199, R200) -/

theorem placeLine_only (s : State) (c g : Nat) : ∃ l, placeLine s c g = { s with lines := l } := ⟨_, rfl⟩

/-- A segment that has been placed in a line is held by one. -/
theorem lineOf_placeLine (s : State) (c g : Nat) : (lineOf (placeLine s c g) c g).isSome = true := by
  unfold lineOf placeLine
  simp only [Tab.get_set_self, List.find?_isSome]
  split
  next hany =>
    obtain ⟨x, hx, hxc⟩ := List.any_eq_true.1 hany
    exact ⟨freshLine s c g, List.mem_map.2 ⟨x, hx, if_pos hxc⟩, by simp [freshLine]⟩
  next => exact ⟨freshLine s c g, by simp, by simp [freshLine]⟩

theorem lineOf_congr {s s' : State} (h : s'.lines = s.lines) (c g : Nat) : lineOf s' c g = lineOf s c g := by
  simp only [lineOf, h]

/-! ### Read and write turns (R190, R199, R200, R254) -/

theorem countCorrected_only (s : State) (c : Nat) (gs : List Nat) :
    ∃ l i, countCorrected s c gs = { s with log := l, irq := i } := s.bucketEvents_only _ _ _ _

/-- A read that the bank serves: a volatile one, or one of a segment that no line holds, with no uncorrectable granule. -/
theorem readTurn_bank {s : State} {c o n : Nat} {volatile : Bool}
    (hline : volatile = true ∨ lineOf s c (segOf o) = none) (hgood : ∀ g ∈ granulesOf c o n, granuleErr s g ≠ 2) :
    readTurn s c o n volatile =
      (placeLine (countCorrected s c (granulesOf c o n)) c (segOf o), .ok (bankRead s c o n)) := by
  have hfind : (granulesOf c o n).find? (fun x => granuleErr s x = 2) = none :=
    List.find?_eq_none.2 fun g hg => by simpa using hgood g hg
  unfold readTurn
  dsimp only
  split
  next l hl =>
    rw [if_pos (hline.resolve_right (by simp [hl])), hfind]
  next => rw [hfind]

/-- A read that a line serves. -/
theorem readTurn_line {s : State} {c o n : Nat} {l : Line} (hl : lineOf s c (segOf o) = some l)
    (hgood : ∀ g ∈ granulesOf c o n, Tab.get 0 l.errs (g % 32) ≠ 2) :
    ∃ k, readTurn s c o n false =
      (s.bucketEvents 2 c (s.channelParcel c) k, .ok (Mem.readBytes l.data (o % 2048) n)) := by
  have hnone : ((granulesOf c o n).filter fun x => Tab.get 0 l.errs (x % 32) = 2).length = 0 := by
    rw [List.length_eq_zero_iff, List.filter_eq_nil_iff]
    exact fun g hg => by simpa using hgood g hg
  refine ⟨((granulesOf c o n).filter fun x => Tab.get 0 l.errs (x % 32) = 1).length, ?_⟩
  unfold readTurn
  dsimp only
  rw [hl]
  exact (if_neg (by simp)).trans (if_neg (by simp [hnone]))

/-! ### The turn of a run (R190, R191, R197) -/

/-- The controller has granted copy channel `key`, of engine `e` of its tile. -/
def granted (s : State) (c key e : Nat) : State := s.modChannel c fun K => { K with lastGrant := key, lastWrite := e ≠ 0 }

/-- A turn of run `r` that has moved `n` bytes is counted and takes the run on. -/
def runMoved (s : State) (c t e ch cyc p key k n : Nat) (r : Run) : State :=
  advanceRun (countBridge (s.count (some p) key k) (some p) (tileSector t) (channelSector c) n) t e ch cyc r n

/-- What counting a turn and taking its run on leaves. -/
theorem runMoved_leaves (s : State) (c t e ch cyc p key k n : Nat) (r : Run) :
    let s' := runMoved s c t e ch cyc p key k n r
    s'.stack = s.stack ∧ s'.lines = s.lines ∧ s'.channels = s.channels ∧
      (s'.parcel p).flight = (s.parcel p).flight ∧ ∀ i, (s'.tile i).scratch = (s.tile i).scratch := by
  obtain ⟨q, hq⟩ := s.count_only (some p) key k
  obtain ⟨q', hq'⟩ := countBridge_only (s.count (some p) key k) (some p) (tileSector t) (channelSector c) n
  have hstate : countBridge (s.count (some p) key k) (some p) (tileSector t) (channelSector c) n =
      { s with parcels := q' } := by rw [hq', hq]
  refine ⟨by rw [runMoved, hstate]; rfl, by rw [runMoved, hstate]; rfl, by rw [runMoved, hstate]; rfl, ?_, fun i => ?_⟩
  · exact (flight_countBridge _ _ _ _ _ _).trans (flight_count _ _ _ _ _)
  · rw [runMoved, hstate]
    exact scratch_of_engineOnly (modCopyChan_engineOnly _ _ _ _ _) i

theorem storeTurn_good {s : State} {c t e ch cyc p : Nat} {r : Run} {errs : List (Nat × Nat)}
    (hsrc : TCtx.scratchBad (s.tile t) (r.scratch + r.pos) (turnLen r) = false) (hlanes : LanesGood c errs r) :
    storeTurn s c t e ch cyc p r errs =
      runMoved (countLanes (writeTurn (s.readScratch p t (r.scratch + r.pos) (turnLen r)) c (turnAt r)
          (Mem.readBytes (s.tile t).scratch (r.scratch + r.pos) (turnLen r))) c (segOf (turnAt r)) errs
          ((granulesOf c (turnAt r) (turnLen r)).map (· % 32)))
        c t e ch cyc p 0x0F (granulesOf c (turnAt r) (turnLen r)).length (turnLen r) r := by
  unfold LanesGood turnLen turnAt at *
  unfold storeTurn
  dsimp only
  rw [scratchBad_eq_false.1 hsrc]
  dsimp only
  rw [hlanes]
  rfl

theorem loadTurn_good {s s₁ : State} {c t e ch cyc p : Nat} {r : Run} {errs : List (Nat × Nat)} {bytes : List Byte}
    (hread : readTurn s c (turnAt r) (turnLen r) r.volatile = (s₁, .ok bytes)) (hlanes : LanesGood c errs r) :
    loadTurn s c t e ch cyc p r errs =
      runMoved ((countLanes s₁ c (segOf (turnAt r)) errs ((granulesOf c (turnAt r) (turnLen r)).map (· % 32))).fly p
          ⟨cyc, rankLocal e ch, .scratch t (r.scratch + r.pos) bytes⟩)
        c t e ch cyc p 0x0E (granulesOf c (turnAt r) (turnLen r)).length (turnLen r) r := by
  unfold LanesGood turnLen turnAt at *
  unfold loadTurn
  dsimp only
  rw [hread]
  dsimp only
  rw [hlanes]
  rfl

theorem channelParcel_of_ctlKept {s s' : State} (h : CtlKept s s') (c : Nat) : s'.channelParcel c = s.channelParcel c := by
  simp only [State.channelParcel, State.sectorParcel, h _]

/-- SEGMENT_TURN gives the copy channel that the rotation comes to its turn. -/
theorem segmentTurn_grants {s b : State} {c : ChannelId} {cyc p key t e ch : Nat} {r : Run} (errs : List (Nat × Nat))
    (h : Grants s b c cyc p key t e ch r) :
    exec (.segmentTurn c cyc errs) s = .next (if e = 0 then loadTurn (granted b c key e) c t e ch cyc p r errs
      else storeTurn (granted b c key e) c t e ch cyc p r errs) := by
  obtain ⟨hclear, htrain, htg, hp, rfl, hnext⟩ := h
  have hpb : (s.settle p cyc).channelParcel c = some p := by rw [channelParcel_of_ctlKept (ctlKept_settle s p cyc), hp]
  show execSegmentTurn c cyc errs s = _
  unfold execSegmentTurn
  dsimp only
  rw [if_neg (by simp [hclear, htrain]), if_neg (by simp [htg]), hp]
  dsimp only
  rw [copyTurn, hpb, hnext]
  rfl

theorem fly_within (s : State) (p : Nat) (f : Flight) : s.fly p f = { s with parcels := (s.fly p f).parcels } := rfl

/-- What is left of a grant once the lanes of a turn, which left `w`, have been counted in `l`, its bytes put in flight in `m`,
and its run taken on. -/
theorem turn_leaves {b w l m : State} {c key e : Nat} (hlane : LanesOnly w l c) (hm : m = { l with parcels := m.parcels })
    (hw : w.channels = (granted b c key e).channels) (htiles : w.tiles = b.tiles) (t ch cyc p k j n : Nat) (r : Run) :
    let s' := runMoved m c t e ch cyc p k j n r
    s'.stack = w.stack ∧ s'.lines = w.lines ∧ (s'.parcel p).flight = (m.parcel p).flight ∧
      (s'.channel c).lastGrant = key ∧ (s'.channel c).lastWrite = decide (e ≠ 0) ∧ OtherChannelsKept b s' c ∧
      ∀ i, (s'.tile i).scratch = (b.tile i).scratch := by
  obtain ⟨hstack, hlines, hchannels, hflight, hscratch⟩ := runMoved_leaves m c t e ch cyc p k j n r
  have hwithin := hlane.within
  have hc : w.channel c = { b.channel c with lastGrant := key, lastWrite := e ≠ 0 } :=
    (channel_congr hw c).trans (State.channel_modChannel_self _ _ _)
  have hchan (i : Nat) : (runMoved m c t e ch cyc p k j n r).channel i = l.channel i :=
    channel_congr (hchannels.trans (congrArg State.channels hm)) i
  refine ⟨?_, ?_, hflight, ?_, ?_, fun i hi => ?_, fun i => ?_⟩
  · rw [hstack, hm, hwithin]
  · rw [hlines, hm, hwithin]
  · rw [hchan, hlane.own, hc]
  · rw [hchan, hlane.own, hc]
  · rw [hchan, hlane.others i hi, channel_congr hw]
    exact State.channel_modChannel_ne _ _ hi
  · rw [hscratch, tile_congr ((congrArg State.tiles hm).trans ((congrArg State.tiles hwithin).trans htiles))]

theorem storeRun_holds (s b : State) (c : ChannelId) (cyc p key t e ch : Nat) (r : Run) (errs : List (Nat × Nat))
    (h : Grants s b c cyc p key t e ch r) (he : e ≠ 0)
    (hsrc : TCtx.scratchBad (b.tile t) (r.scratch + r.pos) (turnLen r) = false) (hlanes : LanesGood c errs r) :
    ∃ s', exec (.segmentTurn c cyc errs) s = .next s' ∧
      s'.stack = Mem.writeBytes b.stack (stackKey c (turnAt r))
        (Mem.readBytes (b.tile t).scratch (r.scratch + r.pos) (turnLen r)) ∧
      (lineOf s' c (segOf (turnAt r))).isSome = true ∧
      (s'.channel c).lastGrant = key ∧ (s'.channel c).lastWrite = true ∧ OtherChannelsKept b s' c ∧
      ∀ i, (s'.tile i).scratch = (b.tile i).scratch := by
  have hexec := segmentTurn_grants errs h
  rw [if_neg he, storeTurn_good (s := granted b c key e) hsrc hlanes] at hexec
  obtain ⟨l, q, hread⟩ := (granted b c key e).readScratch_only p t (r.scratch + r.pos) (turnLen r)
  obtain ⟨w, hw⟩ : ∃ w, w = writeTurn ((granted b c key e).readScratch p t (r.scratch + r.pos) (turnLen r)) c (turnAt r)
    (Mem.readBytes (b.tile t).scratch (r.scratch + r.pos) (turnLen r)) := ⟨_, rfl⟩
  replace hexec : exec (.segmentTurn c cyc errs) s = .next (runMoved (countLanes w c _ errs _) c t e ch cyc p 0x0F _ _ r) :=
    hw ▸ hexec
  rw [hread] at hw
  let gs := (granulesOf c (turnAt r) (turnLen r)).map (· % 32)
  obtain ⟨hstack, hlines, -, hgrant, hwrite, hothers, hscratch⟩ :=
    turn_leaves (b := b) (key := key) (e := e) (m := countLanes w c (segOf (turnAt r)) errs gs)
      (lanesOnly_countLanes _ _ _ _ _) rfl (by rw [hw]; rfl) (by rw [hw]; rfl) t ch cyc p 0x0F
      (granulesOf c (turnAt r) (turnLen r)).length (turnLen r) r
  refine ⟨_, hexec, hstack.trans (by rw [hw]; rfl), ?_, hgrant, hwrite.trans (decide_eq_true he), hothers, hscratch⟩
  rw [lineOf_congr hlines, hw]
  exact lineOf_placeLine _ _ _

/-- A LOAD run whose bytes have been read, in `s₁`, has them in flight to the scratchpad; no memory has changed. -/
theorem loadRun_flies {s b s₁ : State} {c : ChannelId} {cyc p key t ch : Nat} {r : Run} {errs : List (Nat × Nat)}
    {bytes : List Byte} (h : Grants s b c cyc p key t 0 ch r)
    (hread : readTurn (granted b c key 0) c (turnAt r) (turnLen r) r.volatile = (s₁, .ok bytes))
    (honly : s₁ = { granted b c key 0 with lines := s₁.lines, log := s₁.log, irq := s₁.irq }) (hlanes : LanesGood c errs r) :
    ∃ s', exec (.segmentTurn c cyc errs) s = .next s' ∧ s'.stack = b.stack ∧ s'.lines = s₁.lines ∧
      NowFlying b s' p [⟨cyc, rankLocal 0 ch, .scratch t (r.scratch + r.pos) bytes⟩] ∧
      (s'.channel c).lastGrant = key ∧ (s'.channel c).lastWrite = false ∧ OtherChannelsKept b s' c ∧
      ∀ i, (s'.tile i).scratch = (b.tile i).scratch := by
  have hexec := segmentTurn_grants errs h
  rw [if_pos rfl, loadTurn_good hread hlanes] at hexec
  have hlane := lanesOnly_countLanes s₁ c (segOf (turnAt r)) errs ((granulesOf c (turnAt r) (turnLen r)).map (· % 32))
  obtain ⟨hstack, hlines, hflight, hgrant, hwrite, hothers, hscratch⟩ :=
    turn_leaves (b := b) (key := key) (e := 0) hlane (fly_within _ _ _) (by rw [honly]) (by rw [honly]; rfl)
      t ch cyc p 0x0E (granulesOf c (turnAt r) (turnLen r)).length (turnLen r) r
  refine ⟨_, hexec, hstack.trans (by rw [honly]; rfl), hlines, hflight.trans ?_, hgrant, hwrite, hothers, hscratch⟩
  have hparcels : s₁.parcels = b.parcels := by rw [honly]; rfl
  rw [State.fly_flight, parcel_congr ((congrArg State.parcels hlane.within).trans hparcels)]
  rfl

theorem loadRun_fromBank (s b : State) (c : ChannelId) (cyc p key t ch : Nat) (r : Run) (errs : List (Nat × Nat))
    (h : Grants s b c cyc p key t 0 ch r) (hline : r.volatile = true ∨ lineOf b c (segOf (turnAt r)) = none)
    (hgood : ∀ g ∈ granulesOf c (turnAt r) (turnLen r), granuleErr b g ≠ 2) (hlanes : LanesGood c errs r) :
    ∃ s', exec (.segmentTurn c cyc errs) s = .next s' ∧ s'.stack = b.stack ∧
      NowFlying b s' p [⟨cyc, rankLocal 0 ch, .scratch t (r.scratch + r.pos) (bankRead b c (turnAt r) (turnLen r))⟩] ∧
      (lineOf s' c (segOf (turnAt r))).isSome = true ∧
      (s'.channel c).lastGrant = key ∧ (s'.channel c).lastWrite = false ∧ OtherChannelsKept b s' c ∧
      ∀ i, (s'.tile i).scratch = (b.tile i).scratch := by
  have hread := readTurn_bank (s := granted b c key 0) (n := turnLen r) hline hgood
  obtain ⟨l, q, hcount⟩ := countCorrected_only (granted b c key 0) c (granulesOf c (turnAt r) (turnLen r))
  rw [hcount] at hread
  obtain ⟨s', hexec, hstack, hlines, hfly, hrest⟩ := loadRun_flies h hread rfl hlanes
  refine ⟨s', hexec, hstack, hfly, ?_, hrest⟩
  rw [lineOf_congr hlines]
  exact lineOf_placeLine _ _ _

theorem loadRun_fromLine (s b : State) (c : ChannelId) (cyc p key t ch : Nat) (r : Run) (l : Line)
    (errs : List (Nat × Nat)) (h : Grants s b c cyc p key t 0 ch r) (hvol : r.volatile = false)
    (hline : lineOf b c (segOf (turnAt r)) = some l)
    (hgood : ∀ g ∈ granulesOf c (turnAt r) (turnLen r), Tab.get 0 l.errs (g % 32) ≠ 2) (hlanes : LanesGood c errs r) :
    ∃ s', exec (.segmentTurn c cyc errs) s = .next s' ∧ s'.stack = b.stack ∧ s'.lines = b.lines ∧
      NowFlying b s' p [⟨cyc, rankLocal 0 ch, .scratch t (r.scratch + r.pos)
        (Mem.readBytes l.data (turnAt r % 2048) (turnLen r))⟩] ∧
      (s'.channel c).lastGrant = key ∧ (s'.channel c).lastWrite = false ∧ OtherChannelsKept b s' c ∧
      ∀ i, (s'.tile i).scratch = (b.tile i).scratch := by
  obtain ⟨k, hread⟩ := readTurn_line (s := granted b c key 0) hline hgood
  obtain ⟨q, i, hcount⟩ := (granted b c key 0).bucketEvents_only 2 c ((granted b c key 0).channelParcel c) k
  rw [hcount, ← hvol] at hread
  have hflies := loadRun_flies h hread rfl hlanes
  exact hflies

/-- Settles O17: a turn reads its source and writes its destination, or puts the bytes in flight, in the one act in which its
copy channel is granted; the lane errors that it meets are its arguments (the model's choice, log entry 28). -/
theorem segmentTurnMovesBytes : Obligations.SegmentTurnMovesBytes :=
  ⟨storeRun_holds, loadRun_fromBank, loadRun_fromLine⟩

end Sys2Proof.Proofs.SegmentTurns
end

section
/-! PROOFS. The family of 08_pereo_stacks.md: atomic operations at a channel's controller, and the traffic generator. -/

namespace Sys2Proof.Proofs.Controllers

open Sys2Proof Sys2Proof.Machine Sys2Proof.Claims Sys2Proof.Proofs.ArrayTiles Sys2Proof.Proofs.Engines
open Sys2Proof.Proofs.PereoStacks Sys2Proof.Proofs.SegmentTurns

/-! ### Bytes of a memory -/

theorem length_readBytes (m : Mem) (a n : Nat) : (Mem.readBytes m a n).length = n := by
  induction n generalizing a with
  | zero => rfl
  | succ n ih => exact congrArg (· + 1) (ih (a + 1))

theorem getElem_readBytes (m : Mem) (a n : Nat) {i : Nat} (h : i < (Mem.readBytes m a n).length) :
    (Mem.readBytes m a n)[i] = Mem.read m (a + i) := by
  induction n generalizing a i with
  | zero => simp [Mem.readBytes] at h
  | succ n ih =>
    cases i with
    | zero => rfl
    | succ i =>
      have hrest := ih (a + 1) (i := i) (by simpa [Mem.readBytes] using h)
      rw [show a + (i + 1) = a + 1 + i by omega, ← hrest]
      rfl

/-- A run of bytes reads as `l` where each byte does. -/
theorem readBytes_eq {m : Mem} {a : Nat} {l : List Byte} (h : ∀ i (hi : i < l.length), Mem.read m (a + i) = l[i]) :
    Mem.readBytes m a l.length = l :=
  List.ext_getElem (length_readBytes _ _ _) fun i _ hi => by rw [getElem_readBytes, h i hi]

theorem find_slice {α : Type} (m : Tab α) {lo n i : Nat} (h : i < n) : Tab.find (Tab.slice m lo n) i = Tab.find m (lo + i) := by
  induction m with
  | nil => rfl
  | cons x m ih =>
    obtain ⟨j, v⟩ := x
    unfold Tab.slice at ih ⊢
    by_cases hj : j = lo + i
    · subst hj
      simp [Tab.find, h]
    · rw [List.filter_cons]
      split
      next hin =>
        have hne : j - lo ≠ i := by
          simp only [Bool.and_eq_true, decide_eq_true_eq] at hin
          omega
        simpa [Tab.find, hne, hj] using ih
      next => simpa [Tab.find, hj] using ih

theorem read_slice (m : Mem) {lo n i : Nat} (h : i < n) : Mem.read (Tab.slice m lo n) i = Mem.read m (lo + i) := by
  rw [Mem.read, Tab.get, find_slice m h]
  rfl

/-- The memory with one of its 64-byte granules, at `k`, written whole: as it was, save `bytes` at `d` within it. -/
def granuleWritten (m : Mem) (k d : Nat) (bytes : List Byte) : Mem :=
  Mem.writeBytes m k (Mem.readBytes (Mem.writeBytes (Tab.slice m k 64) d bytes) 0 64)

theorem read_granuleWritten_inside (m : Mem) (k : Nat) {d i : Nat} {bytes : List Byte} (hd : d + bytes.length ≤ 64)
    (hi : i < bytes.length) : Mem.read (granuleWritten m k d bytes) (k + d + i) = bytes[i] := by
  have hlen := length_readBytes (Mem.writeBytes (Tab.slice m k 64) d bytes) 0 64
  rw [granuleWritten, Nat.add_assoc, Mem.read_writeBytes_inside _ _ _ (by omega), getElem_readBytes, Nat.zero_add,
    Mem.read_writeBytes_inside _ _ _ hi]

theorem readBytes_granuleWritten (m : Mem) (k : Nat) {d n : Nat} {bytes : List Byte} (hn : bytes.length = n)
    (hd : d + n ≤ 64) : Mem.readBytes (granuleWritten m k d bytes) (k + d) n = bytes := by
  subst hn
  exact readBytes_eq fun i hi => read_granuleWritten_inside m k hd hi

theorem read_granuleWritten_outside (m : Mem) (k : Nat) {d a : Nat} {bytes : List Byte}
    (ha : a < k + d ∨ k + d + bytes.length ≤ a) : Mem.read (granuleWritten m k d bytes) a = Mem.read m a := by
  have hlen := length_readBytes (Mem.writeBytes (Tab.slice m k 64) d bytes) 0 64
  by_cases hin : k ≤ a ∧ a < k + 64
  · obtain ⟨i, rfl⟩ := Nat.exists_eq_add_of_le hin.1
    rw [granuleWritten, Mem.read_writeBytes_inside _ _ _ (by omega), getElem_readBytes, Nat.zero_add,
      Mem.read_writeBytes_outside _ _ _ (by omega), read_slice m (by omega)]
  · exact Mem.read_writeBytes_outside _ _ _ (by omega)

/-! ### Atomic operations (R256, R257, Table 10.3) -/

/-- An operand of an allowed size at a multiple of it lies in one granule. -/
theorem operand_in_granule {code size o : Nat} (h : atomicSizeOk code size = true) (ho : o % size = 0) :
    o % 64 + size ≤ 64 := by
  have hsize : size = 2 ∨ size = 4 ∨ size = 8 := by
    unfold atomicSizeOk at h
    split at h
    · simp only [Bool.or_eq_true, decide_eq_true_eq] at h
      omega
    split at h
    · simp only [decide_eq_true_eq] at h
      omega
    · simp only [Bool.and_eq_true, decide_eq_true_eq] at h
      omega
  rcases hsize with rfl | rfl | rfl <;> omega

theorem stackKey_granule (c o : Nat) : stackKey c (o / 64 * 64) + o % 64 = stackKey c o := by
  unfold stackKey; omega

/-- The new bytes of the operand. -/
def atomicBytes (b : State) (c o code size op cmp : Nat) : List Byte :=
  bytesOfNat (atomicNew code size (natOfBytes (bankRead b c o size)) (op % 2 ^ (8 * size)) (cmp % 2 ^ (8 * size))) size

/-- The state in which the operation's granule has been written, where `b` is the one in which the controller comes to it. -/
def atomicWritten (b : State) (c o code size op cmp : Nat) : State :=
  let s := countCorrected b c [stackKey c o / 64]
  writeTurn s c (o / 64 * 64) (Mem.readBytes
    (Mem.writeBytes (Tab.slice s.stack (stackKey c 0 + o / 64 * 64) 64) (o % 64) (atomicBytes s c o code size op cmp)) 0 64)

theorem atomicWritten_only (b : State) (c o code size op cmp : Nat) :
    ∃ m e ls l i, atomicWritten b c o code size op cmp =
      { b with stack := m, stackErr := e, lines := ls, log := l, irq := i } := by
  obtain ⟨l, i, hcount⟩ := countCorrected_only b c [stackKey c o / 64]
  unfold atomicWritten
  rw [hcount]
  exact ⟨_, _, _, _, _, rfl⟩

/-- An allowed atomic operation at a granule that is not uncorrectable answers the old value, in the state in which the copy
channels before the steward have had their turns. -/
theorem atomicAt_allowed {s b : State} {c o code size : Nat} (reader op cmp : Nat) (hsize : atomicSizeOk code size = true)
    (halign : o % size = 0) (hb : b = atStewardTurn s c) (hgood : granuleErr b (stackKey c o / 64) ≠ 2) :
    atomicAt s c o reader code size op cmp =
      (some (natOfBytes (bankRead (countCorrected b c [stackKey c o / 64]) c o size)),
        (atomicWritten b c o code size op cmp).count (s.channelParcel c) 0x0F 1) := by
  subst hb
  exact (if_neg (by simp [hsize, halign])).trans (if_neg hgood)

/-- The operation writes the new value over its operand, and touches no more than its granule's line, the log and the
accounts. -/
theorem atomicAt_effect {s b : State} {c o code size : Nat} (reader op cmp : Nat) (hsize : atomicSizeOk code size = true)
    (halign : o % size = 0) (hb : b = atStewardTurn s c) (hgood : granuleErr b (stackKey c o / 64) ≠ 2) :
    ∃ s', atomicAt s c o reader code size op cmp = (some (natOfBytes (bankRead b c o size)), s') ∧
      s' = { b with stack := s'.stack, stackErr := s'.stackErr, lines := s'.lines, log := s'.log, irq := s'.irq,
                    parcels := s'.parcels } ∧
      bankRead s' c o size = atomicBytes b c o code size op cmp ∧
      ∀ a, a < stackKey c o ∨ stackKey c o + size ≤ a → Mem.read s'.stack a = Mem.read b.stack a := by
  have hkey : stackKey c 0 + o / 64 * 64 = stackKey c (o / 64 * 64) := by unfold stackKey; omega
  obtain ⟨l, i, hcount⟩ := countCorrected_only b c [stackKey c o / 64]
  obtain ⟨q, hq⟩ := (atomicWritten b c o code size op cmp).count_only (s.channelParcel c) 0x0F 1
  obtain ⟨m, e, ls, l', i', hw⟩ := atomicWritten_only b c o code size op cmp
  have hexec := atomicAt_allowed reader op cmp hsize halign hb hgood
  have hold : bankRead (countCorrected b c [stackKey c o / 64]) c o size = bankRead b c o size := by rw [hcount]; rfl
  have hwritten : (atomicWritten b c o code size op cmp).stack =
      granuleWritten b.stack (stackKey c (o / 64 * 64)) (o % 64) (atomicBytes b c o code size op cmp) := by
    unfold atomicWritten
    rw [hcount, hkey]
    rfl
  rw [hq, hold, hw] at hexec
  rw [hw] at hwritten
  have hlen : (atomicBytes b c o code size op cmp).length = size := length_bytesOfNat _ _
  refine ⟨_, hexec, rfl, ?_, fun a ha => ?_⟩
  · show Mem.readBytes m (stackKey c o) size = _
    rw [show m = _ from hwritten, ← stackKey_granule c o]
    exact readBytes_granuleWritten _ _ hlen (operand_in_granule hsize halign)
  · show Mem.read m a = _
    rw [show m = _ from hwritten, read_granuleWritten_outside _ _ (by rw [stackKey_granule, hlen]; exact ha)]

theorem exec_atomicRow {code size addr : Nat} {p : ParcelId} {op cmp : BitVec 64} {row : Instr}
    (h : atomicRow code p addr size op cmp = some row) (s : State) :
    exec row s = stewardAtomic p addr size code op (if code = 0x9 then cmp else 0) s := by
  unfold atomicRow at h
  split at h
  case h_13 => cases h
  all_goals (cases h; rfl)

/-- Settles O15: the controller works on the granule in the state in which the copy channels that the rotation puts before the
steward have had their turns, all in one act (the model's choice, log entry 29). -/
theorem atomicsReplaceTheirBytes : Obligations.AtomicsReplaceTheirBytes := by
  constructor
  · intro s b p addr size code c o op cmp row hrow hsize halign hplace hretired hcut hb hgood
    obtain ⟨s', hat, hwithin, hread, hothers⟩ :=
      atomicAt_effect 5 op.toNat (if code = 0x9 then cmp else 0).toNat hsize halign hb hgood
    have hexec : exec row s = .next (s'.send (.atomicReply p (some (natOfBytes (bankRead b c o size))))) := by
      rw [exec_atomicRow hrow, stewardAtomic, hplace]
      dsimp only
      rw [if_neg (by simp [hcut]), if_neg (by simp [hretired]), hat]
    refine ⟨_, hexec, ⟨?_, ?_⟩, hothers, ?_, ?_, fun i hi => ?_⟩
    · exact congrArg (· ++ _) ((congrArg State.sent hwithin).trans rfl)
    · refine hread.trans ?_
      unfold atomicBytes
      split <;> rfl
    · exact (congrArg State.tiles hwithin).trans rfl
    · exact (congrArg State.units hwithin).trans rfl
    · exact channel_congr ((congrArg State.channels hwithin).trans rfl) i
  · intro s c p hp hnone
    rw [atStewardTurn, hp]
    dsimp only
    rw [stewardTurn, hnone]
    rfl

/-! ### The controls of the traffic generator (R209, R212, R213) -/

theorem channel_send (s : State) (x : Sent) (i : Nat) : (s.send x).channel i = s.channel i := rfl

theorem setTgControl_starts {s : State} {c : ChannelId} {v : Nat} (h : TgMayStart s c v) :
    setTgControl s c v = (.ok, s.modChannel c fun K => { K with tg :=
      { TrafficGen.init with control := BitVec.ofNat 32 (v % 2 ^ 24 / 4 * 4), offset := (s.channel c).tg.offset
                             length := (s.channel c).tg.length, seed := (s.channel c).tg.seed, state := .waiting
                             startTick := s.now, stopping := bitAt v 1 } }) := by
  obtain ⟨hv, hstart, hbusy, hmay, hbad⟩ := h
  unfold setTgControl
  rw [if_neg (by omega)]
  dsimp only
  rw [hstart, hbusy, hmay, hbad]
  rfl

theorem setTgControl_stops {s : State} {c v : Nat} (hv : v < 2 ^ 32) (hstart : bitAt v 0 = false) (hstop : bitAt v 1 = true)
    (hbusy : tgBusy (s.channel c).tg = true) :
    setTgControl s c v = (.ok, s.modChannel c fun K => { K with tg :=
      { (s.channel c).tg with stopping := true, control := BitVec.ofNat 32 (v % 2 ^ 24 / 4 * 4) } }) := by
  unfold setTgControl
  rw [if_neg (by omega)]
  dsimp only
  rw [hstart, hbusy, hstop]
  rfl

theorem tgStart_holds (s : State) (c : ChannelId) (v : Nat) (h : TgMayStart s c v) (hans : Answers s .operator (0x4000 + c)) :
    ∃ s', exec (.tgStart .operator c v) s = .next s' ∧ (s'.channel c).tg.state = .waiting ∧
      (s'.channel c).tg.control = BitVec.ofNat 32 (v % 2 ^ 24 / 4 * 4) ∧ (s'.channel c).tg.startTick = s.now ∧
      s'.sent = s.sent ++ [.status .operator (0x4000 + c) 0x10 .ok] ∧ OtherChannelsKept s s' c ∧ s'.stack = s.stack := by
  refine ⟨_, answer_operator 0x10 true false _ hans, ?_⟩
  rw [setTgControl_starts h]
  dsimp only
  simp only [channel_send, State.channel_modChannel_self, true_and]
  exact ⟨rfl, fun i hi => (channel_send _ _ _).trans (State.channel_modChannel_ne _ _ hi), rfl⟩

theorem tgStop_holds (s : State) (c : ChannelId) (v : Nat) (hv : v < 2 ^ 32) (hstart : bitAt v 0 = false)
    (hstop : bitAt v 1 = true) (hbusy : tgBusy (s.channel c).tg = true) (hans : Answers s .operator (0x4000 + c)) :
    ∃ s', exec (.tgStop .operator c v) s = .next s' ∧ (s'.channel c).tg.stopping = true ∧
      (s'.channel c).tg.state = (s.channel c).tg.state ∧ OtherChannelsKept s s' c ∧ s'.stack = s.stack := by
  refine ⟨_, answer_operator 0x10 true false _ hans, ?_⟩
  rw [setTgControl_stops hv hstart hstop hbusy]
  dsimp only
  simp only [channel_send, State.channel_modChannel_self, true_and]
  exact ⟨fun i hi => (channel_send _ _ _).trans (State.channel_modChannel_ne _ _ hi), rfl⟩

/-! ### The begin and the end of a run (R212, R213) -/

/-- The generator as its run begins, with the fields in force. -/
def runBegun (g : TrafficGen) : TrafficGen :=
  { g with state := if tgMode g.control ≤ 1 then .writing else .reading, runControl := g.control
           runOffset := g.offset.toNat, runLength := g.length.toNat, runSeed := g.seed, pos := 0, ticks := 1 }

/-- The start of channel `c`'s generator is refused at its boundary. -/
def startRefused (s : State) (c : Nat) : Bool :=
  let g := (s.channel c).tg
  !tgMayRun s c || tgBad g.control g.offset.toNat g.length.toNat g.seed

/-- A start that waits since an earlier tick is judged again: the run begins, or the start is refused. -/
theorem tgRunBegin_eq {s : State} {c : ChannelId} (hwait : (s.channel c).tg.state = .waiting)
    (htick : (s.channel c).tg.startTick < s.now) :
    exec (.tgRunBegin c) s = .next (s.modChannel c fun K =>
      { K with tg := if startRefused s c then { (s.channel c).tg with state := .refused } else runBegun (s.channel c).tg }) :=
  if_pos (by simp [hwait, htick])

theorem tgRunBegin_begins (s : State) (c : ChannelId) (hwait : (s.channel c).tg.state = .waiting)
    (htick : (s.channel c).tg.startTick < s.now) (hmay : tgMayRun s c = true)
    (hbad : tgBad (s.channel c).tg.control (s.channel c).tg.offset.toNat (s.channel c).tg.length.toNat
      (s.channel c).tg.seed = false) :
    ∃ s', exec (.tgRunBegin c) s = .next s' ∧
      (s'.channel c).tg.state = (if tgMode (s.channel c).tg.control ≤ 1 then .writing else .reading) ∧
      (s'.channel c).tg.pos = 0 ∧ (s'.channel c).tg.runControl = (s.channel c).tg.control ∧
      (s'.channel c).tg.runOffset = (s.channel c).tg.offset.toNat ∧
      (s'.channel c).tg.runLength = (s.channel c).tg.length.toNat ∧ OtherChannelsKept s s' c ∧ s'.stack = s.stack := by
  refine ⟨_, tgRunBegin_eq hwait htick, ?_⟩
  rw [if_neg (by simp [startRefused, hmay, hbad])]
  simp only [State.channel_modChannel_self]
  exact ⟨rfl, rfl, rfl, rfl, rfl, fun i hi => State.channel_modChannel_ne _ _ hi, rfl⟩

theorem tgRunBegin_refuses (s : State) (c : ChannelId) (hwait : (s.channel c).tg.state = .waiting)
    (htick : (s.channel c).tg.startTick < s.now) (hmay : tgMayRun s c = false) :
    ∃ s', exec (.tgRunBegin c) s = .next s' ∧
      (s'.channel c).tg = { (s.channel c).tg with state := .refused } ∧ OtherChannelsKept s s' c ∧ s'.stack = s.stack := by
  refine ⟨_, tgRunBegin_eq hwait htick, ?_, fun i hi => State.channel_modChannel_ne _ _ hi, rfl⟩
  rw [State.channel_modChannel_self, if_pos (by simp [startRefused, hmay])]

theorem tgRunEnd_holds (s : State) (c : ChannelId) (hbusy : tgBusy (s.channel c).tg = true)
    (hend : (s.channel c).tg.finished = true ∨ (s.channel c).tg.stopping = true) :
    ∃ s', exec (.tgRunEnd c) s = .next s' ∧
      (s'.channel c).tg.state = (if (s.channel c).tg.finished then .done else .stopped) ∧
      (s'.channel c).clearing = ((s.channel c).clearing || (s.channel c).tg.wrote) ∧ OtherChannelsKept s s' c ∧
      s'.stack = s.stack := by
  let ended : State := s.modChannel c fun K => { K with tg :=
    { (s.channel c).tg with state := if (s.channel c).tg.finished then .done else .stopped, stopping := false } }
  have hexec : exec (.tgRunEnd c) s = .next (if (s.channel c).tg.wrote then startClearing ended c else ended) :=
    if_pos (by simp [hbusy, hend])
  have hended : ended.channel c = _ := State.channel_modChannel_self _ _ _
  have hothers : OtherChannelsKept s ended c := fun i hi => State.channel_modChannel_ne _ _ hi
  refine ⟨_, hexec, ?_⟩
  cases hwrote : (s.channel c).tg.wrote with
  | true =>
    rw [if_pos rfl, startClearing, State.channel_modChannel_self, hended]
    exact ⟨rfl, by simp, fun i hi => (State.channel_modChannel_ne _ _ hi).trans (hothers i hi), rfl⟩
  | false =>
    rw [if_neg (by simp), hended]
    exact ⟨rfl, by simp, hothers, rfl⟩

/-! ### The turns of the traffic generator (R190, R197, R213) -/

/-- A granule of the generator's pattern arrives at offset `x`: refused whole with two lanes in error, else written. -/
def granuleArrives (g : TrafficGen) (c : Nat) (errs : List (Nat × Nat)) (s : State) (x : Nat) : State :=
  if 2 ≤ (lanesOf errs (x / 64 % 32)).length then logUncorr s c x 7
  else bankWrite s c x ((List.range 64).map fun i => tgByte g (x + i))

theorem logUncorr_only (s : State) (c o reader : Nat) : ∃ l i, logUncorr s c o reader = { s with log := l, irq := i } :=
  s.logEvent_only _ _ _ _ _ _

theorem granuleArrives_channels (g : TrafficGen) (c : Nat) (errs : List (Nat × Nat)) (s : State) (x : Nat) :
    (granuleArrives g c errs s x).channels = s.channels := by
  unfold granuleArrives
  split
  · exact State.logEvent_channels _ _ _ _ _ _ _
  · rfl

/-- A granule that arrives changes no byte but its own. -/
theorem read_granuleArrives_outside (g : TrafficGen) {c : Nat} (errs : List (Nat × Nat)) (s : State) {x a : Nat}
    (ha : a < stackKey c x ∨ stackKey c x + 64 ≤ a) :
    Mem.read (granuleArrives g c errs s x).stack a = Mem.read s.stack a := by
  unfold granuleArrives
  split
  · rw [logUncorr, State.logEvent_stack]
  · exact Mem.read_writeBytes_outside _ _ _ (by simpa using ha)

theorem read_granuleArrives_inside (g : TrafficGen) (c : Nat) (errs : List (Nat × Nat)) (s : State) (x : Nat) {i : Nat}
    (hi : i < 64) :
    Mem.read (granuleArrives g c errs s x).stack (stackKey c x + i) =
      if 2 ≤ (lanesOf errs (x / 64 % 32)).length then Mem.read s.stack (stackKey c x + i) else tgByte g (x + i) := by
  unfold granuleArrives
  split
  · rw [logUncorr, State.logEvent_stack]
  · refine (Mem.read_writeBytes_inside _ _ _ (by simpa using hi)).trans ?_
    simp

/-- The state in which the first `m` granules of a write turn at offset `o` have arrived. -/
def granulesArrived (g : TrafficGen) (c : Nat) (errs : List (Nat × Nat)) (s : State) (o m : Nat) : State :=
  ((List.range m).map fun i => o + 64 * i).foldl (granuleArrives g c errs) s

theorem granulesArrived_succ (g : TrafficGen) (c : Nat) (errs : List (Nat × Nat)) (s : State) (o m : Nat) :
    granulesArrived g c errs s o (m + 1) = granuleArrives g c errs (granulesArrived g c errs s o m) (o + 64 * m) := by
  simp [granulesArrived, List.range_succ]

theorem granulesArrived_channels (g : TrafficGen) (c : Nat) (errs : List (Nat × Nat)) (s : State) (o m : Nat) :
    (granulesArrived g c errs s o m).channels = s.channels :=
  foldl_keeps _ State.channels (granuleArrives_channels g c errs) _ s

theorem stackKey_add (c o k : Nat) : stackKey c (o + k) = stackKey c o + k := by unfold stackKey; omega

theorem read_granulesArrived_outside (g : TrafficGen) {c : Nat} (errs : List (Nat × Nat)) (s : State) {o m a : Nat}
    (ha : a < stackKey c o ∨ stackKey c o + 64 * m ≤ a) :
    Mem.read (granulesArrived g c errs s o m).stack a = Mem.read s.stack a := by
  induction m with
  | zero => rfl
  | succ m ih =>
    rw [granulesArrived_succ, read_granuleArrives_outside _ _ _ (by rw [stackKey_add]; omega), ih (by omega)]

theorem read_granulesArrived_inside (g : TrafficGen) (c : Nat) (errs : List (Nat × Nat)) (s : State) (o : Nat) {m k i : Nat}
    (hk : k < m) (hi : i < 64) :
    Mem.read (granulesArrived g c errs s o m).stack (stackKey c (o + 64 * k) + i) =
      if 2 ≤ (lanesOf errs ((o + 64 * k) / 64 % 32)).length then Mem.read s.stack (stackKey c (o + 64 * k) + i)
      else tgByte g (o + 64 * k + i) := by
  induction m with
  | zero => omega
  | succ m ih =>
    rw [granulesArrived_succ]
    by_cases hkm : k = m
    · rw [hkm, read_granuleArrives_inside _ _ _ _ _ hi,
        read_granulesArrived_outside g errs s (.inr (by rw [stackKey_add]; omega))]
    · rw [read_granuleArrives_outside _ _ _ (by simp only [stackKey_add]; omega), ih (by omega)]

theorem others_modTg (s : State) (c : Nat) (f : TrafficGen → TrafficGen) : OtherChannelsKept s (modTg s c f) c :=
  fun _ hi => State.channel_modChannel_ne _ _ hi

/-- The injected error of a pass touches the table of errors and the generator (R214). -/
theorem injected_effect (s : State) (c k : Nat) (b : Bool) :
    ∃ s', (if b then modTg { s with stackErr := Tab.put s.stackErr k 3 } c fun g => { g with injectAt := some k } else s) = s' ∧
      s'.stack = s.stack ∧ OtherChannelsKept s s' c := by
  cases b
  · exact ⟨_, rfl, rfl, fun _ _ => rfl⟩
  · rw [if_pos rfl]
    exact ⟨_, rfl, rfl, fun i hi => others_modTg { s with stackErr := Tab.put s.stackErr k 3 } _ _ i hi⟩

/-- A write turn of the generator: its granules arrive, and it has written. -/
theorem tgWrite_effect (s : State) (c o n : Nat) (errs : List (Nat × Nat)) :
    let s' := tgWrite s c o n errs
    s'.stack = (granulesArrived (s.channel c).tg c errs s o (n / 64)).stack ∧ (s'.channel c).tg.wrote = true ∧
      OtherChannelsKept s s' c := by
  let g := (s.channel c).tg
  let placed := placeLine (granulesArrived g c errs s o (n / 64)) c (segOf o)
  obtain ⟨t, ht, hstack, hothers⟩ := injected_effect placed c (stackKey c o / 64)
    (g.pos = 0 && tgInject g.runControl && (lanesOf errs (o / 64 % 32)).length < 2)
  have heq : tgWrite s c o n errs = modTg t c fun g => { g with wrote := true } :=
    congrArg (fun s => modTg s c fun g => { g with wrote := true }) ht
  have hplaced : placed.channels = s.channels := granulesArrived_channels _ _ _ _ _ _
  rw [heq]
  refine ⟨hstack, congrArg (fun K => K.tg.wrote) (State.channel_modChannel_self _ _ _), fun i hi => ?_⟩
  rw [others_modTg _ _ _ i hi, hothers i hi, channel_congr hplaced]

/-- What the end of a turn makes of the generator: it goes on, or its pass has ended. -/
def turnEnded (n : Nat) (g : TrafficGen) : TrafficGen :=
  if g.pos + n < g.runLength then { g with pos := g.pos + n } else tgPassEnd { g with pos := g.pos + n }

theorem wrote_tgPassEnd (g : TrafficGen) : (tgPassEnd g).wrote = g.wrote := by
  unfold tgPassEnd
  dsimp only
  split
  · rfl
  split <;> rfl

theorem wrote_turnEnded (n : Nat) (g : TrafficGen) : (turnEnded n g).wrote = g.wrote := by
  unfold turnEnded
  split
  · rfl
  · exact wrote_tgPassEnd _

/-- The place of the generator's turn, and its length. -/
def tgPlace (g : TrafficGen) : Nat := tgOffsetAt g.runControl g.runOffset g.runLength g.pos
def tgLen (g : TrafficGen) : Nat :=
  min (turnBytes (tgPlace g) (tgRun g.runControl - g.pos % tgRun g.runControl)) (g.runLength - g.pos)

/-- The lanes that a turn of the generator meets are counted, and the generator goes on. -/
theorem tgTurn_writing {s : State} {c : Nat} (errs : List (Nat × Nat)) (hwriting : (s.channel c).tg.state = .writing)
    (hmode : tgMode (s.channel c).tg.runControl ≤ 1) :
    ∃ gs, tgTurn s c errs = modTg (countLanes (tgWrite (s.modChannel c fun K => { K with lastWrite := true }) c
        (tgPlace (s.channel c).tg) (tgLen (s.channel c).tg) errs) c (segOf (tgPlace (s.channel c).tg)) errs gs) c
      (turnEnded (tgLen (s.channel c).tg)) := by
  refine ⟨((List.range (tgLen (s.channel c).tg / 64)).map fun i => tgPlace (s.channel c).tg + 64 * i).map
    fun x => x / 64 % 32, ?_⟩
  unfold tgTurn
  dsimp only
  rw [if_pos hwriting, if_neg (by omega), hwriting]
  rfl

/-- SEGMENT_TURN gives a generator that runs, and has not been stopped, its turn. -/
theorem segmentTurn_generator {s : State} {c : ChannelId} {cyc : Nat} {errs : List (Nat × Nat)}
    (hclear : (s.channel c).clearing = false) (htrain : (s.channel c).training = false)
    (hwriting : (s.channel c).tg.state = .writing) (hstop : (s.channel c).tg.stopping = false)
    (hfin : (s.channel c).tg.finished = false) : exec (.segmentTurn c cyc errs) s = .next (tgTurn s c errs) := by
  show execSegmentTurn c cyc errs s = _
  unfold execSegmentTurn
  dsimp only
  rw [if_neg (by simp [hclear, htrain]), if_pos (by simp [tgActive, hwriting]), if_neg (by simp [hstop, hfin])]

theorem generatorTurn_holds (s : State) (c : ChannelId) (cyc : Nat) (errs : List (Nat × Nat))
    (hclear : (s.channel c).clearing = false) (htrain : (s.channel c).training = false)
    (hwriting : (s.channel c).tg.state = .writing) (hstop : (s.channel c).tg.stopping = false)
    (hfin : (s.channel c).tg.finished = false) (hmode : tgMode (s.channel c).tg.runControl ≤ 1) :
    ∃ s', exec (.segmentTurn c cyc errs) s = .next s' ∧
      (let g := (s.channel c).tg
       let o := tgOffsetAt g.runControl g.runOffset g.runLength g.pos
       let n := min (turnBytes o (tgRun g.runControl - g.pos % tgRun g.runControl)) (g.runLength - g.pos)
       (∀ k i, k < n / 64 → i < 64 → Mem.read s'.stack (stackKey c (o + 64 * k) + i) =
         (if 2 ≤ (lanesOf errs ((o + 64 * k) / 64 % 32)).length then Mem.read s.stack (stackKey c (o + 64 * k) + i)
         else tgByte g (o + 64 * k + i))) ∧
       (∀ a, a < stackKey c o ∨ stackKey c o + n ≤ a → Mem.read s'.stack a = Mem.read s.stack a) ∧
       (s'.channel c).tg.wrote = true) ∧ OtherChannelsKept s s' c := by
  obtain ⟨gs, hturn⟩ := tgTurn_writing errs hwriting hmode
  let g := (s.channel c).tg
  let s₀ : State := s.modChannel c fun K => { K with lastWrite := true }
  have hg : (s₀.channel c).tg = g := by
    show ((s.modChannel c _).channel c).tg = g
    rw [State.channel_modChannel_self]
  obtain ⟨hstack, hwrote, hothers⟩ := tgWrite_effect s₀ c (tgPlace g) (tgLen g) errs
  rw [hg] at hstack
  have hlane := lanesOnly_countLanes (tgWrite s₀ c (tgPlace g) (tgLen g) errs) c (segOf (tgPlace g)) errs gs
  have hmem : (tgTurn s c errs).stack = (granulesArrived g c errs s₀ (tgPlace g) (tgLen g / 64)).stack := by
    rw [hturn]
    exact (congrArg State.stack hlane.within).trans hstack
  refine ⟨_, segmentTurn_generator hclear htrain hwriting hstop hfin, ⟨fun k i hk hi => ?_, fun a ha => ?_, ?_⟩,
    fun i hi => ?_⟩
  · rw [hmem]
    exact read_granulesArrived_inside g c errs s₀ (tgPlace g) hk hi
  · rw [hmem]
    refine (read_granulesArrived_outside g errs s₀ ?_).trans rfl
    have hle : 64 * (tgLen g / 64) ≤ tgLen g := Nat.mul_div_le _ _
    exact ha.imp id fun h => le_trans (Nat.add_le_add_left hle _) h
  · rw [hturn, modTg, State.channel_modChannel_self]
    refine (wrote_turnEnded _ _).trans ?_
    rw [hlane.own]
    exact hwrote
  · rw [hturn, others_modTg _ _ _ i hi, hlane.others i hi, hothers i hi]
    exact State.channel_modChannel_ne _ _ hi

/-- With no generator active in a channel that no parcel owns, a turn does nothing. -/
theorem segmentTurn_unowned (s : State) (c : ChannelId) (cyc : Nat) (errs : List (Nat × Nat))
    (htg : tgActive (s.channel c).tg = false) (hp : s.channelParcel c = none) :
    exec (.segmentTurn c cyc errs) s = .next s := by
  show execSegmentTurn c cyc errs s = _
  unfold execSegmentTurn
  dsimp only
  split
  · rfl
  · rw [if_neg (by simp [htg]), hp]

/-- With no generator active and no copy channel waiting, a turn does the work in flight of earlier cycles. -/
theorem segmentTurn_settles (s : State) (c : ChannelId) (cyc p : Nat) (errs : List (Nat × Nat))
    (hclear : (s.channel c).clearing = false) (htrain : (s.channel c).training = false)
    (htg : tgActive (s.channel c).tg = false) (hp : s.channelParcel c = some p)
    (hnone : requesters (s.settle p cyc) c cyc = []) :
    exec (.segmentTurn c cyc errs) s = .next (s.settle p cyc) := by
  show execSegmentTurn c cyc errs s = _
  unfold execSegmentTurn
  dsimp only
  rw [if_neg (by simp [hclear, htrain]), if_neg (by simp [htg]), hp]
  dsimp only
  rw [copyTurn, hnone]
  cases (s.settle p cyc).channelParcel c <;> rfl

/-- Settles O16: a start is judged again at its boundary, where its fields are latched (the model's choice, log entry 31), and
a turn of the generator takes the lane errors that it meets as its arguments (log entry 28). -/
theorem trafficGeneratorRuns : Obligations.TrafficGeneratorRuns :=
  ⟨tgStart_holds, tgStop_holds, tgRunBegin_begins, tgRunBegin_refuses, tgRunEnd_holds, generatorTurn_holds,
    segmentTurn_unowned, segmentTurn_settles⟩

end Sys2Proof.Proofs.Controllers
end

section
/-! PROOFS. The family of 08_pereo_stacks.md: launches that reach a Celulo unit, the frames of its port, and a completed
launch's post (R194, R219, R221, R233 to R235). -/

namespace Sys2Proof.Proofs.CeluloPort

open Sys2Proof Sys2Proof.Machine Sys2Proof.Claims Sys2Proof.Proofs.ArrayTiles Sys2Proof.Proofs.Engines
open Sys2Proof.Proofs.PereoStacks Sys2Proof.Proofs.SegmentTurns Sys2Proof.Proofs.Controllers

/-! ### What a command of one unit leaves -/

/-- No unit but `u`, no channel, no tile and no launch on its way has changed. -/
structure OneUnit (s s' : State) (u : Nat) : Prop where
  channels : s'.channels = s.channels
  tiles : s'.tiles = s.tiles
  launches : s'.launches = s.launches
  others : ∀ i, i ≠ u → s'.cunit i = s.cunit i

theorem OneUnit.refl (s : State) (u : Nat) : OneUnit s s u := ⟨rfl, rfl, rfl, fun _ _ => rfl⟩

theorem OneUnit.trans {s s' s'' : State} {u : Nat} (h : OneUnit s s' u) (h' : OneUnit s' s'' u) : OneUnit s s'' u where
  channels := h'.channels.trans h.channels
  tiles := h'.tiles.trans h.tiles
  launches := h'.launches.trans h.launches
  others i hi := (h'.others i hi).trans (h.others i hi)

theorem OneUnit.kept {s s' : State} {u : Nat} (h : OneUnit s s' u) : OtherUnitsKept s s' u :=
  ⟨h.others, fun i _ => channel_congr h.channels i⟩

theorem oneUnit_setUnit (s : State) (u : Nat) (U : CUnit) : OneUnit s (s.setUnit u U) u :=
  ⟨rfl, rfl, rfl, fun _ hi => s.cunit_setUnit_ne U hi⟩

theorem oneUnit_modUnit (s : State) (u : Nat) (f : CUnit → CUnit) : OneUnit s (s.modUnit u f) u := oneUnit_setUnit s u _

theorem oneUnit_count (s : State) (p : Option Nat) (k n u : Nat) : OneUnit s (s.count p k n) u where
  channels := s.count_channels p k n
  tiles := s.count_tiles p k n
  launches := s.count_launches p k n
  others i _ := cunit_congr (s.count_units p k n) (s.count_channels p k n) i

theorem cunit_count (s : State) (p : Option Nat) (k n u : Nat) : (s.count p k n).cunit u = s.cunit u :=
  cunit_congr (s.count_units p k n) (s.count_channels p k n) u

/-! ### Halts (R243, R244, R246) -/

theorem oneUnit_countCelulo (s : State) (u k : Nat) : OneUnit s (countCelulo s u k) u :=
  (oneUnit_count s _ _ _ u).trans (oneUnit_modUnit _ u _)

theorem oneUnit_noteHalt (s : State) (u cyc : Nat) : OneUnit s (noteHalt s u cyc) u := by
  unfold noteHalt
  split
  · exact .refl s u
  · exact ⟨rfl, rfl, rfl, fun _ _ => rfl⟩

theorem noteHalt_stack (s : State) (u cyc : Nat) : (noteHalt s u cyc).stack = s.stack := by
  unfold noteHalt
  split
  · rfl
  · rfl

theorem logNotTaken_leaves (s : State) (u cyc : Nat) (fifo : List FifoGranule) :
    let s' := logNotTaken s u cyc fifo
    (s'.units, s'.channels, s'.tiles, s'.launches, s'.stack) = (s.units, s.channels, s.tiles, s.launches, s.stack) := by
  refine foldl_keeps _ (fun s : State => (s.units, s.channels, s.tiles, s.launches, s.stack)) (fun s g => ?_) fifo s
  split
  · simp only [logUncorrAt, State.logCycle_units, State.logCycle_channels, State.logCycle_tiles, State.logCycle_launches,
      State.logCycle_stack]
  · rfl

theorem oneUnit_logNotTaken (s : State) (u cyc : Nat) (fifo : List FifoGranule) :
    OneUnit s (logNotTaken s u cyc fifo) u := by
  have h := logNotTaken_leaves s u cyc fifo
  simp only [Prod.mk.injEq] at h
  obtain ⟨hunits, hchannels, htiles, hlaunches, -⟩ := h
  exact ⟨hchannels, htiles, hlaunches, fun i _ => cunit_congr hunits hchannels i⟩

theorem oneUnit_haltUnit (s : State) (u cyc : Nat) (h : UnitHalt) : OneUnit s (haltUnit s u cyc h) u :=
  (((oneUnit_countCelulo s u (celuloCycle cyc + 1)).trans (oneUnit_logNotTaken _ u cyc (s.cunit u).fifo)).trans
    (oneUnit_noteHalt _ u cyc)).trans (by unfold haltUnit; exact oneUnit_modUnit _ u _)

theorem haltUnit_stack (s : State) (u cyc : Nat) (h : UnitHalt) : (haltUnit s u cyc h).stack = s.stack := by
  have hlog := logNotTaken_leaves (countCelulo s u (celuloCycle cyc + 1)) u cyc (s.cunit u).fifo
  simp only [Prod.mk.injEq] at hlog
  obtain ⟨-, -, -, -, hstack⟩ := hlog
  exact ((noteHalt_stack _ u cyc).trans hstack).trans (s.count_stack _ _ _)

theorem haltUnit_halt (s : State) (u cyc : Nat) (h : UnitHalt) : ((haltUnit s u cyc h).cunit u).halt = h := by
  unfold haltUnit
  dsimp only
  rw [State.cunit_modUnit_self]

/-! ### A launch reaches a unit (R233, R234) -/

theorem launchBegun_workOnly (s : State) (u cyc : Nat) : WorkOnly s (launchBegun s u cyc) := by
  unfold launchBegun
  split
  · exact workOnly_settle _ _ _
  · exact .rfl

/-- What a launch does that reaches a healthy unit. -/
theorem celuloLaunch_reaches {s b : State} {u : UnitId} {cyc : Nat} {f : LaunchFlight} {rest : List LaunchFlight}
    (hb : b = launchBegun s u cyc) (hf : OldestLaunch s u f rest)
    (hpair : (b.channel (u / 64)).retiredPairs.contains (u % 64) = false) (hhalt : (b.cunit u).halt = .none) :
    let s₁ := { b with launches := rest }
    exec (.celuloLaunch u cyc) s = .next (match (b.cunit u).running, (b.cunit u).pendingLaunch with
      | none, _ => s₁.setUnit u (startUnit (b.cunit u) f.launch (logicalUnit b u) (celuloCycle cyc))
      | some _, none => s₁.setUnit u { b.cunit u with pendingLaunch := some f.launch }
      | some _, some _ => haltUnit s₁ u cyc (.direct CCause.launchOverrun.code (b.cunit u).pc.toNat 0)) := by
  have hlaunches : b.launches = s.launches := by
    rw [hb]; exact (congrArg State.launches (launchBegun_workOnly s u cyc)).trans rfl
  have hf' : takeFirst (fun f : LaunchFlight => f.unit = u.val) b.launches = some (f, rest) := by rw [hlaunches]; exact hf
  show execCeluloLaunch u cyc s = _
  unfold execCeluloLaunch
  extract_lets b'
  have hb' : b' = b := hb.symm
  clear_value b'
  rw [hb', hf']
  dsimp only
  rw [if_neg (by rw [show ({ b with launches := rest } : State).channel (u / 64) = b.channel (u / 64) from rfl, hpair]; simp),
    if_neg (by rw [show ({ b with launches := rest } : State).cunit u = b.cunit u from rfl, hhalt]; simp)]
  rw [show ({ b with launches := rest } : State).cunit u = b.cunit u from rfl]
  cases (b.cunit u).running with
  | none => rfl
  | some L => cases (b.cunit u).pendingLaunch <;> rfl

theorem launch_starts (s b : State) (u : UnitId) (cyc : Nat) (f : LaunchFlight) (rest : List LaunchFlight)
    (hb : b = launchBegun s u cyc) (hf : OldestLaunch s u f rest)
    (hpair : (b.channel (u / 64)).retiredPairs.contains (u % 64) = false) (hhalt : (b.cunit u).halt = .none)
    (hrun : (b.cunit u).running = none) :
    ∃ s', exec (.celuloLaunch u cyc) s = .next s' ∧ s' = { b with launches := rest, units := s'.units } ∧
      s'.cunit u = startUnit (b.cunit u) f.launch (logicalUnit b u) (celuloCycle cyc) ∧
      (s'.cunit u).running = some f.launch ∧ sreg (s'.cunit u) 0 = f.launch.arg ∧
      sreg (s'.cunit u) 1 = BitVec.ofNat 32 (logicalUnit b u) ∧ sreg (s'.cunit u) 15 = 0x4000 ∧
      (s'.cunit u).fcw = 0x007F7F55 ∧ (s'.cunit u).pc = f.launch.entry.setWidth 32 ∧ (s'.cunit u).fifo = [] ∧
      (s'.cunit u).data = (b.cunit u).data ∧ OtherUnitsKept b s' u := by
  have hexec := celuloLaunch_reaches hb hf hpair hhalt
  rw [hrun] at hexec
  refine ⟨_, hexec, rfl, State.cunit_setUnit_self _ _ _, ?_⟩
  rw [State.cunit_setUnit_self]
  refine ⟨rfl, ?_, ?_, ?_, rfl, rfl, rfl, rfl, (oneUnit_setUnit { b with launches := rest } u _).kept⟩
  · rw [sreg, startUnit, Tab.get_set_ne _ _ _ (by decide), Tab.get_set_ne _ _ _ (by decide), Tab.get_set_self]
  · rw [sreg, startUnit, Tab.get_set_ne _ _ _ (by decide), Tab.get_set_self]
  · rw [sreg, startUnit, Tab.get_set_self]

theorem launch_waits (s b : State) (u : UnitId) (cyc : Nat) (f : LaunchFlight) (rest : List LaunchFlight) (L : UnitLaunch)
    (hb : b = launchBegun s u cyc) (hf : OldestLaunch s u f rest)
    (hpair : (b.channel (u / 64)).retiredPairs.contains (u % 64) = false) (hhalt : (b.cunit u).halt = .none)
    (hrun : (b.cunit u).running = some L) (hslot : (b.cunit u).pendingLaunch = none) :
    ∃ s', exec (.celuloLaunch u cyc) s = .next s' ∧ s' = { b with launches := rest, units := s'.units } ∧
      s'.cunit u = { b.cunit u with pendingLaunch := some f.launch } ∧ OtherUnitsKept b s' u := by
  have hexec := celuloLaunch_reaches hb hf hpair hhalt
  rw [hrun, hslot] at hexec
  exact ⟨_, hexec, rfl, State.cunit_setUnit_self _ _ _, (oneUnit_setUnit _ u _).kept⟩

theorem launch_overruns (s b : State) (u : UnitId) (cyc : Nat) (f : LaunchFlight) (rest : List LaunchFlight) (L L' : UnitLaunch)
    (hb : b = launchBegun s u cyc) (hf : OldestLaunch s u f rest)
    (hpair : (b.channel (u / 64)).retiredPairs.contains (u % 64) = false) (hhalt : (b.cunit u).halt = .none)
    (hrun : (b.cunit u).running = some L) (hslot : (b.cunit u).pendingLaunch = some L') :
    ∃ s', exec (.celuloLaunch u cyc) s = .next s' ∧ s'.launches = rest ∧ s'.stack = s.stack ∧
      (s'.cunit u).halt = .direct 0x11 (b.cunit u).pc.toNat 0 ∧ OtherUnitsKept b s' u := by
  have hexec := celuloLaunch_reaches hb hf hpair hhalt
  rw [hrun, hslot] at hexec
  have honly := oneUnit_haltUnit { b with launches := rest } u cyc (.direct 0x11 (b.cunit u).pc.toNat 0)
  have hstack : b.stack = s.stack := by
    rw [hb]; exact (congrArg State.stack (launchBegun_workOnly s u cyc)).trans rfl
  exact ⟨_, hexec, honly.launches, (haltUnit_stack _ _ _ _).trans hstack, haltUnit_halt _ _ _ _, honly.kept⟩

/-! ### The port (R194, R219, R221) -/

/-- The unit once its port has put granule `g` of its open stream `r` into the FIFO. -/
def granuleTaken (U : CUnit) (r : Machine.Stream) (g : FifoGranule) : CUnit :=
  { U with
      fifo := U.fifo ++ [g]
      openRead := if r.left ≤ 1 then U.pendingRead else some ⟨r.addr + 64, r.left - 1⟩
      pendingRead := if r.left ≤ 1 then none else U.pendingRead }

/-- The port reads a granule of the unit's open stream. -/
theorem portRead_takes {s : State} {u : Nat} {r : Machine.Stream} (h : (s.cunit u).openRead = some r) :
    OneUnit s (portRead s u) u ∧ (portRead s u).stack = s.stack ∧ (portRead s u).stackErr = s.stackErr ∧
      (portRead s u).cunit u = granuleTaken (s.cunit u) r (portGranule s u r.addr) := by
  obtain ⟨l, i, hcorr⟩ := countCorrected_only s (u / 64) [stackKey (u / 64) (pairOffset (u % 64) r.addr) / 64]
  obtain ⟨q, hcount⟩ := State.count_only { s with log := l, irq := i }
    (({ s with log := l, irq := i } : State).channelParcel (u / 64)) 0x10 1
  have hread : portRead s u = ({ s with log := l, irq := i, parcels := q } : State).setUnit u
      (granuleTaken (s.cunit u) r (portGranule s u r.addr)) := by
    unfold portRead
    dsimp only
    rw [h]
    dsimp only
    rw [hcorr, hcount]
    unfold granuleTaken
    split
    · rfl
    · rfl
  rw [hread]
  exact ⟨⟨rfl, rfl, rfl, fun _ hi => State.cunit_setUnit_ne _ _ hi⟩, rfl, rfl, State.cunit_setUnit_self _ _ _⟩

theorem portGranule_congr {s s' : State} (hstack : s'.stack = s.stack) (herr : s'.stackErr = s.stackErr) (u a : Nat) :
    portGranule s' u a = portGranule s u a := by
  unfold portGranule bankRead granuleErr
  rw [hstack, herr]

/-- The port writes the oldest queued granule, a complete one. -/
theorem portWrite_writes {s : State} {u : Nat} {g : QueuedGranule} {rest : List QueuedGranule}
    (h : (s.cunit u).writeQueue = g :: rest) (hg : g.bytes.length = 64) :
    OneUnit s (portWrite s u) u ∧ (portWrite s u).stack = portWritten s u [g] ∧
      (portWrite s u).cunit u = { s.cunit u with writeQueue := rest } := by
  obtain ⟨q, hcount⟩ := State.count_only (bankWrite s (u / 64) (pairOffset (u % 64) g.addr) g.bytes)
    ((bankWrite s (u / 64) (pairOffset (u % 64) g.addr) g.bytes).channelParcel (u / 64)) 0x11 1
  have hwrite : portWrite s u = ({ bankWrite s (u / 64) (pairOffset (u % 64) g.addr) g.bytes with parcels := q } : State).setUnit u
      { s.cunit u with writeQueue := rest } := by
    unfold portWrite
    dsimp only
    rw [h]
    dsimp only
    rw [if_pos hg, ← hcount]
    rfl
  rw [hwrite]
  exact ⟨⟨rfl, rfl, rfl, fun _ hi => State.cunit_setUnit_ne _ _ hi⟩, rfl, State.cunit_setUnit_self _ _ _⟩

/-- The port writes nothing where the oldest queued granule is not complete. -/
theorem portWrite_idle {s : State} {u : Nat} (h : ∀ g, (s.cunit u).writeQueue.head? = some g → g.bytes.length ≠ 64) :
    portWrite s u = s := by
  unfold portWrite
  dsimp only
  split
  next g rest hq => rw [if_neg (h g (by rw [hq]; rfl))]
  next => rfl

/-- Frame 4 writes the unit's complete granules, up to two. -/
theorem portWrites_write {s : State} {u : Nat} {gs rest : List QueuedGranule} (hq : (s.cunit u).writeQueue = gs ++ rest)
    (hlen : gs.length ≤ 2) (hgs : ∀ g ∈ gs, g.bytes.length = 64)
    (hrest : gs.length < 2 → ∀ g, rest.head? = some g → g.bytes.length ≠ 64) :
    let s' := portWrite (portWrite s u) u
    OneUnit s s' u ∧ s'.stack = portWritten s u gs ∧ s'.cunit u = { s.cunit u with writeQueue := rest } := by
  intro s'
  match gs, hlen with
  | [], _ =>
    have hidle : portWrite s u = s := portWrite_idle fun g hg => hrest (by simp) g (by rw [← hg, hq]; rfl)
    have hs' : s' = s := by rw [show s' = portWrite (portWrite s u) u from rfl, hidle, hidle]
    rw [hs']
    refine ⟨.refl s u, rfl, ?_⟩
    rw [← show (s.cunit u).writeQueue = rest from hq]
  | [g], _ =>
    obtain ⟨honly, hstack, hunit⟩ := portWrite_writes hq (hgs g (by simp))
    have hidle : s' = portWrite s u := portWrite_idle fun g' hg' => hrest (by simp) g' (by rw [← hg', hunit]; rfl)
    rw [hidle]
    exact ⟨honly, hstack, hunit⟩
  | [g, g'], _ =>
    obtain ⟨honly, hstack, hunit⟩ := portWrite_writes hq (hgs g (by simp))
    obtain ⟨honly', hstack', hunit'⟩ := portWrite_writes (s := portWrite s u) (u := u) (g := g') (rest := rest)
      (by rw [hunit]; rfl) (hgs g' (by simp))
    refine ⟨honly.trans honly', ?_, by rw [hunit', hunit]⟩
    rw [hstack', portWritten, hstack]
    rfl

/-- The unit's frame has passed. -/
def framePassed (s : State) (u : Nat) : State := s.modUnit u fun U => { U with frame := (U.frame + 1) % 5 }

theorem oneUnit_framePassed (s : State) (u : Nat) : OneUnit s (framePassed s u) u := oneUnit_modUnit s u _

theorem cunit_framePassed (s : State) (u : Nat) :
    (framePassed s u).cunit u = { s.cunit u with frame := ((s.cunit u).frame + 1) % 5 } := State.cunit_modUnit_self _ _ _

theorem portFrame_writes (s : State) (u : UnitId) (gs rest : List QueuedGranule) (hframe : (s.cunit u).frame % 5 = 4)
    (hq : (s.cunit u).writeQueue = gs ++ rest) (hlen : gs.length ≤ 2) (hgs : ∀ g ∈ gs, g.bytes.length = 64)
    (hrest : gs.length < 2 → ∀ g, rest.head? = some g → g.bytes.length ≠ 64) :
    ∃ s', exec (.portFrame u) s = .next s' ∧ s'.stack = portWritten s u gs ∧ s'.tiles = s.tiles ∧
      s'.cunit u = { s.cunit u with frame := 0, writeQueue := rest } ∧ OtherUnitsKept s s' u := by
  obtain ⟨honly, hstack, hunit⟩ := portWrites_write hq hlen hgs hrest
  have hall := honly.trans (oneUnit_framePassed _ u)
  have hexec : exec (.portFrame u) s = .next (framePassed (portWrite (portWrite s u) u) u) := by
    show execPortFrame u s = _
    unfold execPortFrame
    dsimp only
    rw [if_pos hframe]
    rfl
  refine ⟨_, hexec, hstack, hall.tiles, ?_, hall.kept⟩
  have hzero : ((s.cunit u).frame + 1) % 5 = 0 := by omega
  rw [cunit_framePassed, hunit, ← hzero]

theorem portFrame_idles (s : State) (u : UnitId) (hframe : (s.cunit u).frame % 5 ≠ 4)
    (hidle : (s.cunit u).openRead = none ∨ (s.cunit u).halt ≠ .none) :
    ∃ s', exec (.portFrame u) s = .next s' ∧ s' = { s with units := s'.units } ∧
      s'.cunit u = { s.cunit u with frame := ((s.cunit u).frame + 1) % 5 } ∧ OtherUnitsKept s s' u := by
  have hexec : exec (.portFrame u) s = .next (framePassed s u) := by
    show execPortFrame u s = _
    unfold execPortFrame
    dsimp only
    rw [if_neg hframe]
    cases hread : (s.cunit u).openRead with
    | none => rfl
    | some r =>
      dsimp only
      rw [if_pos (hidle.resolve_left (by simp [hread]))]
      rfl
  exact ⟨_, hexec, rfl, cunit_framePassed s u, (oneUnit_framePassed s u).kept⟩

theorem portFrame_readsTwo (s : State) (u : UnitId) (r : Machine.Stream) (hframe : (s.cunit u).frame % 5 ≠ 4)
    (hread : (s.cunit u).openRead = some r) (hhalt : (s.cunit u).halt = .none) (hleft : 2 ≤ r.left)
    (hroom : (s.cunit u).fifo.length ≤ 14) :
    ∃ s', exec (.portFrame u) s = .next s' ∧ s'.stack = s.stack ∧ s'.tiles = s.tiles ∧
      s'.cunit u = { s.cunit u with
        frame := ((s.cunit u).frame + 1) % 5
        fifo := (s.cunit u).fifo ++ [portGranule s u r.addr, portGranule s u (r.addr + 64)]
        openRead := if r.left = 2 then (s.cunit u).pendingRead else some ⟨r.addr + 128, r.left - 2⟩
        pendingRead := if r.left = 2 then none else (s.cunit u).pendingRead } ∧ OtherUnitsKept s s' u := by
  obtain ⟨honly, hstack, herr, hunit⟩ := portRead_takes hread
  obtain ⟨honly', hstack', -, hunit'⟩ := portRead_takes (s := portRead s u) (u := u) (r := ⟨r.addr + 64, r.left - 1⟩)
    (by rw [hunit, granuleTaken, if_neg (by omega)])
  have hall := (honly.trans honly').trans (oneUnit_framePassed _ u)
  have hexec : exec (.portFrame u) s = .next (framePassed (portRead (portRead s u) u) u) := by
    show execPortFrame u s = _
    unfold execPortFrame
    dsimp only
    rw [if_neg hframe, hread]
    dsimp only
    rw [if_neg (by simp [hhalt]), if_neg (by omega), if_pos hroom]
    rfl
  refine ⟨_, hexec, hstack'.trans hstack, hall.tiles, ?_, hall.kept⟩
  have hlast : (r.left - 1 ≤ 1) ↔ r.left = 2 := by omega
  rw [cunit_framePassed, hunit', hunit, portGranule_congr hstack herr]
  simp only [granuleTaken, if_neg (show ¬ r.left ≤ 1 by omega), hlast, List.append_assoc, List.cons_append, List.nil_append,
    Nat.add_assoc, Nat.sub_sub, Nat.reduceAdd]

theorem portFrame_readsLast (s : State) (u : UnitId) (r : Machine.Stream) (hframe : (s.cunit u).frame % 5 ≠ 4)
    (hread : (s.cunit u).openRead = some r) (hhalt : (s.cunit u).halt = .none) (hleft : r.left = 1)
    (hroom : (s.cunit u).fifo.length ≤ 15) :
    ∃ s', exec (.portFrame u) s = .next s' ∧ s'.stack = s.stack ∧ s'.tiles = s.tiles ∧
      s'.cunit u = { s.cunit u with
        frame := ((s.cunit u).frame + 1) % 5
        fifo := (s.cunit u).fifo ++ [portGranule s u r.addr]
        openRead := (s.cunit u).pendingRead
        pendingRead := none } ∧ OtherUnitsKept s s' u := by
  obtain ⟨honly, hstack, -, hunit⟩ := portRead_takes hread
  have hall := honly.trans (oneUnit_framePassed _ u)
  have hexec : exec (.portFrame u) s = .next (framePassed (portRead s u) u) := by
    show execPortFrame u s = _
    unfold execPortFrame
    dsimp only
    rw [if_neg hframe, hread]
    dsimp only
    rw [if_neg (by simp [hhalt]), if_pos hleft, if_pos (by omega)]
    rfl
  refine ⟨_, hexec, hstack, hall.tiles, ?_, hall.kept⟩
  have hone : r.left ≤ 1 := hleft.le
  rw [cunit_framePassed, hunit]
  simp only [granuleTaken, if_pos hone]

/-! ### A completed launch (R235) -/

theorem sendPost_posts (s : State) (t e : Nat) (d : Option Post) :
    (sendPost s t e d).posts = s.posts ++ (match d with | some d => [⟨t, e, d⟩] | none => []) := by
  cases d with
  | none => exact (List.append_nil _).symm
  | some d => rfl

theorem launchCompletionPost_holds (s b : State) (t : TileId) (e : EngineId) (cyc : Nat) (l : Launch) (rest : List Launch)
    (hb : b = s.settleTile t cyc)
    (hl : takeFirst (fun l : Launch => l.remaining.isEmpty) (b.engine t e).launches = some (l, rest)) :
    ∃ s', exec (.launchCompletionPost t e cyc) s = .next s' ∧
      s'.engine t e = { b.engine t e with launches := rest } ∧
      s'.posts = s.posts ++ (match l.post with | some d => [⟨t, e, d⟩] | none => []) ∧ s'.stack = s.stack ∧
      TileDataKept b s' t ∧ OthersKept b s' t 0 := by
  have hexec : exec (.launchCompletionPost t e cyc) s =
      .next (sendPost (b.setEngine t e { b.engine t e with launches := rest }) t e l.post) := by
    show execLaunchCompletionPost t e cyc s = _
    unfold execLaunchCompletionPost
    dsimp only
    rw [← hb, hl]
  have htiles := sendPost_tiles (b.setEngine t e { b.engine t e with launches := rest }) t e l.post
  have honly : EngineOnly b (sendPost (b.setEngine t e { b.engine t e with launches := rest }) t e l.post) t e :=
    (b.setEngine_engineOnly t e _).trans (.of_tiles t e htiles)
  have hne : ∀ i, i ≠ (t : Nat) →
      (sendPost (b.setEngine t e { b.engine t e with launches := rest }) t e l.post).tile i = b.tile i :=
    fun i hi => (tile_congr htiles i).trans (b.tile_setEngine_ne _ hi)
  refine ⟨_, hexec, (engine_congr htiles t e).trans (b.engine_setEngine_self t e _), (sendPost_posts _ _ _ _).trans ?_,
    (sendPost_stack _ _ _ _).trans ?_, honly.dataKept,
    fun i hi => ⟨honly.1 i, fun j => honly.2 i j fun h => hi h.1⟩, fun _ => hne⟩
  · rw [show (b.setEngine t e { b.engine t e with launches := rest }).posts = b.posts from rfl, hb, settleTile_posts]
  · rw [show (b.setEngine t e { b.engine t e with launches := rest }).stack = b.stack from rfl, hb, settleTile_stack]

/-- Settles O24: a launch is judged by what its unit runs and holds, and a frame by the unit's queue or open stream; each touches
its own unit alone. -/
theorem celuloLaunchAndPort : Obligations.CeluloLaunchAndPort :=
  ⟨launch_starts, launch_waits, launch_overruns, portFrame_writes, portFrame_idles, portFrame_readsTwo, portFrame_readsLast,
    launchCompletionPost_holds⟩

end Sys2Proof.Proofs.CeluloPort
end

section
/-! PROOFS. The family of 08_pereo_stacks.md: boot, and the release of the module (R208, R320 to R322, R410, R411). -/

namespace Sys2Proof.Proofs.Boot

open Sys2Proof Sys2Proof.Machine Sys2Proof.Claims Sys2Proof.Proofs.ArrayTiles Sys2Proof.Proofs.Engines
open Sys2Proof.Proofs.PereoStacks

/-! ### Tables -/

/-- A table set key by key from the empty one. -/
theorem get_foldl_set {α : Type} [DecidableEq α] (d : α) (f : Nat → α) {n k : Nat} (h : k < n) :
    Tab.get d ((List.range n).foldl (fun t c => Tab.set d t c (f c)) []) k = f k := by
  induction n with
  | zero => omega
  | succ n ih =>
    rw [List.range_succ, List.foldl_append, List.foldl_cons, List.foldl_nil]
    rcases Nat.lt_succ_iff_lt_or_eq.1 h with hk | rfl
    · rw [Tab.get_set_ne _ _ _ (by omega), ih hk]
    · rw [Tab.get_set_self]

/-- What an update of a whole table lists, the update has made. -/
theorem mem_update {α : Type} [DecidableEq α] {d : α} {f : Nat → α → α} {t : Tab α} {x : Nat × α}
    (h : x ∈ Tab.update d f t) : ∃ v, x.2 = f x.1 v := by
  induction t with
  | nil => cases h
  | cons y t ih =>
    obtain ⟨j, v⟩ := y
    unfold Tab.update at h
    split at h
    · exact ih ((Tab.erase_sublist _ _).subset h)
    · rcases List.mem_cons.1 h with rfl | h
      · exact ⟨v, rfl⟩
      · exact ih h

/-! ### Boot (R208, R320, R322) -/

/-- The component that boot names is unsigned, or its image is older than the security version. -/
theorem bootFailure_judged {s : State} {l : List Nat} {c r : Nat} (h : bootFailure s l = some (c, r)) :
    (r = 2 ∧ (activeImage s c).signed = false) ∨
      (r = 3 ∧ (activeImage s c).signed = true ∧ (activeImage s c).secVersion < s.cart.securityVersion) := by
  induction l with
  | nil => cases h
  | cons b l ih =>
    unfold bootFailure at h
    dsimp only at h
    split at h
    next hsigned =>
      obtain ⟨rfl, rfl⟩ := Prod.mk.inj (Option.some.inj h)
      exact .inl ⟨rfl, by simpa using hsigned⟩
    next hsigned =>
      split at h
      next hold =>
        obtain ⟨rfl, rfl⟩ := Prod.mk.inj (Option.some.inj h)
        exact .inr ⟨rfl, by simpa using hsigned, hold⟩
      next => exact ih h

/-- The guard of boot. -/
theorem boot_guard {s : State} : MayBoot s ↔
    ¬ ((!(s.supply.v48 && s.supply.v3p3 && s.supply.converters) || s.supply.inReset || s.cart.result ≠ 0 ||
      s.cart.stage ≠ 0) = true) := by
  simp only [MayBoot, Bool.or_eq_true, Bool.not_eq_true', Bool.and_eq_false_iff, decide_eq_true_eq, not_or, ne_eq,
    not_not, Bool.not_eq_true, Bool.not_eq_false]
  tauto

theorem channel_trainAll (s : State) {c : Nat} (h : c < 384) :
    (trainAll s).channel c = { s.channel c with training := true } := by
  unfold trainAll State.channel
  dsimp only
  rw [get_foldl_set _ _ h]

theorem boot_trains (s : State) (h : MayBoot s) (hfail : bootFailure s [1, 2, 3, 4] = none) :
    (boot s).cart = { s.cart with stage := 5, aliasEpoch := nextEpoch s.cart.aliasEpoch } ∧
    (∀ c, c < 384 → (boot s).channel c = { s.channel c with training := true }) ∧
    boot s = { s with cart := (boot s).cart, channels := (boot s).channels } := by
  have hboot : boot s = trainAll { s with cart := { s.cart with stage := 5, aliasEpoch := nextEpoch s.cart.aliasEpoch } } := by
    unfold boot
    dsimp only
    rw [if_neg (boot_guard.1 h), hfail]
    dsimp only
    rw [if_pos rfl]
    unfold nextEpoch
    rfl
  obtain ⟨t, ht⟩ : ∃ t, boot s =
      { s with cart := { s.cart with stage := 5, aliasEpoch := nextEpoch s.cart.aliasEpoch }, channels := t } := ⟨_, hboot⟩
  exact ⟨by rw [ht], fun c hc => by rw [hboot, channel_trainAll _ hc]; rfl, by rw [ht]⟩

theorem boot_quarantines (s : State) (c r : Nat) (h : MayBoot s) (hfail : bootFailure s [1, 2, 3, 4] = some (c, r)) :
    (boot s).cart.result = r ∧ (boot s).cart.failImage = imageBlock c ∧ (boot s).cart.stage = bootStage c ∧
    (r = 2 ∨ r = 3) ∧ (r = 2 ↔ (activeImage s c).signed = false) ∧
    (r = 3 → (activeImage s c).secVersion < s.cart.securityVersion) ∧
    (∀ q, q ∈ (boot s).ports → q.2.mode = .dark) ∧ boot s = { s with cart := (boot s).cart, ports := (boot s).ports } := by
  obtain ⟨e, hboot⟩ : ∃ e, boot s =
      quarantine { s with cart := { s.cart with stage := bootStage c, failImage := imageBlock c, aliasEpoch := e } } r := by
    unfold boot
    dsimp only
    rw [if_neg (boot_guard.1 h), hfail]
    dsimp only
    split
    · rw [if_neg Bool.false_ne_true]
      exact ⟨s.cart.aliasEpoch, rfl⟩
    · rw [if_pos rfl]
      exact ⟨_, rfl⟩
  have hdark : ∀ q, q ∈ (boot s).ports → q.2.mode = .dark := fun q hq => by
    rw [hboot] at hq
    obtain ⟨P, hP⟩ := mem_update hq
    rw [hP]
  refine ⟨by rw [hboot]; rfl, by rw [hboot]; rfl, by rw [hboot]; rfl, ?_, ?_, ?_, hdark, by rw [hboot]; rfl⟩
  all_goals rcases bootFailure_judged hfail with ⟨rfl, hunsigned⟩ | ⟨rfl, hsigned, hold⟩
  · exact .inl rfl
  · exact .inr rfl
  · simp [hunsigned]
  · simp [hsigned]
  · simp
  · exact fun _ => hold

theorem boot_waits (s : State) (h : ¬ MayBoot s) : boot s = s := by
  unfold boot
  exact if_pos (not_not.1 (mt boot_guard.2 h))

/-! ### Release (R387, R410, R411) -/

/-- From `s` to `s'` no memory, tile, clock or parcel's control state has changed, nothing of the boot's state, and every lamp
that was lit is lit. -/
structure ReleaseKept (s s' : State) : Prop where
  stack : s'.stack = s.stack
  tiles : s'.tiles = s.tiles
  mer : s'.mer = s.mer
  clocks : s'.clocks = s.clocks
  boot : (s'.cart.stage, s'.cart.result, s'.cart.keysAlive, s'.cart.aliasEpoch) =
    (s.cart.stage, s.cart.result, s.cart.keysAlive, s.cart.aliasEpoch)
  lamps : ∀ m, (lamp s' m).present = (lamp s m).present ∧ (lamp s' m).control = (lamp s m).control
  lit : ∀ m, (lamp s m).mode = .lit → (lamp s' m).mode = .lit
  ctl : CtlKept s s'

theorem ReleaseKept.trans {s s' s'' : State} (h : ReleaseKept s s') (h' : ReleaseKept s' s'') : ReleaseKept s s'' where
  stack := h'.stack.trans h.stack
  tiles := h'.tiles.trans h.tiles
  mer := h'.mer.trans h.mer
  clocks := h'.clocks.trans h.clocks
  boot := h'.boot.trans h.boot
  lamps m := ⟨(h'.lamps m).1.trans (h.lamps m).1, (h'.lamps m).2.trans (h.lamps m).2⟩
  lit m hm := h'.lit m (h.lit m hm)
  ctl := h.ctl.trans h'.ctl

/-- The fields that release writes beside those of `ReleaseKept`. -/
abbrev ReleaseOnly (s s' : State) : Prop :=
  s' = { s with
    parcels := s'.parcels, ports := s'.ports, sent := s'.sent, log := s'.log, irq := s'.irq, cart := s'.cart }

theorem releaseKept_of_parcels {s s' : State} (h : ReleaseOnly s s')
    (hboot : (s'.cart.stage, s'.cart.result, s'.cart.keysAlive, s'.cart.aliasEpoch) =
      (s.cart.stage, s.cart.result, s.cart.keysAlive, s.cart.aliasEpoch)) (hctl : CtlKept s s') : ReleaseKept s s' where
  stack := (congrArg State.stack h).trans rfl
  tiles := (congrArg State.tiles h).trans rfl
  mer := (congrArg State.mer h).trans rfl
  clocks := (congrArg State.clocks h).trans rfl
  boot := hboot
  lamps m := by rw [lamp, (congrArg State.lamps h).trans rfl]; exact ⟨rfl, rfl⟩
  lit m hm := by rw [lamp, (congrArg State.lamps h).trans rfl]; exact hm
  ctl := hctl

theorem ReleaseKept.refl (s : State) : ReleaseKept s s := releaseKept_of_parcels rfl rfl (.of_parcels rfl)

theorem releaseKept_foldl {β : Type} {f : State → β → State} (h : ∀ s b, ReleaseKept s (f s b)) (l : List β) (s : State) :
    ReleaseKept s (l.foldl f s) :=
  List.foldlRecOn (motive := fun s' => ReleaseKept s s') l f (.refl s) fun _ hs b _ => hs.trans (h _ b)

theorem releaseKept_modParcel (s : State) (p : Nat) {f : Parcel → Parcel} (h : (f (s.parcel p)).ctl = (s.parcel p).ctl) :
    ReleaseKept s (s.modParcel p f) := releaseKept_of_parcels rfl rfl (ctlKept_modParcel s p f h)

theorem releaseKept_logEvent (s : State) (code source inst : Nat) (p : Option Nat) (sub detail : Nat) :
    ReleaseKept s (s.logEvent code source inst p sub detail) := by
  obtain ⟨l, i, h⟩ := s.logEvent_only code source inst p sub detail
  rw [h]
  exact releaseKept_of_parcels rfl rfl (.of_parcels rfl)

theorem releaseKept_raise (s : State) (fn vec : Nat) : ReleaseKept s (s.raise fn vec) := by
  obtain ⟨i, h⟩ := s.raise_only fn vec
  rw [h]
  exact releaseKept_of_parcels rfl rfl (.of_parcels rfl)

theorem releaseKept_completeOp (s : State) (p : Nat) (op : RemoteOp) (q tag status : Nat) :
    ReleaseKept s (completeOp s p op q tag status) := by
  have hcount : ∀ s : State, ReleaseKept s (if bitAt op.entry.toNat 5 then
      s.modParcel p fun P => { P with remote := { P.remote with
        counters := Tab.modify RemoteCounter.zero P.remote.counters (fld op.entry.toNat 302 6) fun c =>
          { c with arrived := c.arrived + 1 } } } else s) := fun s => by
    split
    · exact releaseKept_modParcel s p rfl
    · exact .refl s
  unfold completeOp
  extract_lets w s₁ newly s₂ s₃
  have h₃ : ReleaseKept s s₃ := ((hcount s).trans (releaseKept_modParcel s₁ p rfl)).trans (releaseKept_logEvent s₂ _ _ _ _ _ _)
  split
  · exact hcount s
  · split
    · exact h₃.trans (releaseKept_raise _ _ _)
    · exact h₃

theorem releaseKept_loseOps (s : State) (q : Nat) : ReleaseKept s (loseOps s q) := by
  unfold loseOps
  refine releaseKept_foldl (fun s p => ?_) _ s
  extract_lets outs s₁
  have hout : ReleaseKept s s₁ := releaseKept_modParcel s p rfl
  clear_value s₁
  refine hout.trans (releaseKept_foldl ?_ _ s₁)
  intro s' x
  exact releaseKept_completeOp s' p x.op q x.tag 3

theorem releaseKept_modPort (s : State) (q : Nat) (f : Port → Port) : ReleaseKept s (modPort s q f) :=
  releaseKept_of_parcels rfl rfl (.of_parcels rfl)

theorem releaseKept_sensorEvent (s : State) (id : Nat) (value : Int) : ReleaseKept s (sensorEvent s id value) := by
  unfold sensorEvent
  split
  · exact releaseKept_of_parcels rfl rfl (.of_parcels rfl)
  · exact .refl s

theorem releaseKept_setPortMode (s : State) (q : Nat) (m : PortMode) (sub : Nat) : ReleaseKept s (setPortMode s q m sub) := by
  unfold setPortMode
  extract_lets P s₁ n s₂
  have h₁ : ReleaseKept s s₁ := by
    show ReleaseKept s (if P.mode = m then s else sensorEvent s (64 + q) m.code)
    split
    · exact .refl s
    · exact releaseKept_sensorEvent _ _ _
  split
  · exact h₁
  · split
    · exact ((h₁.trans (releaseKept_modPort s₁ q _)).trans (releaseKept_logEvent s₂ _ _ _ _ _ _)).trans (releaseKept_loseOps _ q)
    · exact h₁.trans (releaseKept_modPort s₁ q _)

theorem lamp_modLamp_self (s : State) (m : Nat) (f : Lamp → Lamp) : lamp (modLamp s m f) m = f (lamp s m) :=
  Tab.get_set_self _ _ _ _

theorem lamp_modLamp_ne (s : State) {m i : Nat} (f : Lamp → Lamp) (h : i ≠ m) : lamp (modLamp s m f) i = lamp s i :=
  Tab.get_set_ne _ _ _ h

/-- Lighting a lamp keeps everything else that release keeps. -/
theorem releaseKept_modLamp (s : State) (m : Nat) {f : Lamp → Lamp}
    (hkept : (f (lamp s m)).present = (lamp s m).present ∧ (f (lamp s m)).control = (lamp s m).control)
    (hlit : (f (lamp s m)).mode = .lit) : ReleaseKept s (modLamp s m f) where
  stack := rfl
  tiles := rfl
  mer := rfl
  clocks := rfl
  boot := rfl
  lamps i := by
    by_cases hi : i = m
    · rw [hi, lamp_modLamp_self]; exact hkept
    · rw [lamp_modLamp_ne _ _ hi]; exact ⟨rfl, rfl⟩
  lit i h := by
    by_cases hi : i = m
    · rw [hi, lamp_modLamp_self]; exact hlit
    · rw [lamp_modLamp_ne _ _ hi]; exact h
  ctl := .of_parcels rfl

theorem lightLamp_effect (s : State) (m : Nat) : ReleaseKept s (lightLamp s m) ∧ (lamp (lightLamp s m) m).mode = .lit := by
  have hports : ReleaseKept (modLamp s m fun L => { L with mode := .lit, enabled := true, feedFibre := 0 }) (lightLamp s m) :=
    releaseKept_foldl (fun s _ => releaseKept_setPortMode s _ _ _) _ _
  exact ⟨(releaseKept_modLamp s m ⟨rfl, rfl⟩ rfl).trans hports, hports.lit m (by rw [lamp_modLamp_self])⟩

/-- Release lights a lamp that is present and enabled. -/
def lampLitIfEnabled (s : State) (m : Nat) : State :=
  if (lamp s m).present && (lamp s m).control = 1 then lightLamp s m else s

theorem releaseKept_lampLitIfEnabled (s : State) (m : Nat) : ReleaseKept s (lampLitIfEnabled s m) := by
  unfold lampLitIfEnabled
  split
  · exact (lightLamp_effect s m).1
  · exact .refl s

/-- Every lamp that is present and enabled is lit at the end. -/
theorem lamps_lit (s : State) {m : Nat} (hm : m < 4) (hpresent : (lamp s m).present = true) (hcontrol : (lamp s m).control = 1) :
    (lamp ((List.range 4).foldl lampLitIfEnabled s) m).mode = .lit := by
  refine foldl_reaches (P := fun s => (lamp s m).present = true → (lamp s m).control = 1 → (lamp s m).mode = .lit)
    (fun s i h hp hc => ?_) (x := m) (fun s hp hc => ?_) (List.mem_range.2 hm) s ?_ ?_
  · have hkept := releaseKept_lampLitIfEnabled s i
    obtain ⟨hpresent, hcontrol⟩ := hkept.lamps m
    exact hkept.lit m (h (hpresent ▸ hp) (hcontrol ▸ hc))
  · have hkept := releaseKept_lampLitIfEnabled s m
    obtain ⟨hpresent, hcontrol⟩ := hkept.lamps m
    rw [lampLitIfEnabled, if_pos (by simp [← hpresent, ← hcontrol, hp, hc])]
    exact (lightLamp_effect s m).2
  · have hkept := releaseKept_foldl releaseKept_lampLitIfEnabled (List.range 4) s
    obtain ⟨hp, -⟩ := hkept.lamps m
    rw [hp, hpresent]
  · have hkept := releaseKept_foldl releaseKept_lampLitIfEnabled (List.range 4) s
    obtain ⟨-, hc⟩ := hkept.lamps m
    rw [hc, hcontrol]

theorem releaseKept_issueCert (s : State) (p : Nat) (body : BitVec 1024) : ReleaseKept s (issueCert s p body true) :=
  releaseKept_of_parcels rfl rfl (ctlKept_modParcel _ p _ rfl)

theorem judged_ne (m : RefMode) : (if m = .unjudged then .alive else m) ≠ RefMode.unjudged := by
  cases m <;> decide

theorem bootRelease_releases (s : State) (ms : Nat) (h : MayRelease s) :
    exec (.bootRelease ms) s = .next (release s ms) := by
  obtain ⟨h48, h33, hconv, hreset, hresult, hstage, htrain⟩ := h
  have hnone : (s.channels.any fun x => x.2.training) = false := List.any_eq_false.2 fun x hx => by simp [htrain x hx]
  show execBootRelease ms s = _
  unfold execBootRelease
  dsimp only
  rw [hnone]
  exact if_neg (by simp [h48, h33, hconv, hreset, hresult, hstage])

theorem bootRelease_holds (s : State) (ms : Nat) (h : MayRelease s) :
    ∃ s', exec (.bootRelease ms) s = .next s' ∧ s'.mer = { s.mer with started := true } ∧ s'.cart.stage = 7 ∧
      s'.cart.result = 1 ∧ s'.cart.keysAlive = true ∧ s'.cart.aliasEpoch = s.cart.aliasEpoch ∧
      s'.clocks.releaseMs = min ms 0xFFFF ∧ s'.clocks.refA ≠ .unjudged ∧ s'.clocks.refB ≠ .unjudged ∧
      (∀ m, m < 4 → (lamp s m).present = true → (lamp s m).control = 1 → (lamp s' m).mode = .lit) ∧
      s'.stack = s.stack ∧ s'.tiles = s.tiles ∧ ∀ p, (s'.parcel p).ctl = (s.parcel p).ctl := by
  refine ⟨release s ms, bootRelease_releases s ms h, ?_⟩
  unfold release
  extract_lets judged a b ref M C K s₁ s₂ s₃ s₄ s₅
  have h₂ : ReleaseKept s₁ s₂ := releaseKept_foldl releaseKept_lampLitIfEnabled _ s₁
  have hlamps : ∀ m, m < 4 → (lamp s m).present = true → (lamp s m).control = 1 → (lamp s₂ m).mode = .lit :=
    fun m hm hpresent hcontrol => lamps_lit s₁ hm hpresent hcontrol
  have h₃ : ReleaseKept s₂ s₃ := by
    show ReleaseKept s₂ (match s₂.supply.tripRecord with | some (i, raw) => _ | none => s₂)
    split
    · exact releaseKept_logEvent _ _ _ _ _ _ _
    · exact .refl s₂
  have h₄ : ReleaseKept s₃ s₄ := by
    show ReleaseKept s₃ (if s₃.supply.cartoucheRecord then _ else s₃)
    split
    · exact releaseKept_logEvent _ _ _ _ _ _ _
    · exact .refl s₃
  have h₅ : ReleaseKept s₄ s₅ := 
    releaseKept_foldl (fun s (x : Nat × BitVec 1024) => releaseKept_issueCert s x.1 _) _ s₄
  have hlater := (h₃.trans h₄).trans h₅
  clear_value s₅ s₄ s₃ s₂
  have hall := h₂.trans hlater
  have hboot := hall.boot
  simp only [Prod.mk.injEq] at hboot
  obtain ⟨hstage, hresult, hkeys, hepoch⟩ := hboot
  have hclocks := hall.clocks
  refine ⟨hall.mer, hstage, hresult, hkeys, hepoch, ?_, ?_, ?_, ?_, hall.stack, hall.tiles, hall.ctl⟩
  · exact congrArg Clocks.releaseMs hclocks
  · rw [show s₅.clocks = s₁.clocks from hclocks]; exact judged_ne _
  · rw [show s₅.clocks = s₁.clocks from hclocks]; exact judged_ne _
  · exact fun m hm hpresent hcontrol => hlater.lit m (hlamps m hm hpresent hcontrol)

/-- Settles O43: that the stages up to 5 are one step, and when boot may begin, are the model's choices (log entry 59). -/
theorem bootReleasesOrQuarantines : Obligations.BootReleasesOrQuarantines :=
  ⟨boot_trains, boot_quarantines, boot_waits, bootRelease_holds⟩

end Sys2Proof.Proofs.Boot
end

section
/-! PROOFS. The family of 08_pereo_stacks.md: the requests of remote modules, served at the target (R191, R256, R259, R377,
R380 to R382). -/

namespace Sys2Proof.Proofs.RemoteRequests

open Sys2Proof Sys2Proof.Machine Sys2Proof.Claims Sys2Proof.Proofs.ArrayTiles Sys2Proof.Proofs.Engines
open Sys2Proof.Proofs.PereoStacks Sys2Proof.Proofs.SegmentTurns Sys2Proof.Proofs.Controllers

/-! ### Ports -/

theorem port_congr {s s' : State} (h : s'.ports = s.ports) (i : Nat) : port s' i = port s i := by
  simp only [port, h]

theorem port_modPort_self (s : State) (q : Nat) (f : Port → Port) : port (modPort s q f) q = f (port s q) :=
  Tab.get_set_self _ _ _ _

theorem port_modPort_ne (s : State) {q i : Nat} (f : Port → Port) (h : i ≠ q) : port (modPort s q f) i = port s i :=
  Tab.get_set_ne _ _ _ h

/-- The flits of a port that wait or are not yet acknowledged. -/
def flitsHeld (P : Port) : List TxFlit := P.unacked ++ P.txWait

theorem flitsOut_eq (s : State) (q : Nat) : flitsOut s q = (flitsHeld (port s q)).length := by
  rw [flitsOut, flitsHeld, List.length_append, Nat.add_comm]

/-- From `s` to `s'` port `q` has sent what could go: nothing has changed but it and what has been sent, it holds as many
flits, each with its kind and body, and the records that it has handed up. -/
structure PortSends (s s' : State) (q : Nat) : Prop where
  within : s' = { s with ports := s'.ports, sent := s'.sent }
  others : OtherPortsKept s s' q
  rxOps : (port s' q).rxOps = (port s q).rxOps
  flits : (flitsHeld (port s' q)).map (fun f => (f.kind, f.body)) = (flitsHeld (port s q)).map fun f => (f.kind, f.body)

theorem PortSends.refl (s : State) (q : Nat) : PortSends s s q := ⟨rfl, fun _ _ => rfl, rfl, rfl⟩

theorem PortSends.trans {s s' s'' : State} {q : Nat} (h : PortSends s s' q) (h' : PortSends s' s'' q) : PortSends s s'' q where
  within := by rw [h'.within, h.within]
  others i hi := (h'.others i hi).trans (h.others i hi)
  rxOps := h'.rxOps.trans h.rxOps
  flits := h'.flits.trans h.flits

theorem portSends_modPort (s : State) (q : Nat) {f : Port → Port} (hrx : (f (port s q)).rxOps = (port s q).rxOps)
    (hflits : (flitsHeld (f (port s q))).map (fun f => (f.kind, f.body)) =
      (flitsHeld (port s q)).map fun f => (f.kind, f.body)) : PortSends s (modPort s q f) q where
  within := rfl
  others _ hi := port_modPort_ne s f hi
  rxOps := by rw [port_modPort_self]; exact hrx
  flits := by rw [port_modPort_self]; exact hflits

theorem portSends_sendFlit (s : State) (q kind seq tag gmask : Nat) (body : List Byte) :
    PortSends s (sendFlit s q kind seq tag gmask body) q :=
  (portSends_modPort s q (f := fun P => { P with freed := P.freed - 1023, parked := false }) rfl rfl).trans
    ⟨rfl, fun _ _ => rfl, rfl, rfl⟩

theorem portSends_pump (q n : Nat) (s : State) : PortSends s (pump s q n) q := by
  induction n generalizing s with
  | zero => exact .refl s q
  | succ n ih =>
    unfold pump
    dsimp only
    split
    next => exact .refl s q
    next f rest hwait =>
      split
      · exact .refl s q
      · split
        · exact portSends_sendFlit _ _ _ _ _ _ _
        · split
          · exact .refl s q
          · refine (PortSends.trans (portSends_modPort s q rfl ?_) (portSends_sendFlit _ _ _ _ _ _ _)).trans (ih _)
            simp only [flitsHeld, hwait, List.map_append, List.map_cons, List.append_assoc, List.cons_append,
              List.nil_append]

/-! ### Responses (R380) -/

theorem length_chunks {α : Type} (n : Nat) (l : List α) (h : l.length ≤ n) :
    (Machine.chunks 256 n l).length = (l.length + 255) / 256 := by
  induction n generalizing l with
  | zero =>
    rw [List.length_eq_zero_iff.1 (Nat.le_zero.1 h)]
    exact (Nat.div_eq_of_lt (by simp)).symm
  | succ n ih =>
    cases l with
    | nil => exact (Nat.div_eq_of_lt (by simp)).symm
    | cons x xs =>
      have hdrop : ((x :: xs).drop 256).length = xs.length + 1 - 256 := by rw [List.length_drop, List.length_cons]
      rw [List.length_cons] at h
      rw [Machine.chunks, List.length_cons, ih _ (by omega), hdrop, List.length_cons]
      omega

theorem length_dataFlits (tag : Nat) (data : List Byte) : (dataFlits tag data).length = flitsFor data.length := by
  rw [dataFlits, List.length_map, length_chunks _ _ le_rfl, flitsFor]

/-- What answering a request leaves. -/
theorem sendResponse_effect (s : State) (q tag status operand : Nat) (data : List Byte) :
    let s' := sendResponse s q tag status operand data
    s' = { s with ports := s'.ports, sent := s'.sent } ∧ OtherPortsKept s s' q ∧ (port s' q).rxOps = (port s q).rxOps ∧
      flitsOut s' q = flitsOut s q + 1 + flitsFor data.length ∧
      ∃ f, f ∈ (port s' q).unacked ++ (port s' q).txWait ∧ f.kind = 2 ∧
        f.body = bytesOfNat (responseRecord tag status operand).toNat 32 := by
  intro s'
  let fs := controlFlit (responseRecord tag status operand) :: dataFlits tag data
  let w := modPort s q fun P => { P with txWait := P.txWait ++ fs }
  have hsends : PortSends w s' q := portSends_pump q _ w
  have hheld : flitsHeld (port w q) = flitsHeld (port s q) ++ fs := by
    rw [show port w q = _ from port_modPort_self s q _]
    exact (List.append_assoc _ _ _).symm
  have hflits := hsends.flits
  rw [hheld] at hflits
  refine ⟨hsends.within.trans rfl, fun i hi => (hsends.others i hi).trans (port_modPort_ne s _ hi), ?_, ?_, ?_⟩
  · rw [hsends.rxOps, show port w q = _ from port_modPort_self s q _]
  · have hlen := congrArg List.length hflits
    rw [List.length_map, List.length_map, List.length_append, List.length_cons, length_dataFlits] at hlen
    rw [flitsOut_eq, flitsOut_eq, hlen]
    omega
  · have hmem : (2, bytesOfNat (responseRecord tag status operand).toNat 32) ∈
        (flitsHeld (port s' q)).map fun f => (f.kind, f.body) := by
      rw [hflits]
      exact List.mem_map.2 ⟨controlFlit (responseRecord tag status operand),
        List.mem_append_right _ List.mem_cons_self, rfl⟩
    obtain ⟨f, hf, heq⟩ := List.mem_map.1 hmem
    obtain ⟨hkind, hbody⟩ := Prod.mk.inj heq
    exact ⟨f, hf, hkind, hbody⟩

theorem flitsFor_zero : flitsFor 0 = 0 := Nat.div_eq_of_lt (by decide)

/-- Taking the oldest request of a kind leaves all but the records of the port. -/
theorem takeRx_only {s s₁ : State} {q code : Nat} {x : RxOp} (h : takeRx s q code = some (x, s₁)) :
    ∃ rest, s₁ = modPort s q fun P => { P with rxOps := rest } := by
  unfold takeRx at h
  split at h
  next => cases h
  next y rest _ => exact ⟨rest, (Prod.mk.inj (Option.some.inj h)).2.symm⟩

/-- A request that was taken in `s₁` is answered once a state with the ports of `s₁` sends its response. -/
theorem responded {s s₁ : State} {q code : Nat} {x : RxOp} (w : State) (h : takeRx s q code = some (x, s₁)) (hw : w.ports = s₁.ports)
    (status operand : Nat) (data : List Byte) :
    Responded s s₁ (sendResponse w q (opTag x.record.toNat) status operand data) q x status operand (flitsFor data.length) := by
  obtain ⟨rest, hs₁⟩ := takeRx_only h
  obtain ⟨-, hothers, hrx, hflits, hanswer⟩ := sendResponse_effect w q (opTag x.record.toNat) status operand data
  have hport : port s₁ q = { port s q with rxOps := rest } := by rw [hs₁]; exact port_modPort_self s q _
  refine ⟨by rw [hrx, port_congr hw], ?_, fun i hi => ?_, hanswer⟩
  · rw [hflits, flitsOut, flitsOut, port_congr hw, hport]
  · rw [hothers i hi, port_congr hw, hs₁]
    exact port_modPort_ne s _ hi

/-- The same of a response that no data follows. -/
theorem responded_bare {s s₁ : State} {q code : Nat} {x : RxOp} (w : State) (h : takeRx s q code = some (x, s₁))
    (hw : w.ports = s₁.ports) (status operand : Nat) :
    Responded s s₁ (sendResponse w q (opTag x.record.toNat) status operand []) q x status operand 0 := by
  have hdata := responded w h hw status operand []
  rwa [List.length_nil, flitsFor_zero] at hdata

theorem sendResponse_stack (s : State) (q tag status operand : Nat) (data : List Byte) :
    (sendResponse s q tag status operand data).stack = s.stack := by
  obtain ⟨h, -⟩ := sendResponse_effect s q tag status operand data
  exact (congrArg State.stack h).trans rfl

theorem sendResponse_parcel (s : State) (q tag status operand : Nat) (data : List Byte) (p : Nat) :
    (sendResponse s q tag status operand data).parcel p = s.parcel p := by
  obtain ⟨h, -⟩ := sendResponse_effect s q tag status operand data
  exact parcel_congr ((congrArg State.parcels h).trans rfl) p

/-! ### What the turns of a controller leave of the ports (R191) -/

theorem readTurn_ports (s : State) (c o n : Nat) (volatile : Bool) : (readTurn s c o n volatile).1.ports = s.ports := by
  have hbank : ∀ s : State, (placeLine (countCorrected s c (granulesOf c o n)) c (segOf o)).ports = s.ports :=
    fun s => s.bucketEvents_ports _ _ _ _
  unfold readTurn
  extract_lets g gs inLine fromBank
  have hfrom : ∀ s, (fromBank s).1.ports = s.ports := fun s => by
    show (match gs.find? fun x => granuleErr s x = 2 with
      | some x => (s, .error (x * 64 - stackKey c 0))
      | none => (placeLine (countCorrected s c gs) c g, .ok (bankRead s c o n)) : State × Except Nat (List Byte)).1.ports = s.ports
    split
    · rfl
    · exact hbank s
  split
  · split
    · exact hfrom s
    · split
      · exact (hfrom _).trans (State.bucketEvent_ports _ _ _ _)
      · exact State.bucketEvents_ports _ _ _ _ _
  · exact hfrom s

theorem copyFault_ports (s : State) (t e ch cyc : Nat) (cause : Cause) : (copyFault s t e ch cyc cause).ports = s.ports :=
  State.engineFault_ports _ _ _ _ _ _ _

theorem copyUncorr_ports (s : State) (c t e ch cyc o reader : Nat) :
    (copyUncorr s c t e ch cyc o reader).ports = s.ports :=
  (copyFault_ports _ _ _ _ _ _).trans (State.logCycle_ports _ _ _ _ _ _ _ _)

theorem countLanes_ports (s : State) (c g : Nat) (errs : List (Nat × Nat)) (gs : List Nat) :
    (countLanes s c g errs gs).ports = s.ports :=
  (congrArg State.ports (lanesOnly_countLanes s c g errs gs).within).trans rfl

theorem countBridge_ports (s : State) (p : Option Nat) (a b n : Nat) : (countBridge s p a b n).ports = s.ports := by
  obtain ⟨q, h⟩ := countBridge_only s p a b n
  rw [h]

theorem loadTurn_ports (s : State) (c t e ch cyc p : Nat) (r : Run) (errs : List (Nat × Nat)) :
    (loadTurn s c t e ch cyc p r errs).ports = s.ports := by
  have hturn := readTurn_ports s c (r.offset + r.pos) (turnBytes (r.offset + r.pos) (r.len - r.pos)) r.volatile
  unfold loadTurn
  dsimp only
  split
  · exact (copyUncorr_ports _ _ _ _ _ _ _ _).trans hturn
  · exact (copyUncorr_ports _ _ _ _ _ _ _ _).trans hturn
  · rw [advanceRun, State.modCopyChan_ports, countBridge_ports, State.count_ports, State.fly_ports, countLanes_ports]
    exact hturn

theorem storeTurn_ports (s : State) (c t e ch cyc p : Nat) (r : Run) (errs : List (Nat × Nat)) :
    (storeTurn s c t e ch cyc p r errs).ports = s.ports := by
  unfold storeTurn
  dsimp only
  split
  · exact (copyFault_ports _ _ _ _ _ _).trans (State.logCycle_ports _ _ _ _ _ _ _ _)
  · split
    · exact (copyUncorr_ports _ _ _ _ _ _ _ _).trans (State.readScratch_ports _ _ _ _ _)
    · rw [advanceRun, State.modCopyChan_ports, countBridge_ports, State.count_ports, countLanes_ports]
      exact State.readScratch_ports _ _ _ _ _

theorem copyTurn_ports (s : State) (c cyc : Nat) (errs : List (Nat × Nat)) : (copyTurn s c cyc errs).ports = s.ports := by
  unfold copyTurn
  split
  · dsimp only
    split
    · exact loadTurn_ports _ _ _ _ _ _ _ _ _
    · exact storeTurn_ports _ _ _ _ _ _ _ _ _
  · rfl

theorem turnsBefore_ports (c cyc n : Nat) (s : State) : (turnsBefore c cyc n s).ports = s.ports := by
  induction n generalizing s with
  | zero => rfl
  | succ n ih =>
    unfold turnsBefore
    dsimp only
    split
    · split
      · rw [ih, copyTurn_ports]
      · rfl
    · rfl

theorem stewardTurn_ports (s : State) (p c : Nat) (write : Bool) : (stewardTurn s p c write).ports = s.ports :=
  turnsBefore_ports _ _ _ _

theorem atStewardTurn_ports (s : State) (c : Nat) : (atStewardTurn s c).ports = s.ports := by
  unfold atStewardTurn
  split
  · exact stewardTurn_ports _ _ _ _
  · rfl

theorem storeTurns_ports (p : Nat) (bytes : List Byte) (s : State) (xs : List Piece) :
    (storeTurns (stewardGrant p true) p bytes s xs).ports = s.ports := by
  refine foldl_keeps _ State.ports (fun s x => ?_) xs s
  rw [State.count_ports]
  exact stewardTurn_ports s p x.channel true

theorem fetchTurns_ports (p : Nat) (volatile : Bool) (xs : List Piece) (got : List Byte) (s : State) :
    (fetchTurns (stewardGrant p false) p volatile xs got s).1.ports = s.ports := by
  induction xs generalizing got s with
  | nil => rfl
  | cons x xs ih =>
    have hturn := (readTurn_ports (stewardGrant p false x.channel s) x.channel x.offset x.len volatile).trans
      (stewardTurn_ports s p x.channel false)
    unfold fetchTurns
    split
    next heq => rw [heq] at hturn; exact hturn
    next heq => rw [heq] at hturn; rw [ih, State.count_ports]; exact hturn

theorem stewardWrite_ports {s s' : State} {p sub a : Nat} {bytes : List Byte} (h : stewardWrite s p sub a bytes = (s', none)) :
    s'.ports = s.ports := by
  unfold stewardWrite at h
  split at h
  next => cases h
  next xs hxs =>
    split at h
    · cases h
    · rw [← (Prod.mk.inj h).1]
      exact storeTurns_ports p bytes s xs

theorem stewardRead_ports {s s' : State} {p sub a n : Nat} {volatile : Bool} {data : List Byte}
    (h : stewardRead s p sub a n volatile = (s', .ok data)) : s'.ports = s.ports := by
  unfold stewardRead at h
  split at h
  next => cases h
  next xs hxs =>
    have hfetch := fetchTurns_ports p volatile xs [] s
    split at h
    next heq =>
      rw [heq] at hfetch
      rw [← (Prod.mk.inj h).1]
      exact hfetch
    next => cases h

theorem countPortBridge_stack (s : State) (p q a n : Nat) : (countPortBridge s p q a n).stack = s.stack :=
  State.count_stack _ _ _ _

theorem countPortBridge_ports (s : State) (p q a n : Nat) : (countPortBridge s p q a n).ports = s.ports :=
  State.count_ports _ _ _ _

/-- The state once an operation's granules, and those of them that cross the bridge, are counted. -/
def portCounted (s : State) (p k m q a n : Nat) : State := countPortBridge (s.count (some p) k m) p q a n

theorem portCounted_stack (s : State) (p k m q a n : Nat) : (portCounted s p k m q a n).stack = s.stack := by
  rw [portCounted, countPortBridge_stack, State.count_stack]

theorem portCounted_ports (s : State) (p k m q a n : Nat) : (portCounted s p k m q a n).ports = s.ports := by
  rw [portCounted, countPortBridge_ports, State.count_ports]

/-! ### Serving (R377) -/

/-- A request that is served has its operation's effect. -/
theorem serve_effect {s s₁ : State} {q code p : Nat} {n : Nat → Nat} {x : RxOp} (effect : Nat → RxOp → State → State)
    (h : Serves s q code n p x s₁) : serve s code n q effect = effect p x s₁ := by
  obtain ⟨htake, hok, hparcel, hrefusal, hcut⟩ := h
  have hnone : (if n x.record.toNat = 0 then none else rangeCut s₁ p (opRemote x.record.toNat) (n x.record.toNat)) = none := by
    split
    next => rfl
    next hn => exact hcut hn
  unfold serve
  rw [htake]
  dsimp only
  rw [if_neg (by simp [hok]), hparcel]
  dsimp only
  rw [hrefusal]
  dsimp only
  rw [hnone]

theorem rput_holds (s s1 s2 : State) (q : PortId) (p : Nat) (x : RxOp) (h : Serves s q 0 opLen p x s1)
    (hwrite : stewardWrite s1 p 6 (opRemote x.record.toNat) x.data = (s2, none)) :
    ∃ s', exec (.rput q) s = .next s' ∧ s'.stack = s2.stack ∧ Responded s s1 s' q x 0 0 0 := by
  let w := portCounted s2 p 0x16 (granules (opLen x.record.toNat)) q (opRemote x.record.toNat) (opLen x.record.toNat)
  have hexec : exec (.rput q) s = .next (sendResponse w q (opTag x.record.toNat) 0 0 []) := by
    show execRput q s = _
    unfold execRput
    rw [serve_effect _ h]
    dsimp only
    rw [hwrite]
    rfl
  exact ⟨_, hexec, (sendResponse_stack _ _ _ _ _ _).trans (portCounted_stack _ _ _ _ _ _ _),
    responded_bare w h.1 ((portCounted_ports _ _ _ _ _ _ _).trans (stewardWrite_ports hwrite)) 0 0⟩

theorem rget_holds (s s1 s2 : State) (q : PortId) (p : Nat) (x : RxOp) (data : List Byte) (h : Serves s q 1 opLen p x s1)
    (hread : stewardRead (s1.count (some p) 0x16 1) p 6 (opRemote x.record.toNat) (opLen x.record.toNat) true = (s2, .ok data)) :
    ∃ s', exec (.rget q) s = .next s' ∧ s'.stack = s2.stack ∧ Responded s s1 s' q x 0 0 (flitsFor data.length) := by
  let w := portCounted s2 p 0x15 (granules (opLen x.record.toNat)) q (opRemote x.record.toNat) (opLen x.record.toNat)
  have hexec : exec (.rget q) s = .next (sendResponse w q (opTag x.record.toNat) 0 0 data) := by
    show execRget q s = _
    unfold execRget
    rw [serve_effect _ h]
    dsimp only
    rw [hread]
    rfl
  have hports : s2.ports = s1.ports := (stewardRead_ports hread).trans (s1.count_ports _ _ _)
  exact ⟨_, hexec, (sendResponse_stack _ _ _ _ _ _).trans (portCounted_stack _ _ _ _ _ _ _),
    responded w h.1 ((portCounted_ports _ _ _ _ _ _ _).trans hports) 0 0 data⟩

theorem stackPlace_count (s : State) (q : Option Nat) (k n p a : Nat) : (s.count q k n).stackPlace p a = s.stackPlace p a := by
  obtain ⟨ps, hcount⟩ := s.count_only q k n
  have hctl : CtlKept s (s.count q k n) := ctlKept_count s q k n
  have hfailed : ∀ c, (s.count q k n).channelFailed c = s.channelFailed c := fun c => by rw [hcount]; rfl
  simp only [State.stackPlace, State.globalChannel, State.sectorsOf, hctl p, hfailed]

theorem remote_count (s : State) (q : Option Nat) (k n p : Nat) : ((s.count q k n).parcel p).remote = (s.parcel p).remote := by
  unfold State.count
  split
  · rfl
  · split
    · rfl
    · rename_i r _
      by_cases hp : p = r
      · rw [hp, State.parcel_modParcel_self]
      · rw [State.parcel_modParcel_ne _ _ hp]

/-- An RATOMIC whose atomic operation answers is answered with what it answers. -/
theorem ratomic_answers {s s1 s₂ : State} {q : PortId} {p c o old : Nat} {x : RxOp} (h : Serves s q 2 opSize p x s1)
    (hplace : s1.stackPlace p (opRemote x.record.toNat) = some (c, o))
    (hat : atomicAt (s1.count (some p) 0x16 1) c o 6 (fld x.record.toNat 6 4) (opSize x.record.toNat)
      (opOperand x.record.toNat) (opCompare x.record.toNat) = (some old, s₂)) :
    exec (.ratomic q) s = .next (sendResponse (countPortBridge s₂ p q (opRemote x.record.toNat) 64) q
      (opTag x.record.toNat) 0 old []) := by
  show execRatomic q s = _
  unfold execRatomic
  rw [serve_effect _ h]
  dsimp only
  rw [stackPlace_count, hplace]
  dsimp only
  rw [hat]

theorem ratomic_holds (s s1 b : State) (q : PortId) (p c o : Nat) (x : RxOp) (h : Serves s q 2 opSize p x s1)
    (hplace : s1.stackPlace p (opRemote x.record.toNat) = some (c, o))
    (hsize : atomicSizeOk (fld x.record.toNat 6 4) (opSize x.record.toNat) = true) (halign : o % opSize x.record.toNat = 0)
    (hb : b = atStewardTurn (s1.count (some p) 0x16 1) c) (hgood : granuleErr b (stackKey c o / 64) ≠ 2) :
    let n := opSize x.record.toNat
    let old := natOfBytes (bankRead b c o n)
    ∃ s', exec (.ratomic q) s = .next s' ∧
      bankRead s' c o n = bytesOfNat (atomicNew (fld x.record.toNat 6 4) n old
        (opOperand x.record.toNat % 2 ^ (8 * n)) (opCompare x.record.toNat % 2 ^ (8 * n))) n ∧
      (∀ a, a < stackKey c o ∨ stackKey c o + n ≤ a → Mem.read s'.stack a = Mem.read b.stack a) ∧
      Responded s s1 s' q x 0 old 0 := by
  intro n old
  obtain ⟨s₂, hat, hwithin, hread, hothers⟩ :=
    atomicAt_effect 6 (opOperand x.record.toNat) (opCompare x.record.toNat) hsize halign hb hgood
  have hexec := ratomic_answers h hplace hat
  obtain ⟨w, hw⟩ : ∃ w, w = countPortBridge s₂ p q (opRemote x.record.toNat) 64 := ⟨_, rfl⟩
  rw [← hw] at hexec
  have hstack : (sendResponse w q (opTag x.record.toNat) 0 old []).stack = s₂.stack := by
    rw [sendResponse_stack, hw, countPortBridge_stack]
  have hports : w.ports = s1.ports := by
    rw [hw, countPortBridge_ports, (congrArg State.ports hwithin).trans rfl, hb, atStewardTurn_ports, State.count_ports]
  refine ⟨_, hexec, ?_, fun a ha => ?_, responded_bare w h.1 hports 0 old⟩
  · rw [bankRead, hstack]
    exact hread
  · rw [hstack]
    exact hothers a ha

/-- The counter that RSIGNAL `x` names has taken its increment. -/
def signalled (x : RxOp) (R : Remote) : Remote :=
  { R with
    counters := Tab.modify RemoteCounter.zero R.counters (fld x.record.toNat 40 6) fun c =>
      { c with arrived := c.arrived + fld x.record.toNat 112 16 } }

theorem rsignal_holds (s s1 : State) (q : PortId) (p : Nat) (x : RxOp) (h : Serves s q 3 (fun _ => 0) p x s1) :
    ∃ s', exec (.rsignal q) s = .next s' ∧ s'.stack = s.stack ∧
      (Tab.get RemoteCounter.zero (s'.parcel p).remote.counters (fld x.record.toNat 40 6)).arrived =
        (Tab.get RemoteCounter.zero (s.parcel p).remote.counters (fld x.record.toNat 40 6)).arrived +
          fld x.record.toNat 112 16 ∧
      Responded s s1 s' q x 0 0 0 := by
  let w := (modRemote s1 p (signalled x)).count (some p) 0x16 1
  have hexec : exec (.rsignal q) s = .next (sendResponse w q (opTag x.record.toNat) 0 0 []) := by
    show execRsignal q s = _
    unfold execRsignal
    rw [serve_effect _ h]
    rfl
  obtain ⟨rest, hs1⟩ := takeRx_only h.1
  have hstack : s1.stack = s.stack := by rw [hs1]; rfl
  have hparcel : s1.parcel p = s.parcel p := by rw [hs1]; rfl
  have hports : w.ports = s1.ports := State.count_ports _ _ _ _
  refine ⟨_, hexec, ?_, ?_, responded_bare w h.1 hports 0 0⟩
  · rw [sendResponse_stack, State.count_stack]
    exact hstack
  · rw [sendResponse_parcel, remote_count, modRemote, State.parcel_modParcel_self, hparcel, signalled,
      Tab.get_modify_self]

theorem rput_refused (s s1 : State) (q : PortId) (p sub : Nat) (x : RxOp) (htake : takeRx s q 0 = some (x, s1))
    (hok : recordOk x.record.toNat = true) (hparcel : portParcel (port s1 q) = some p)
    (hrefusal : Machine.refusal s1 p q (opRemote x.record.toNat) (opLen x.record.toNat) = some sub) :
    ∃ s', exec (.rput q) s = .next s' ∧ s'.stack = s.stack ∧ Responded s s1 s' q x 1 0 0 := by
  have hexec : exec (.rput q) s = .next (refuseOp s1 (some p) q x.record.toNat sub 1) := by
    show execRput q s = _
    unfold execRput serve
    rw [htake]
    dsimp only
    rw [if_neg (by simp [hok]), hparcel]
    dsimp only
    rw [hrefusal]
  obtain ⟨rest, hs1⟩ := takeRx_only htake
  have hstack : s1.stack = s.stack := by rw [hs1]; rfl
  exact ⟨_, hexec, (sendResponse_stack _ _ _ _ _ _).trans ((State.logEvent_stack _ _ _ _ _ _ _).trans hstack),
    responded_bare _ htake (State.logEvent_ports _ _ _ _ _ _ _) 1 0⟩

/-- Settles O51: that the copy channels before the steward have their turns inside the step is the model's choice (log entry
29), and so are the order and the statuses of a request's checks (log entry 56), but for REFUSED, which is R377's. -/
theorem remoteRequestsAreServed : Obligations.RemoteRequestsAreServed :=
  ⟨rput_holds, rget_holds, ratomic_holds, rsignal_holds, rput_refused⟩

end Sys2Proof.Proofs.RemoteRequests
end

section
/-! PROOFS. The family of 09_celulo.md: how a Celulo instruction issues, retires and stops, and what that leaves (R216, R227 to
R229, R231, R237, R242 to R244, R250). -/

namespace Sys2Proof.Proofs.CeluloIssue

open Sys2Proof Sys2Proof.Machine Sys2Proof.Claims Sys2Proof.Proofs.ArrayTiles Sys2Proof.Proofs.Engines
open Sys2Proof.Proofs.PereoStacks Sys2Proof.Proofs.SegmentTurns Sys2Proof.Proofs.CeluloPort

/-! ### Issue (R216, R227, R229) -/

/-- What an instruction waits for does not depend on the state beside its unit. -/
theorem readsOf_withState (op : Nat) (c : CCtx) (s : State) : readsOf op { c with s := s } = readsOf op c := by
  unfold readsOf
  split <;> rfl

/-- What becomes of an instruction whose body gives `x`. -/
def answered (c : CCtx) (x : Except CStop State) : State :=
  match x with
  | .ok s' => s'
  | .error e => celuloStop c e

/-- An instruction that may issue answers with its body's effect or stop. -/
theorem celuloIssue_of_issues {s : State} {u : UnitId} {cyc p op : Nat} {c : CCtx} (h : CIssues s u cyc p op c)
    (body : CCtx → Except CStop State) : celuloIssue s u cyc op (readsOf op) body = answered c (body c) := by
  obtain ⟨rfl, hparcel, hrun, hhalt, hfinishing, hnext, hpc, hgood, hop, hknown, hwaits⟩ := h
  have hready : ¬ ((cissued s u cyc p).U.running.isNone || (cissued s u cyc p).U.halt ≠ .none ||
      ((cissued s u cyc p).U.finishing && op ≠ 0x19) || celuloCycle cyc < (cissued s u cyc p).U.nextIssue) = true := by
    have hrunning := Option.isSome_iff_ne_none.1 hrun
    rcases hfinishing with hf | hf
    · simp [hrunning, hhalt, hf, hnext]
    · simp [hrunning, hhalt, hf, hnext]
  have hmine : ¬ ((cissued s u cyc p).w % 64 ≠ op ||
      celuloWaits (cissued s u cyc p) (readsOf op (cissued s u cyc p)).1 (readsOf op (cissued s u cyc p)).2) = true := by
    simp [hop, hwaits]
  have hcounted : (if Tab.get 0 (cissued s u cyc p).U.instrErr (cissued s u cyc p).pc = 1 then
      { cissued s u cyc p with s := (celuloBegun s p cyc).bucketEvent 2 (u / 64) (some p) }
    else { cissued s u cyc p with s := celuloBegun s p cyc }) = cissued s u cyc p := by
    unfold cissued
    dsimp only
    split <;> rfl
  unfold celuloIssue
  extract_lets ch
  rw [hparcel]
  dsimp only
  rw [if_pos (show ((s.settle p (cyc / 3 * 3)).cunit u).pc.toNat < 2048 from hpc)]
  refine (if_neg hready).trans ((if_neg (Nat.not_le.2 hpc)).trans ((if_neg hgood).trans ((if_neg ?_).trans
    ((if_neg ?_).trans (congrArg (fun c => answered c (body c)) hcounted)))))
  · exact (by simp [hop, hknown] : ¬ (!celuloOp ((cissued s u cyc p).w % 64)) = true)
  · rw [← readsOf_withState op _ (celuloBegun s p cyc)] at hmine
    exact hmine

/-- A row whose instruction may issue answers with its body's effect. -/
theorem exec_of_ok {s s' : State} {u : UnitId} {cyc p op : Nat} {c : CCtx} {row : Instr} {body : CCtx → Except CStop State}
    (h : CIssues s u cyc p op c) (hrow : exec row s = .next (celuloIssue s u cyc op (readsOf op) body))
    (hbody : body c = .ok s') : exec row s = .next s' := by
  rw [hrow, celuloIssue_of_issues h, hbody]; rfl

/-- A row whose instruction may issue answers with its body's stop. -/
theorem exec_of_stop {s : State} {u : UnitId} {cyc p op : Nat} {c : CCtx} {row : Instr} {body : CCtx → Except CStop State}
    {x : CStop} (h : CIssues s u cyc p op c) (hrow : exec row s = .next (celuloIssue s u cyc op (readsOf op) body))
    (hbody : body c = .error x) : exec row s = .next (celuloStop c x) := by
  rw [hrow, celuloIssue_of_issues h, hbody]; rfl

/-- What holds of an instruction that issues in parcel `p`. -/
structure Stands (c : CCtx) (p : Nat) : Prop where
  unit : c.s.cunit c.u = c.U
  owner : c.s.channelParcel (c.u / 64) = some p
  healthy : c.U.halt = .none

section issues

variable {s : State} {u : UnitId} {cyc p op : Nat} {c : CCtx} (h : CIssues s u cyc p op c)
include h

/-- The state at the issue is the begun cycle's, but for the log and the interrupts waiting. -/
theorem begun_of_issues : ∃ l i, c.s = { celuloBegun s p cyc with log := l, irq := i } := by
  obtain ⟨rfl, -⟩ := h
  unfold cissued
  dsimp only
  split
  · exact State.bucketEvent_only _ _ _ _
  · exact ⟨_, _, rfl⟩

theorem unit_of_issues : c.u = u := by obtain ⟨rfl, -⟩ := h; rfl

theorem pc_of_issues : c.pc = c.U.pc.toNat := by obtain ⟨rfl, -⟩ := h; rfl

theorem stack_of_issues : c.s.stack = s.stack := by
  obtain ⟨l, i, hs⟩ := begun_of_issues h
  rw [hs]
  exact settle_stack s p _

theorem stands_of_issues : Stands c p := by
  obtain ⟨l, i, hs⟩ := begun_of_issues h
  obtain ⟨hc, hparcel, -, hhalt, -⟩ := h
  have hu : c.u = u := by rw [hc]; rfl
  refine ⟨?_, ?_, hhalt⟩
  · rw [hs, hu, hc]; rfl
  · rw [hs, hu]
    exact (channelParcel_of_ctlKept (ctlKept_settle s p _) _).trans hparcel

end issues

/-! ### What an instruction leaves of its unit and of everything else -/

/-- A channel's units read the same whatever else of the channel changes. -/
theorem cunit_modChannel (s : State) (ch : Nat) {f : Channel → Channel}
    (hf : (f (s.channel ch)).unitsCleared = (s.channel ch).unitsCleared) (i : Nat) : (s.modChannel ch f).cunit i = s.cunit i := by
  have hdefault : (s.modChannel ch f).unitDefault i = s.unitDefault i := by
    unfold State.unitDefault
    by_cases hi : i / 64 = ch
    · rw [hi, State.channel_modChannel_self, hf]
    · rw [State.channel_modChannel_ne _ _ hi]
  unfold State.cunit
  rw [hdefault]
  rfl

/-- From `s` to `s'` unit `u` has become `U`, and nothing else has changed but its channel's flags and counts. -/
structure UnitSet (s s' : State) (u : Nat) (U : CUnit) : Prop where
  unit : s'.cunit u = U
  others : OtherUnitsKept s s' u
  within : s' = { s with units := s'.units, channels := s'.channels }

theorem unitSet_setUnit (s : State) (u : Nat) (U : CUnit) : UnitSet s (s.setUnit u U) u U :=
  ⟨State.cunit_setUnit_self _ _ _, (oneUnit_setUnit s u U).kept, rfl⟩

/-- Its channel then counts or flags something. -/
theorem UnitSet.modChannel {s s' : State} {u : Nat} {U : CUnit} (h : UnitSet s s' u U) {f : Channel → Channel}
    (hf : (f (s'.channel (u / 64))).unitsCleared = (s'.channel (u / 64)).unitsCleared) :
    UnitSet s (s'.modChannel (u / 64) f) u U where
  unit := (cunit_modChannel s' _ hf u).trans h.unit
  others := ⟨fun i hi => (cunit_modChannel s' _ hf i).trans (h.others.1 i hi),
    fun i hi => (State.channel_modChannel_ne s' f hi).trans (h.others.2 i hi)⟩
  within := by rw [h.within]; rfl

/-- An instruction that retires sets its unit (R231), and its channel's format flags. -/
theorem unitSet_retire (c : CCtx) (U : CUnit) (fl : FFlags) : UnitSet c.s (c.retire U fl) c.u (stepped c U) := by
  have hset : UnitSet c.s (c.s.setUnit c.u (stepped c U)) c.u (stepped c U) := unitSet_setUnit _ _ _
  unfold CCtx.retire
  dsimp only
  split
  · exact hset
  · exact hset.modChannel rfl

/-- A read of data SRAM that corrects a byte counts it, and does nothing else (R351). -/
theorem counted_only (c : CCtx) (a n : Nat) : ∃ l i, c.counted a n = { c with s := { c.s with log := l, irq := i } } := by
  unfold CCtx.counted
  split
  · obtain ⟨l, i, h⟩ := c.s.bucketEvent_only 2 (c.u / 64) (c.s.channelParcel (c.u / 64))
    exact ⟨l, i, by rw [h]⟩
  · exact ⟨_, _, rfl⟩

/-- What happens to the unit after a read that has been counted, or a free value that has been drawn. -/
theorem UnitSet.becomes {c : CCtx} {s' : State} {U : CUnit} {l : ErrorLog} {i : List (Nat × Nat)} {n : Nat}
    (h : UnitSet { c.s with log := l, irq := i, fresh := n } s' c.u U) : UnitBecomes c s' U :=
  ⟨h.unit, h.others, by rw [h.within]⟩

theorem setUnit_becomes (c : CCtx) (U : CUnit) : UnitBecomes c (c.s.setUnit c.u U) U := (unitSet_setUnit _ _ _).becomes

theorem counted_setUnit_becomes (c : CCtx) (a n : Nat) (U : CUnit) :
    UnitBecomes c ((c.counted a n).s.setUnit c.u U) U := by
  obtain ⟨l, i, h⟩ := counted_only c a n
  rw [h]
  exact (unitSet_setUnit _ _ _).becomes

theorem retire_becomes (c : CCtx) (U : CUnit) (fl : FFlags) : UnitBecomes c (c.retire U fl) (stepped c U) :=
  (unitSet_retire c U fl).becomes

theorem counted_retire_becomes (c : CCtx) (a n : Nat) (U : CUnit) (fl : FFlags) :
    UnitBecomes c ((c.counted a n).retire U fl) (stepped c U) := by
  obtain ⟨l, i, h⟩ := counted_only c a n
  rw [h]
  exact (unitSet_retire { c with s := { c.s with log := l, irq := i } } U fl).becomes

/-- A row whose body retires its instruction, whatever flags it raises. -/
theorem exec_of_retire {s : State} {u : UnitId} {cyc p op : Nat} {c c' : CCtx} {row : Instr} {body : CCtx → Except CStop State}
    {U : CUnit} {P : State → Prop} (h : CIssues s u cyc p op c)
    (hrow : exec row s = .next (celuloIssue s u cyc op (readsOf op) body))
    (hleaves : ∀ fl, P (c'.retire U fl)) (hbody : ∃ fl, body c = .ok (c'.retire U fl)) :
    ∃ s', exec row s = .next s' ∧ P s' := by
  obtain ⟨fl, hfl⟩ := hbody
  exact ⟨_, exec_of_ok h hrow hfl, hleaves fl⟩

/-! ### Writes of data SRAM (R237, R250) -/

/-- Bytes that a unit of parcel `p` writes are on their way to the end of the Celulo cycle, and lie there then where nothing
else is in flight. -/
theorem UnitSet.stores {c : CCtx} {p : Nat} (hc : Stands c p) {s' : State} {U : CUnit} {l : ErrorLog} {i : List (Nat × Nat)}
    {a : Nat} {bytes : List Byte} (h : UnitSet (unitWrite { c.s with log := l, irq := i } c.u c.cyc a bytes) s' c.u U)
    (hhalt : U.halt = .none) : UnitStores c s' p U a bytes := by
  have howner : ({ c.s with log := l, irq := i } : State).channelParcel (c.u / 64) = some p := hc.owner
  unfold unitWrite at h
  rw [howner] at h
  dsimp only at h
  have hflight : (s'.parcel p).flight =
      placeFlight ⟨celuloEnd c.cyc, rankUnit, .sram c.u a bytes⟩ (c.s.parcel p).flight := by
    rw [h.within]
    exact State.fly_flight _ _ _
  refine ⟨h.unit, h.others, ?_, hflight, fun hnil => ?_⟩
  · rw [h.within]; rfl
  · rw [hnil] at hflight
    obtain ⟨-, -, hlands, -⟩ := sram_lands s' p _ _ _ _ _ [] ⟨hflight, by simp⟩
    rw [hlands, h.unit, hhalt]
    rfl

theorem store_retire_stores {c : CCtx} {p : Nat} (hc : Stands c p) (a : Nat) (bytes : List Byte) {U : CUnit}
    (hhalt : U.halt = .none) (fl : FFlags) : UnitStores c ((c.store a bytes).retire U fl) p (stepped c U) a bytes :=
  (unitSet_retire (c.store a bytes) U fl).stores hc hhalt

theorem counted_store_retire_stores {c : CCtx} {p : Nat} (hc : Stands c p) (a n : Nat) (bytes : List Byte) {U : CUnit}
    (hhalt : U.halt = .none) (fl : FFlags) :
    UnitStores c (((c.counted a n).store a bytes).retire U fl) p (stepped c U) a bytes := by
  obtain ⟨l, i, h⟩ := counted_only c a n
  rw [h]
  exact (unitSet_retire (CCtx.store { c with s := { c.s with log := l, irq := i } } a bytes) U fl).stores hc hhalt

/-! ### Checks that pass (R224, R228) -/

/-- A body goes on after a check or a read that passes. -/
theorem bind_ok {α β : Type} {x : Except CStop α} {a : α} {f : α → Except CStop β} {r : β}
    (hx : x = .ok a) (hf : f a = .ok r) : (x >>= f) = .ok r := by
  rw [hx]; exact hf

/-- A body stops at a check that does not pass. -/
theorem bind_stop {α β : Type} {x : Except CStop α} {e : CStop} (f : α → Except CStop β) (hx : x = .error e) :
    (x >>= f) = .error e := by
  rw [hx]; rfl

/-- A body goes on after a check that passes, or that it makes only where `P` holds. -/
theorem ite_bind_ok {α β : Type} {P : Prop} [Decidable P] {x : Except CStop α} {a : α} {f : α → Except CStop β} {r : β}
    (hx : P → x = .ok a) (hf : f a = .ok r) : (if P then x >>= f else f a) = .ok r := by
  split
  next h => exact bind_ok (hx h) hf
  next => exact hf

theorem checkData_of_dataAt {a n : Nat} (h : DataAt a n) : CCtx.checkData a n = .ok () := by
  unfold CCtx.checkData
  rw [if_neg (not_not.2 h.1), if_neg (Nat.not_lt.2 h.2)]

theorem checkData_of_misaligned {a n : Nat} (h : a % n ≠ 0) : CCtx.checkData a n = .error (.handler .misaligned a) := if_pos h

theorem readData_of_good {c : CCtx} {a n : Nat} (h : DataGood c.U a n) : c.readData a n = .ok (Mem.readBytes c.U.data a n) := by
  unfold CCtx.readData
  rw [h]

theorem vectorField_of_lt {i : Nat} (h : i < 8) : vectorField i = .ok () := if_pos h

end Sys2Proof.Proofs.CeluloIssue
end

section
/-! PROOFS. The family of 09_celulo.md: the scalar instructions, data accesses and streams (Tables 9.7 and 9.8). -/

namespace Sys2Proof.Proofs.CeluloScalars

open Sys2Proof Sys2Proof.Machine Sys2Proof.Claims Sys2Proof.Proofs.CeluloIssue

/-! ### Scalars -/

/-- A shift that Table 9.7 gives, one of its three kinds. -/
theorem exec_shi_of_allowed {s : State} {u : UnitId} {cyc p : Nat} {c : CCtx} (h : CIssues s u cyc p 0x04 c)
    (hrest : fld c.w 21 11 = 0) (hkind : fld c.w 19 2 ≠ 3) :
    exec (.celuloShi u cyc) s = .next (c.retire (setSreg c.U c.d (shiResult c)) 0) := by
  refine exec_of_ok h rfl ((if_neg (not_not.2 hrest)).trans ?_)
  have hlt : fld c.w 19 2 < 4 := Nat.mod_lt _ (by decide)
  obtain hshl | hshr | hsra : fld c.w 19 2 = 0 ∨ fld c.w 19 2 = 1 ∨ fld c.w 19 2 = 2 := by omega
  · simp only [shiResult, hshl, if_true]
  · simp only [shiResult, hshr, if_true, one_ne_zero, if_false]
  · simp only [shiResult, hsra, OfNat.ofNat_ne_zero, OfNat.ofNat_ne_one, if_false]

/-- Settles O18: each body's one outcome is the retirement with the tables' result. -/
theorem celuloScalarsWriteResults : Obligations.CeluloScalarsWriteResults := by
  refine ⟨?_, ?_, ?_, ?_, ?_, ?_, ?_, ?_, ?_, ?_⟩
  · intro s u cyc p c v h hv
    exact ⟨_, exec_of_ok h rfl (by simp only [hv]), retire_becomes c _ 0⟩
  · intro s u cyc p c h
    exact ⟨_, exec_of_ok h rfl rfl, retire_becomes c _ 0⟩
  · intro s u cyc p c h
    exact ⟨_, exec_of_ok h rfl rfl, retire_becomes c _ 0⟩
  · intro s u cyc p c h hrest hkind
    exact ⟨_, exec_shi_of_allowed h hrest hkind, retire_becomes c _ 0⟩
  · intro s u cyc p c h
    exact ⟨_, exec_of_ok h rfl rfl, retire_becomes c _ 0⟩
  · intro s u cyc p c v fl h hv
    exact ⟨_, exec_of_ok h rfl (by simp only [hv]), retire_becomes c _ fl⟩
  · intro s u cyc p c h
    exact ⟨_, exec_of_ok h rfl rfl, retire_becomes c _ 0⟩
  · intro s u cyc p c h
    exact ⟨_, exec_of_ok h rfl rfl, retire_becomes c _ 0⟩
  · intro s u cyc p c h hok
    exact ⟨_, exec_of_ok h rfl (if_pos hok), retire_becomes c _ 0⟩
  · intro s u cyc p c h
    exact ⟨_, exec_of_ok h rfl rfl, retire_becomes c _ 0⟩

/-! ### Data SRAM -/

/-- Settles O19: a load reads at its issue; a store's bytes are the parcel's work in flight until the Celulo cycle ends. -/
theorem celuloDataAccesses : Obligations.CeluloDataAccesses := by
  refine ⟨?_, ?_, ?_, ?_⟩
  · intro s u cyc p c h hat hgood
    exact ⟨_, exec_of_ok h rfl (bind_ok (checkData_of_dataAt hat) (bind_ok (readData_of_good hgood) rfl)),
      counted_retire_becomes c _ 4 _ 0⟩
  · intro s u cyc p c h hd hat hgood
    exact ⟨_, exec_of_ok h rfl (bind_ok (vectorField_of_lt hd) (bind_ok (checkData_of_dataAt hat)
      (bind_ok (readData_of_good hgood) rfl))), counted_retire_becomes c _ 16 _ 0⟩
  · intro s u cyc p c h hat
    have hc := stands_of_issues h
    exact ⟨_, exec_of_ok h rfl (bind_ok (checkData_of_dataAt hat) rfl), store_retire_stores hc _ _ hc.healthy 0⟩
  · intro s u cyc p c h hd hat
    have hc := stands_of_issues h
    exact ⟨_, exec_of_ok h rfl (bind_ok (vectorField_of_lt hd) (bind_ok (checkData_of_dataAt hat) rfl)),
      store_retire_stores hc _ _ hc.healthy 0⟩

/-! ### Streams -/

theorem streamCheck_of_fits {base n : Nat} (h : StreamFits base n) : streamCheck base n = .ok () := by
  obtain ⟨haligned, hsome, hend⟩ := h
  unfold streamCheck
  rw [if_neg (not_not.2 haligned), if_neg (by simp [hsome, hend])]

theorem takeStream_of_good {U : CUnit} {n : Nat} {bs : List Byte} {r : List FifoGranule} (hbytes : n ≤ fifoBytes U.fifo)
    (hgood : ∀ g ∈ fifoTouched n U.fifo, g.bad = false) (htake : takeFifo n U.fifo = some (bs, r)) :
    takeStream U n = .ok (some (bs, { U with fifo := r })) := by
  have hnone : (fifoTouched n U.fifo).find? (·.bad) = none := List.find?_eq_none.2 fun g hg => by simp [hgood g hg]
  unfold takeStream
  rw [if_neg (Nat.not_lt.2 hbytes), hnone, htake]

/-- Settles O20: each row's checks pass and it retires with its stream, its FIFO or its write queue changed. WAITW compares
IMM18 as a signed number (the model's choice, log entry 33). -/
theorem celuloStreams : Obligations.CeluloStreams := by
  refine ⟨?_, ?_, ?_, ?_, ?_, ?_, ?_⟩
  · intro s u cyc p c h hfits hopen
    exact ⟨_, exec_of_ok h rfl (bind_ok (streamCheck_of_fits hfits) (by simp only [hopen])), retire_becomes c _ 0⟩
  · intro s u cyc p c o h hfits hopen hpending
    exact ⟨_, exec_of_ok h rfl (bind_ok (streamCheck_of_fits hfits) (by simp only [hopen, hpending])), retire_becomes c _ 0⟩
  · intro s u cyc p c h hfits hwhole
    exact ⟨_, exec_of_ok h rfl (bind_ok (streamCheck_of_fits hfits) (if_neg (by simp [hwhole]))), retire_becomes c _ 0⟩
  · intro s u cyc p c bs r h hd hbytes hgood htake
    exact ⟨_, exec_of_ok h rfl (bind_ok (vectorField_of_lt hd) (bind_ok (takeStream_of_good hbytes hgood htake) rfl)),
      retire_becomes c _ 0⟩
  · intro s u cyc p c h hd hpart
    exact ⟨_, exec_of_ok h rfl (bind_ok (vectorField_of_lt hd) (if_pos hpart)), retire_becomes c _ 0⟩
  · intro s u cyc p c w h hd hwhole hopen hleft hroom
    refine ⟨_, exec_of_ok h rfl (bind_ok (vectorField_of_lt hd) ((if_neg (by simp [hwhole])).trans ?_)), retire_becomes c _ 0⟩
    rw [hopen]
    exact (if_neg hleft).trans (if_neg (Nat.not_le.2 hroom))
  · intro s u cyc p c h hfree
    exact ⟨_, exec_of_ok h rfl (if_pos hfree), retire_becomes c _ 0⟩

end Sys2Proof.Proofs.CeluloScalars
end

section
/-! PROOFS. The family of 09_celulo.md: the vector instructions (R224, R225, R229, R230). -/

namespace Sys2Proof.Proofs.CeluloVectors

open Sys2Proof Sys2Proof.Machine Sys2Proof.Claims Sys2Proof.Proofs.CeluloIssue

/-- A vector operand's fields that name a part of a register, or the stream (R224, R225). -/
theorem operandFields_named {field part parts : Nat} (hfield : field ≤ 8) (hpart : field < 8 → part < parts)
    (hstream : field = 8 → part = 0) :
    ¬ (decide (8 < field) || decide (field < 8) && decide (parts ≤ part) ||
      decide (field = 8) && decide (part ≠ 0)) = true := by
  simp only [Bool.or_eq_true, Bool.and_eq_true, decide_eq_true_eq]
  omega

theorem vdot_holds (s : State) (u : UnitId) (cyc p : Nat) (c : CCtx) (fv fm : Fmt) (xs : List Nat) (U : CUnit)
    (h : CIssues s u cyc p 0x11 c) (hallowed : VdotAllowed c fv fm xs U) :
    ∃ s', exec (.celuloVdot u cyc) s = .next s' ∧
      UnitBecomes c s' (stepped c (c.usable (setSreg U c.d (celuloDot c.U.fcw fv fm xs
        (unpackCodes fm.bits (celuloElems fv) (natOfBytes (Mem.readBytes c.U.data (c.addr 16) 16)))
        (if bitAt c.w 28 then 0 else c.sD)).1) c.d 2 true)) := by
  obtain ⟨hfv, hfm, hfield, hpart, hstream, hpair, hscale, hat, hgood, hoperand⟩ := hallowed
  have hformats : ¬ (!celuloPair fv fm || decide (fv = .tern2) && (scaleV c.U.fcw).isNone) = true := by
    have hscaled : fv = .tern2 → scaleV c.U.fcw ≠ none := fun hf => Option.isSome_iff_ne_none.1 (hscale hf)
    simpa [hpair] using hscaled
  refine exec_of_retire h rfl (counted_retire_becomes c (c.addr 16) 16 _) ?_
  dsimp only
  rw [hfv, hfm]
  exact ⟨_, (if_neg (operandFields_named hfield hpart hstream)).trans ((if_neg hformats).trans
    (bind_ok (checkData_of_dataAt hat) (bind_ok hoperand (bind_ok (readData_of_good hgood) rfl))))⟩

/-- Taking bytes of the stream changes no halt. -/
theorem takeStream_halt {U U' : CUnit} {n : Nat} {bs : List Byte} (h : takeStream U n = .ok (some (bs, U'))) :
    U'.halt = U.halt := by
  unfold takeStream at h
  split at h
  · split at h <;> cases h
  · split at h <;> cases h
    rfl

/-- Taking a vector operand changes no halt. -/
theorem vectorOperand_halt {c : CCtx} {f : Fmt} {field part : Nat} {xs : List Nat} {U : CUnit}
    (h : vectorOperand c f field part = .ok (some (xs, U))) : U.halt = c.U.halt := by
  unfold vectorOperand at h
  dsimp only at h
  split at h
  · split at h <;> cases h
    rfl
  split at h
  · split at h
    · cases h
    · cases htake : takeStream c.U (celuloElems f * f.bits / 8) with
      | error e => rw [htake] at h; cases h
      | ok x =>
        rw [htake] at h
        match x with
        | none => cases h
        | some (bs, U') => cases h; exact takeStream_halt htake
  · cases h

theorem vmacm_holds (s : State) (u : UnitId) (cyc p : Nat) (c : CCtx) (fv : Fmt) (xs : List Nat) (U : CUnit)
    (h : CIssues s u cyc p 0x12 c) (hallowed : VmacmAllowed c fv xs U) :
    ∃ s', exec (.celuloVmacm u cyc) s = .next s' ∧
      UnitStores c s' p (stepped c (c.usable U (CCtx.keyM (c.addr 64)) 3 false)) (c.addr 64)
        ((vmacmLine c fv xs).flatMap fun r => bytesOfNat r.1.toNat 4) := by
  obtain ⟨hfv, hfield, hpart, hstream, hint, hscales, hscale, hat, hgood, hoperand⟩ := hallowed
  have hc := stands_of_issues h
  have hformat : ¬ (decide (fv = .int32) || decide (fv = .e8m0) || decide (fv = .tern2) && (scaleV c.U.fcw).isNone) = true := by
    have hscaled : fv = .tern2 → scaleV c.U.fcw ≠ none := fun hf => Option.isSome_iff_ne_none.1 (hscale hf)
    simpa [hint, hscales] using hscaled
  refine exec_of_retire h rfl (counted_store_retire_stores hc (c.addr 64) (4 * celuloElems fv) _
    (U := c.usable U (CCtx.keyM (c.addr 64)) 3 false) ((vectorOperand_halt hoperand).trans hc.healthy)) ?_
  dsimp only
  rw [hfv]
  exact ⟨_, (if_neg (operandFields_named hfield hpart hstream)).trans ((if_neg hformat).trans
    (bind_ok (checkData_of_dataAt hat) (bind_ok hoperand (bind_ok (readData_of_good hgood) rfl))))⟩

theorem vf_holds (s : State) (u : UnitId) (cyc p : Nat) (c : CCtx) (U : CUnit) (h : CIssues s u cyc p 0x13 c)
    (hU : vfUnit c = some U) :
    ∃ s', exec (.celuloVf u cyc) s = .next s' ∧ UnitBecomes c s' (stepped c U) := by
  refine exec_of_retire h rfl (retire_becomes c U) ?_
  unfold vfUnit at hU
  by_cases hlanes : c.fn ≤ 7
  · rw [if_pos hlanes] at hU
    obtain ⟨⟨ha, hd, hb⟩, rfl⟩ := Option.ite_some_none_eq_some.1 hU
    exact ⟨_, (if_pos hlanes).trans (bind_ok (vectorField_of_lt ha) (bind_ok (vectorField_of_lt hd)
      (ite_bind_ok (fun htwo => vectorField_of_lt (hb htwo)) rfl)))⟩
  rw [if_neg hlanes] at hU
  by_cases hsum : c.fn = 8
  · rw [if_pos hsum] at hU
    obtain ⟨ha, rfl⟩ := Option.ite_some_none_eq_some.1 hU
    exact ⟨_, (if_neg hlanes).trans ((if_pos hsum).trans (bind_ok (vectorField_of_lt ha) rfl))⟩
  rw [if_neg hsum] at hU
  by_cases hmax : c.fn = 9
  · rw [if_pos hmax] at hU
    obtain ⟨ha, rfl⟩ := Option.ite_some_none_eq_some.1 hU
    exact ⟨_, (if_neg hlanes).trans ((if_neg hsum).trans ((if_pos hmax).trans (bind_ok (vectorField_of_lt ha) rfl)))⟩
  rw [if_neg hmax] at hU
  by_cases hsplat : c.fn = 10
  · rw [if_pos hsplat] at hU
    obtain ⟨hd, rfl⟩ := Option.ite_some_none_eq_some.1 hU
    exact ⟨_, (if_neg hlanes).trans ((if_neg hsum).trans ((if_neg hmax).trans ((if_pos hsplat).trans
      (bind_ok (vectorField_of_lt hd) rfl))))⟩
  rw [if_neg hsplat] at hU
  by_cases hextract : c.fn = 11
  · rw [if_pos hextract] at hU
    obtain ⟨ha, rfl⟩ := Option.ite_some_none_eq_some.1 hU
    exact ⟨_, (if_neg hlanes).trans ((if_neg hsum).trans ((if_neg hmax).trans ((if_neg hsplat).trans ((if_pos hextract).trans
      (bind_ok (vectorField_of_lt ha) rfl)))))⟩
  · rw [if_neg hextract] at hU
    cases hU

theorem vcvt_holds (s : State) (u : UnitId) (cyc p : Nat) (c : CCtx) (fv fd : Fmt) (r : Rnd) (h : CIssues s u cyc p 0x14 c)
    (hallowed : VcvtAllowed c fv fd r) :
    ∃ s', exec (.celuloVcvt u cyc) s = .next s' ∧
      UnitBecomes c s' (stepped c (setVreg c.U c.d (BitVec.ofNat 128 (putPart (vreg c.U c.d).toNat
        (celuloElems fd * fd.bits) (fld c.w 24 2) fd.bits (vcvtCodes c fv fd r) (Config.vcvtRest c.s.fresh))))) := by
  obtain ⟨ha, hd, hfv, hfd, hr, hps, hpd, htern, hscalesD, hscalesV, hscale⟩ := hallowed
  have hparts : ¬ (decide (celuloParts fv ≤ fld c.w 22 2) || decide (celuloParts fd ≤ fld c.w 24 2)) = true := by
    simp only [Bool.or_eq_true, decide_eq_true_eq]
    omega
  have hformats : ¬ (decide (fd = .tern2) || decide (fd = .e8m0) || decide (fv = .e8m0) ||
      decide (fv = .tern2) && (scaleV c.U.fcw).isNone) = true := by
    have hscaled : fv = .tern2 → scaleV c.U.fcw ≠ none := fun hf => Option.isSome_iff_ne_none.1 (hscale hf)
    simpa [htern, hscalesD, hscalesV] using hscaled
  refine exec_of_retire h rfl
    (fun fl => (unitSet_retire { c with s := { c.s with fresh := c.s.fresh + 1 } } _ fl).becomes) ?_
  dsimp only
  rw [hfv, hfd, hr]
  exact ⟨_, bind_ok (vectorField_of_lt ha) (bind_ok (vectorField_of_lt hd)
    ((if_neg hparts).trans ((if_neg hformats).trans rfl)))⟩

/-- Settles O21: each row's checks pass and it retires with R230's result. The elements that VCVT writes are as many as the part
holds, and the bits that none fills are a free value (the model's choice, log entry 34). -/
theorem celuloVectorsWriteResults : Obligations.CeluloVectorsWriteResults := ⟨vdot_holds, vmacm_holds, vf_holds, vcvt_holds⟩

end Sys2Proof.Proofs.CeluloVectors
end

section
/-! PROOFS. The family of 09_celulo.md: the control instructions, halts and exceptions (R231, R234, R235, R238, R241 to
R245). -/

namespace Sys2Proof.Proofs.CeluloControl

open Sys2Proof Sys2Proof.Machine Sys2Proof.Claims Sys2Proof.Proofs.Engines Sys2Proof.Proofs.PereoStacks
open Sys2Proof.Proofs.CeluloPort Sys2Proof.Proofs.CeluloIssue

/-! ### What a halt or a completed launch leaves -/

/-- No stack memory, no unit but `u` and no channel but its own has changed. -/
structure UnitAlone (s s' : State) (u : Nat) : Prop where
  stack : s'.stack = s.stack
  kept : OtherUnitsKept s s' u

theorem UnitAlone.refl (s : State) (u : Nat) : UnitAlone s s u := ⟨rfl, fun _ _ => rfl, fun _ _ => rfl⟩

theorem UnitAlone.trans {s s' s'' : State} {u : Nat} (h : UnitAlone s s' u) (h' : UnitAlone s' s'' u) : UnitAlone s s'' u :=
  ⟨h'.stack.trans h.stack, fun i hi => (h'.kept.1 i hi).trans (h.kept.1 i hi),
    fun i hi => (h'.kept.2 i hi).trans (h.kept.2 i hi)⟩

theorem unitAlone_setUnit (s : State) (u : Nat) (U : CUnit) : UnitAlone s (s.setUnit u U) u :=
  ⟨rfl, (oneUnit_setUnit s u U).kept⟩

theorem unitAlone_logNotTaken (s : State) (u cyc : Nat) (fifo : List FifoGranule) :
    UnitAlone s (logNotTaken s u cyc fifo) u := by
  have h := logNotTaken_leaves s u cyc fifo
  simp only [Prod.mk.injEq] at h
  obtain ⟨-, -, -, -, hstack⟩ := h
  exact ⟨hstack, (oneUnit_logNotTaken s u cyc fifo).kept⟩

theorem unitAlone_countCelulo (s : State) (u k : Nat) : UnitAlone s (countCelulo s u k) u :=
  ⟨s.count_stack _ _ _, (oneUnit_countCelulo s u k).kept⟩

theorem unitAlone_completeLaunch (s : State) (u : Nat) (L : UnitLaunch) : UnitAlone s (completeLaunch s u L) u :=
  ⟨rfl, fun _ _ => rfl, fun _ _ => rfl⟩

theorem unitAlone_haltUnit (s : State) (u cyc : Nat) (h : UnitHalt) : UnitAlone s (haltUnit s u cyc h) u :=
  ⟨haltUnit_stack s u cyc h, (oneUnit_haltUnit s u cyc h).kept⟩

/-- What of a unit a halt leaves: its registers, its data SRAM and its shadow registers. -/
def haltKept (U : CUnit) : List (Nat × Word) × List (Nat × BitVec 128) × Mem × BitVec 11 × BitVec 8 :=
  (U.s, U.v, U.data, U.shadowPc, U.shadowCause)

theorem noteHalt_cunit (s : State) (u cyc i : Nat) : (noteHalt s u cyc).cunit i = s.cunit i := by
  unfold noteHalt
  split <;> rfl

theorem logNotTaken_cunit (s : State) (u cyc i : Nat) (fifo : List FifoGranule) :
    (logNotTaken s u cyc fifo).cunit i = s.cunit i := by
  have h := logNotTaken_leaves s u cyc fifo
  simp only [Prod.mk.injEq] at h
  obtain ⟨hunits, hchannels, -⟩ := h
  exact cunit_congr hunits hchannels i

theorem haltKept_countCelulo (s : State) (u k : Nat) : haltKept ((countCelulo s u k).cunit u) = haltKept (s.cunit u) := by
  unfold countCelulo
  rw [State.cunit_modUnit_self, cunit_count]
  rfl

theorem haltKept_haltUnit (s : State) (u cyc : Nat) (h : UnitHalt) :
    haltKept ((haltUnit s u cyc h).cunit u) = haltKept (s.cunit u) := by
  unfold haltUnit
  dsimp only
  rw [State.cunit_modUnit_self]
  show haltKept ((noteHalt _ u cyc).cunit u) = _
  rw [noteHalt_cunit, logNotTaken_cunit, haltKept_countCelulo]

/-! ### LOOP (R231) -/

/-- The unit past the body of a loop with no trips. -/
def loopSkipped (c : CCtx) : CUnit :=
  { c.U with
      pc := BitVec.ofNat 32 (afterInstr (c.pc + fld c.w 10 12) c.U.loops).1
      loops := (afterInstr (c.pc + fld c.w 10 12) c.U.loops).2.1
      nextIssue := c.k + 1 }

/-- The unit at the first instruction of the loop's body. -/
def loopEntered (c : CCtx) : CUnit :=
  { c.U with
      pc := BitVec.ofNat 32 (c.pc + 1)
      loops := ⟨c.pc + 1, c.pc + fld c.w 10 12, c.sD.toNat, 0⟩ :: c.U.loops
      nextIssue := c.k + 1 }

theorem exec_loop {s : State} {u : UnitId} {cyc p : Nat} {c : CCtx} (h : CIssues s u cyc p 0x18 c)
    (hallowed : CLoopAllowed c) :
    exec (.celuloLoop u cyc) s = .next (c.s.setUnit c.u (if c.sD = 0 then loopSkipped c else loopEntered c)) := by
  obtain ⟨hhandler, hlen, htrips, hend, hinner, hdepth⟩ := hallowed
  refine exec_of_ok h rfl ((if_neg (by simp [hhandler])).trans ((if_neg ?_).trans ?_))
  · have htrips' : c.sD.toNat ≤ 1048576 := htrips
    cases hloops : c.U.loops with
    | nil => simp [hlen, htrips', hend]
    | cons f fs =>
      have houter : c.pc + fld c.w 10 12 ≤ f.last := hinner f (by rw [hloops]; rfl)
      have hopen : fs.length < 3 := by rw [hloops] at hdepth; exact Nat.lt_of_succ_lt_succ hdepth
      simp [hlen, htrips', hend, houter, hopen]
  · by_cases hzero : c.sD = 0
    · rw [if_pos hzero]
      exact if_pos (by rw [hzero]; rfl)
    · rw [if_neg hzero]
      exact if_neg fun h0 => hzero (BitVec.eq_of_toNat_eq h0)

theorem loop_holds (s : State) (u : UnitId) (cyc p : Nat) (c : CCtx) (h : CIssues s u cyc p 0x18 c) (hallowed : CLoopAllowed c) :
    ∃ s', exec (.celuloLoop u cyc) s = .next s' ∧ UnitBecomes c s' (if c.sD = 0 then loopSkipped c else loopEntered c) :=
  ⟨_, exec_loop h hallowed, setUnit_becomes c _⟩

/-! ### DONE (R234, R235, R238) -/

/-- The unit whose read streams DONE has abandoned. -/
def readsAbandoned (U : CUnit) : CUnit := { U with openRead := none, pendingRead := none, fifo := [] }

/-- The state in which DONE has counted the unit's busy cycles and completed its launch. -/
def launchDone (c : CCtx) : State :=
  let s := countCelulo (logNotTaken c.s c.u c.cyc c.U.fifo) c.u (c.k + 1)
  match c.U.running with
  | some L => completeLaunch s c.u L
  | none => s

theorem unitAlone_launchDone (c : CCtx) : UnitAlone c.s (launchDone c) c.u := by
  have hcounted := (unitAlone_logNotTaken c.s c.u c.cyc c.U.fifo).trans (unitAlone_countCelulo _ c.u (c.k + 1))
  unfold launchDone
  cases c.U.running with
  | none => exact hcounted
  | some L => exact hcounted.trans (unitAlone_completeLaunch _ _ L)

theorem partlyAppended_nil {U : CUnit} (h : U.writeQueue = []) : partlyAppended U = false := by
  rw [partlyAppended, h]; rfl

/-- What is left beside a unit that is set, from a state in which it alone may have changed. -/
theorem setUnit_leaves {s s₁ : State} {u : UnitId} {cyc p op : Nat} {c : CCtx} (h : CIssues s u cyc p op c)
    (halone : UnitAlone c.s s₁ c.u) (U : CUnit) :
    (s₁.setUnit c.u U).stack = s.stack ∧ OtherUnitsKept c.s (s₁.setUnit c.u U) u ∧ (s₁.setUnit c.u U).cunit u = U := by
  have hset := halone.trans (unitAlone_setUnit s₁ c.u U)
  rw [unit_of_issues h] at hset ⊢
  exact ⟨hset.stack.trans (stack_of_issues h), hset.kept, State.cunit_setUnit_self _ _ _⟩

theorem done_idles (s : State) (u : UnitId) (cyc p : Nat) (c : CCtx) (h : CIssues s u cyc p 0x19 c)
    (hempty : c.U.writeQueue = []) (hslot : c.U.pendingLaunch = none) :
    ∃ s', exec (.celuloDone u cyc) s = .next s' ∧ s'.stack = s.stack ∧ OtherUnitsKept c.s s' u ∧
      s'.cunit u = { c.U with
        openRead := none, pendingRead := none, fifo := [], running := none, finishing := false, loops := [],
        writeStream := none } := by
  refine ⟨_, exec_of_ok h rfl ((if_neg (by simp [partlyAppended_nil hempty])).trans ((if_neg (by simp [hempty])).trans ?_)),
    setUnit_leaves h (unitAlone_launchDone c) _⟩
  dsimp only
  rw [hslot]
  rfl

theorem done_startsNext (s : State) (u : UnitId) (cyc p : Nat) (c : CCtx) (L : UnitLaunch) (h : CIssues s u cyc p 0x19 c)
    (hempty : c.U.writeQueue = []) (hslot : c.U.pendingLaunch = some L) :
    ∃ s', exec (.celuloDone u cyc) s = .next s' ∧ s'.stack = s.stack ∧ OtherUnitsKept c.s s' u ∧
      (s'.cunit u).running = some L ∧ (s'.cunit u).pendingLaunch = none ∧ (s'.cunit u).pc = L.entry.setWidth 32 ∧
      (s'.cunit u).nextIssue = c.k + 1 ∧ (s'.cunit u).data = c.U.data ∧ sreg (s'.cunit u) 0 = L.arg ∧
      (s'.cunit u).fcw = 0x007F7F55 := by
  obtain ⟨hstack, hkept, hunit⟩ := setUnit_leaves h (unitAlone_launchDone c)
    (startUnit { readsAbandoned c.U with pendingLaunch := none } L (logicalUnit (launchDone c) c.u) (c.k + 1))
  refine ⟨_, exec_of_ok h rfl ((if_neg (by simp [partlyAppended_nil hempty])).trans ((if_neg (by simp [hempty])).trans ?_)),
    hstack, hkept, ?_⟩
  · rw [hslot]
    rfl
  · rw [hunit]
    refine ⟨rfl, rfl, rfl, rfl, rfl, ?_, rfl⟩
    rw [sreg, startUnit, Tab.get_set_ne _ _ _ (by decide), Tab.get_set_ne _ _ _ (by decide), Tab.get_set_self]

theorem done_finishes (s : State) (u : UnitId) (cyc p : Nat) (c : CCtx) (h : CIssues s u cyc p 0x19 c)
    (hqueued : c.U.writeQueue ≠ []) (hwhole : partlyAppended c.U = false) :
    ∃ s', exec (.celuloDone u cyc) s = .next s' ∧ s'.stack = s.stack ∧ OtherUnitsKept c.s s' u ∧
      s'.cunit u = { c.U with openRead := none, pendingRead := none, fifo := [], finishing := true } :=
  ⟨_, exec_of_ok h rfl ((if_neg (by simp [hwhole])).trans (if_pos (by simp [hqueued]))),
    setUnit_leaves h (unitAlone_logNotTaken c.s c.u c.cyc c.U.fifo) _⟩

/-! ### FAIL and ERET (R244, R245) -/

/-- What a halt leaves, from a state in which its unit alone may have changed. -/
theorem haltUnit_leaves {s s₁ : State} {u : UnitId} {cyc p op : Nat} {c : CCtx} (h : CIssues s u cyc p op c)
    (halone : UnitAlone c.s s₁ c.u) (halt : UnitHalt) :
    let s' := haltUnit s₁ c.u c.cyc halt
    s'.stack = s.stack ∧ OtherUnitsKept c.s s' u ∧ (s'.cunit u).halt = halt ∧
      haltKept (s'.cunit u) = haltKept (s₁.cunit c.u) := by
  have hhalt := halone.trans (unitAlone_haltUnit s₁ c.u c.cyc halt)
  rw [unit_of_issues h] at hhalt ⊢
  exact ⟨hhalt.stack.trans (stack_of_issues h), hhalt.kept, haltUnit_halt _ _ _ _, haltKept_haltUnit _ _ _ _⟩

theorem fail_holds (s : State) (u : UnitId) (cyc p : Nat) (c : CCtx) (h : CIssues s u cyc p 0x1A c) :
    ∃ s', exec (.celuloFail u cyc) s = .next s' ∧ s'.stack = s.stack ∧ OtherUnitsKept c.s s' u ∧
      (s'.cunit u).halt = .direct 0x12 c.pc (BitVec.ofNat 32 (c.sA.toNat % 256)) ∧
      (s'.cunit u).s = c.U.s ∧ (s'.cunit u).v = c.U.v ∧ (s'.cunit u).data = c.U.data := by
  obtain ⟨hstack, hkept, hhalt, hunit⟩ := haltUnit_leaves h (UnitAlone.refl c.s c.u)
    (.direct 0x12 c.pc (BitVec.ofNat 32 (c.sA.toNat % 256)))
  rw [(stands_of_issues h).unit] at hunit
  simp only [haltKept, Prod.mk.injEq] at hunit
  obtain ⟨hs, hv, hdata, -, -⟩ := hunit
  exact ⟨_, exec_of_stop h rfl rfl, hstack, hkept, hhalt, hs, hv, hdata⟩

theorem eret_holds (s : State) (u : UnitId) (cyc p : Nat) (c : CCtx) (h : CIssues s u cyc p 0x1B c)
    (hhandler : c.U.inHandler = true) (hat : DataAt (sreg c.U 15).toNat 16) (hgood : DataGood c.U (sreg c.U 15).toNat 16) :
    ∃ s', exec (.celuloEret u cyc) s = .next s' ∧
      (let f := natOfBytes (Mem.readBytes c.U.data (sreg c.U 15).toNat 16)
       UnitBecomes c s' { setSreg c.U 15 (BitVec.ofNat 32 ((sreg c.U 15).toNat + 16)) with
         pc := BitVec.ofNat 32 (fld f 0 32)
         inHandler := bitAt f 40
         nextIssue := c.k + 1 }) :=
  ⟨_, exec_of_ok h rfl ((if_neg (by simp [hhandler])).trans
    (bind_ok (checkData_of_dataAt hat) (bind_ok (readData_of_good hgood) rfl))), counted_setUnit_becomes c _ 16 _⟩

/-- Settles O22: each row's checks pass, and it sets its unit or halts it. That DONE with granules still queued only finishes is
the model's choice (log entry 33). -/
theorem celuloControl : Obligations.CeluloControl :=
  ⟨loop_holds, done_idles, done_startsNext, done_finishes, fail_holds, eret_holds⟩

/-! ### Exceptions (R241 to R243) -/

/-- A misaligned LDW raises MISALIGNED with its address (that alignment is checked before the range is the model's choice,
log entry 33). -/
theorem exec_ldw_misaligned {s : State} {u : UnitId} {cyc p : Nat} {c : CCtx} (h : CIssues s u cyc p 0x08 c)
    (hmisaligned : c.addr 4 % 4 ≠ 0) :
    exec (.celuloLdw u cyc) s = .next (celuloException c.s c.u c.cyc .misaligned (c.addr 4) c.w) :=
  exec_of_stop (x := .handler .misaligned (c.addr 4)) h rfl (bind_stop _ (checkData_of_misaligned hmisaligned))

/-- The stack pointers at which a frame can be pushed (R242, R243). -/
theorem spUsable_iff (sp : Nat) :
    (decide (sp % 16 = 0) && decide (16 ≤ sp) && decide (sp ≤ dataBytes)) = true ↔
      sp % 16 = 0 ∧ 16 ≤ sp ∧ sp ≤ dataBytes := by
  simp only [Bool.and_eq_true, decide_eq_true_eq, and_assoc]

/-- The unit with the cause and the program counter of an exception in its shadow registers. -/
def shadowed (U : CUnit) (cause : CCause) : CUnit :=
  { U with shadowPc := U.pc.setWidth 11, shadowCause := BitVec.ofNat 8 cause.code }

theorem celuloException_locks (s : State) (u cyc : Nat) (cause : CCause) (info word : Nat)
    (hsp : ¬ ((sreg (s.cunit u) 15).toNat % 16 = 0 ∧ 16 ≤ (sreg (s.cunit u) 15).toNat ∧
      (sreg (s.cunit u) 15).toNat ≤ dataBytes)) :
    celuloException s u cyc cause info word = haltUnit (s.setUnit u (shadowed (s.cunit u) cause)) u cyc .lock :=
  if_neg (mt (spUsable_iff _).1 hsp)

theorem exception_entersHandler (s : State) (u : UnitId) (cyc p : Nat) (c : CCtx) (h : CIssues s u cyc p 0x08 c)
    (hmisaligned : c.addr 4 % 4 ≠ 0) (haligned : (sreg c.U 15).toNat % 16 = 0) (hlow : 16 ≤ (sreg c.U 15).toNat)
    (hhigh : (sreg c.U 15).toNat ≤ 16384) :
    ∃ s', exec (.celuloLdw u cyc) s = .next s' ∧
      (let sp := (sreg c.U 15).toNat
       UnitStores c s' p
         { setSreg c.U 15 (BitVec.ofNat 32 (sp - 16)) with inHandler := true, pc := 2032, nextIssue := c.k + 1 } (sp - 16)
         (bytesOfNat (c.pc + 2 ^ 32 * (3 + (if c.U.inHandler then 256 else 0) + c.U.loops.length * 512) +
           2 ^ 64 * c.addr 4 + 2 ^ 96 * c.w) 16)) := by
  have hc := stands_of_issues h
  refine ⟨_, exec_ldw_misaligned h hmisaligned, ?_⟩
  unfold celuloException
  rw [hc.unit, pc_of_issues h]
  dsimp only
  rw [if_pos ((spUsable_iff _).2 ⟨haligned, hlow, hhigh⟩)]
  exact ((unitSet_setUnit (unitWrite c.s c.u c.cyc _ _) c.u _).modChannel rfl).stores (l := c.s.log) (i := c.s.irq) hc hc.healthy

theorem exception_locks (s : State) (u : UnitId) (cyc p : Nat) (c : CCtx) (h : CIssues s u cyc p 0x08 c)
    (hmisaligned : c.addr 4 % 4 ≠ 0)
    (hsp : (sreg c.U 15).toNat % 16 ≠ 0 ∨ (sreg c.U 15).toNat < 16 ∨ 16384 < (sreg c.U 15).toNat) :
    ∃ s', exec (.celuloLdw u cyc) s = .next s' ∧
      s'.stack = s.stack ∧ (s'.cunit u).halt = .lock ∧
      (s'.cunit u).shadowCause = 3 ∧ (s'.cunit u).shadowPc = c.U.pc.setWidth 11 ∧ OtherUnitsKept c.s s' u ∧
      (s'.cunit u).s = c.U.s ∧ (s'.cunit u).v = c.U.v ∧ (s'.cunit u).data = c.U.data := by
  have hc := stands_of_issues h
  obtain ⟨hstack, hkept, hhalt, hunit⟩ := haltUnit_leaves h (unitAlone_setUnit c.s c.u (shadowed c.U .misaligned)) .lock
  rw [State.cunit_setUnit_self] at hunit
  simp only [haltKept, Prod.mk.injEq] at hunit
  obtain ⟨hs, hv, hdata, hpc, hcause⟩ := hunit
  refine ⟨_, exec_ldw_misaligned h hmisaligned, ?_⟩
  rw [celuloException_locks _ _ _ _ _ _ (by rw [hc.unit, dataBytes]; omega), hc.unit]
  exact ⟨hstack, hhalt, hcause, hpc, hkept, hs, hv, hdata⟩

/-- Settles O23: the frame is work in flight until the Celulo cycle ends (log entry 10). -/
theorem celuloExceptionEntry : Obligations.CeluloExceptionEntry := ⟨exception_entersHandler, exception_locks⟩

end Sys2Proof.Proofs.CeluloControl
end

section
/-! PROOFS. The family of 09_celulo.md: the teardown that a fault brings, and the stop of a parcel's engines (R122, R246, R304,
R305). -/

namespace Sys2Proof.Proofs.FaultTeardown

open Sys2Proof Sys2Proof.Machine Sys2Proof.Claims Sys2Proof.Proofs.ArrayTiles Sys2Proof.Proofs.Engines
open Sys2Proof.Proofs.PereoStacks

/-! ### A teardown leaves the meridian, and so TICK -/

theorem stopTile_mer (p cyc : Nat) (s : State) (t : Nat) : (stopTile p cyc s t).mer = s.mer :=
  foldl_keeps _ State.mer (fun s _ => s.count_mer _ _ _) _ s

theorem stopParcel_mer (s : State) (p cyc : Nat) : (stopParcel s p cyc).mer = s.mer :=
  foldl_keeps _ State.mer (stopTile_mer p cyc) _ s

theorem outcome_mer (s : State) (p o : Nat) : (outcome s p o).mer = s.mer := State.raise_mer _ _ _

theorem outcomeSampled_mer (s : State) (p o : Nat) : (outcomeSampled s p o).mer = s.mer := by
  unfold outcomeSampled
  split
  · exact outcome_mer s p o
  · rfl

theorem discardCommand_mer (s : State) (p : Nat) : (discardCommand s p).mer = s.mer := by
  unfold discardCommand
  dsimp only
  split
  · exact outcome_mer _ _ _
  split
  · exact outcomeSampled_mer _ _ _
  · rfl

theorem enqueuePages_mer (tick : Nat) (l : List (Nat × Nat)) (s : State) : (enqueuePages tick s l).1.mer = s.mer := by
  induction l generalizing s with
  | nil => rfl
  | cons x l ih =>
    obtain ⟨c, g⟩ := x
    rw [enqueuePages]
    cases hq : enqueueClear s c g tick with
    | none => exact ih s
    | some s' =>
      rw [enqueueClear] at hq
      split at hq
      · rw [← Option.some.inj hq]
        exact ih _
      · cases hq

theorem freeColumns_mer (s : State) (p tick : Nat) (cols : List Nat) : (freeColumns s p tick cols).mer = s.mer := by
  unfold freeColumns
  split
  · exact foldl_keeps _ State.mer (fun s c => by exact enqueuePages_mer tick (columnPages s p c) s) _ s
  · rfl

theorem endSlice_mer (s : State) (p : Nat) : (endSlice s p).mer = s.mer := by
  show (List.foldl _ (List.foldl _ (List.foldl _ s _) _) _).mer = s.mer
  rw [foldl_keeps _ State.mer fun s (g : Nat × GazEntry) => freeColumns_mer s p s.now g.2.cols, foldl_keeps _ State.mer,
    foldl_keeps _ State.mer]
  · intro s g
    dsimp only
    split
    · rfl
    · split <;> rfl
  · exact fun _ _ => rfl

theorem recordUnits_mer (s : State) (p c : Nat) (primary : Option Nat) : (recordUnits s p c primary).mer = s.mer := by
  refine foldl_keeps _ State.mer (fun s u => ?_) _ s
  split
  · rfl
  · exact State.logEvent_mer _ _ _ _ _ _ _

theorem stopUnits_mer (cyc : Nat) (s : State) (c : Nat) : (stopUnits cyc s c).mer = s.mer :=
  foldl_keeps _ State.mer (fun s _ => by exact s.count_mer _ _ _) _ s

theorem cutDelivery_mer (s : State) (p result state : Nat) : (cutDelivery s p result state).mer = s.mer := by
  unfold cutDelivery
  split
  · exact State.raise_mer _ _ _
  · rfl

/-! ### What a teardown leaves of its parcel (R305) -/

/-- What the job of a parcel is torn down to: no plan, no leg, no work in flight and no remote operation, and a record of
`tick` and `cause`. -/
structure TornDown (P : Parcel) (tick cause : Nat) : Prop where
  legs : P.legs = []
  nextPlan : P.nextPlan = none
  flight : P.flight = []
  out : P.remote.out = []
  queue : P.remote.queue = []
  context : P.ctl.tearingDown = some (if cause = 0x06 then .none else .tornDown)
  record : ∃ sector, P.ctl.teardownRecord = teardownRecord tick cause sector

theorem tornDown_teardown (s : State) (p cause : Nat) (sector : Option Nat) :
    TornDown ((teardown s p cause sector).parcel p) s.now cause := by
  unfold teardown
  extract_lets cyc unit stopped discarded tiles chans flightless ended unitless tileless lineless cut rec' logged
  have hmer : cut.mer = s.mer := calc
    cut.mer = lineless.mer := cutDelivery_mer _ _ _ _
    _ = tileless.mer := foldl_keeps _ State.mer (fun _ _ => by rfl) _ _
    _ = unitless.mer := foldl_keeps _ State.mer (fun _ _ => by rfl) _ _
    _ = ended.mer := foldl_keeps _ State.mer (fun s c => by exact (recordUnits_mer _ p c unit).trans (stopUnits_mer cyc s c)) _ _
    _ = flightless.mer := endSlice_mer _ p
    _ = stopped.mer := discardCommand_mer stopped p
    _ = s.mer := stopParcel_mer s p cyc
  rw [State.parcel_modParcel_self]
  exact ⟨rfl, rfl, rfl, rfl, rfl, rfl, _, congrArg (teardownRecord · cause _) (congrArg Meridian.tick hmer)⟩

theorem fld_teardownRecord_cause {cause : Nat} (tick sector : Nat) (h : cause < 256) :
    fld (teardownRecord tick cause sector).toNat 48 8 = cause := by
  simp only [teardownRecord, fld, BitVec.toNat_ofNat, Nat.shiftRight_eq_div_pow]
  omega

theorem fld_teardownRecord_tick (tick cause sector : Nat) :
    fld (teardownRecord tick cause sector).toNat 0 48 = tick % 2 ^ 48 := by
  simp only [teardownRecord, fld, BitVec.toNat_ofNat, Nat.shiftRight_zero]
  omega

/-! ### The teardown that a fault of the leg brings (Table 12.10) -/

/-- The cause of the teardown: a leg that saves or restores, a unit, or an engine. -/
def faultCause (P : Parcel) : Nat := if inMove P then 0x07 else if (unitPrimary P).isSome then 0x02 else 0x01

theorem faultCause_lt (P : Parcel) : faultCause P < 256 ∧ faultCause P ≠ 0x06 := by
  unfold faultCause
  split
  · decide
  · split <;> decide

theorem tornDown_faultTeardown (s : State) (p : Nat) :
    TornDown ((faultTeardown s p).parcel p) s.now (faultCause (s.parcel p)) := by
  unfold faultTeardown faultCause
  dsimp only
  cases hunit : unitPrimary (s.parcel p) with
  | some u => exact tornDown_teardown _ _ _ _
  | none =>
    cases hprimary : (s.parcel p).primary with
    | some x => exact tornDown_teardown _ _ _ _
    | none => exact tornDown_teardown _ _ _ _

theorem faultCause_markLegFaulted (s : State) (p : Nat) :
    faultCause ((s.markLegFaulted p).parcel p) = faultCause (s.parcel p) := by
  unfold State.markLegFaulted
  rw [State.parcel_modParcel_self]
  cases hlegs : (s.parcel p).legs with
  | nil => rfl
  | cons l ls =>
    have hmove : inMove { s.parcel p with legs := { l with state := .faulted } :: ls } = inMove (s.parcel p) := by
      rw [inMove, inMove, hlegs]
    exact congrArg (fun b : Bool => if b then 0x07 else if (unitPrimary (s.parcel p)).isSome then 0x02 else 0x01) hmove

theorem celuloFaultReport_holds (s : State) (u : UnitId) (p : Nat) (hparcel : s.channelParcel (u / 64) = some p)
    (hhalt : (s.cunit u).halt ≠ .none) (hlive : jobLive (s.parcel p) = true) :
    ∃ s', exec (.celuloFaultReport u) s = .next s' ∧ (s'.parcel p).legs = [] ∧ (s'.parcel p).nextPlan = none ∧
      (s'.parcel p).flight = [] ∧ (s'.parcel p).ctl.tearingDown = some .tornDown ∧ (s'.parcel p).remote.out = [] ∧
      fld (s'.parcel p).ctl.teardownRecord.toNat 48 8 = faultCause (s.parcel p) ∧
      fld (s'.parcel p).ctl.teardownRecord.toNat 0 48 = s.now % 2 ^ 48 := by
  have hexec : exec (.celuloFaultReport u) s = .next (faultTeardown (s.markLegFaulted p) p) := by
    show execCeluloFaultReport u s = _
    unfold execCeluloFaultReport
    rw [hparcel]
    exact if_neg (by simp [hhalt, hlive])
  obtain ⟨hlt, hcause⟩ := faultCause_lt (s.parcel p)
  have hdown := tornDown_faultTeardown (s.markLegFaulted p) p
  rw [faultCause_markLegFaulted] at hdown
  obtain ⟨sector, hrecord⟩ := hdown.record
  refine ⟨_, hexec, hdown.legs, hdown.nextPlan, hdown.flight, ?_, hdown.out, ?_, ?_⟩
  · rw [hdown.context, if_neg hcause]
  · rw [hrecord, fld_teardownRecord_cause _ _ hlt]
  · rw [hrecord]
    exact fld_teardownRecord_tick _ _ _

theorem contextTeardown_holds (s : State) (p : ParcelId) (hfault : s.noFaultYet p = false)
    (hlive : jobLive (s.parcel p) = true) :
    ∃ s', exec (.contextTeardown p) s = .next s' ∧ (s'.parcel p).legs = [] ∧ (s'.parcel p).nextPlan = none ∧
      (s'.parcel p).flight = [] ∧ (s'.parcel p).ctl.tearingDown = some .tornDown ∧ (s'.parcel p).remote.queue = [] ∧
      fld (s'.parcel p).ctl.teardownRecord.toNat 48 8 = faultCause (s.parcel p) ∧
      fld (s'.parcel p).ctl.teardownRecord.toNat 0 48 = s.now % 2 ^ 48 := by
  have hexec : exec (.contextTeardown p) s = .next (faultTeardown s p) := if_neg (by simp [hfault, hlive])
  obtain ⟨hlt, hcause⟩ := faultCause_lt (s.parcel p)
  have hdown := tornDown_faultTeardown s p
  obtain ⟨sector, hrecord⟩ := hdown.record
  refine ⟨_, hexec, hdown.legs, hdown.nextPlan, hdown.flight, ?_, hdown.queue, ?_, ?_⟩
  · rw [hdown.context, if_neg hcause]
  · rw [hrecord, fld_teardownRecord_cause _ _ hlt]
  · rw [hrecord, fld_teardownRecord_tick]

/-! ### The stop of a parcel's engines (R122) -/

theorem stopEngine_runs {E : Engine} (h : engineRuns E = true) : (stopEngine E).mode = .peerHalted := by
  unfold stopEngine
  exact (congrArg Engine.mode (if_pos h)).trans rfl

theorem stopEngine_peerHalted {E : Engine} (h : E.mode = .peerHalted) : (stopEngine E).mode = .peerHalted := by
  unfold stopEngine
  exact (congrArg Engine.mode (if_neg (by simp [engineRuns, h]))).trans h

/-- The state in which a tile's pending ENDs have been counted. -/
theorem stopTile_counts (p cyc : Nat) (s : State) (t : Nat) : ∃ s₁ : State, s₁.tiles = s.tiles ∧ s₁.stack = s.stack ∧
    (s₁.parcel p).legs = (s.parcel p).legs ∧
    stopTile p cyc s t = s₁.modTile t fun T => { T with engines := T.engines.map fun e => (e.1, stopEngine e.2) } := by
  refine ⟨_, ?_, ?_, ?_, rfl⟩
  · exact foldl_keeps _ State.tiles (fun s _ => s.count_tiles _ _ _) _ s
  · exact foldl_keeps _ State.stack (fun s _ => s.count_stack _ _ _) _ s
  · exact foldl_keeps _ (fun s : State => (s.parcel p).legs) (fun s _ => by rw [State.count_parcel]) _ s

theorem stopTile_stack (p cyc : Nat) (s : State) (t : Nat) : (stopTile p cyc s t).stack = s.stack := by
  obtain ⟨s₁, -, hstack, -, h⟩ := stopTile_counts p cyc s t
  rw [h]
  exact hstack

theorem stopTile_legs (p cyc : Nat) (s : State) (t : Nat) :
    ((stopTile p cyc s t).parcel p).legs = (s.parcel p).legs := by
  obtain ⟨s₁, -, -, hlegs, h⟩ := stopTile_counts p cyc s t
  rw [h]
  exact hlegs

theorem stopTile_engine_ne (p cyc : Nat) (s : State) {t i : Nat} (e : Nat) (hi : i ≠ t) :
    (stopTile p cyc s t).engine i e = s.engine i e := by
  obtain ⟨s₁, htiles, -, -, h⟩ := stopTile_counts p cyc s t
  rw [h, engine_congr_tile (State.tile_modTile_ne s₁ _ hi), engine_congr htiles]

/-- Every engine of the tile that is no idle one is stopped. -/
theorem stopTile_engine (p cyc : Nat) (s : State) (t e : Nat) (hused : s.engine t e ≠ Engine.idle) :
    (stopTile p cyc s t).engine t e = stopEngine (s.engine t e) := by
  obtain ⟨s₁, htiles, -, -, h⟩ := stopTile_counts p cyc s t
  rw [← engine_congr htiles] at hused ⊢
  rw [h, State.engine, State.tile_modTile_self, Tab.get, find_map_snd fun _ E => stopEngine E]
  unfold State.engine Tab.get at hused ⊢
  cases hfind : Tab.find (s₁.tile t).engines e with
  | none => rw [hfind] at hused; exact absurd rfl hused
  | some E => rfl

theorem stopTile_peerHalted {p cyc : Nat} {s : State} (t : Nat) {i e : Nat} (h : (s.engine i e).mode = .peerHalted) :
    ((stopTile p cyc s t).engine i e).mode = .peerHalted := by
  by_cases hi : i = t
  · subst hi
    rw [stopTile_engine p cyc s i e fun hidle => by rw [hidle] at h; cases h]
    exact stopEngine_peerHalted h
  · rw [stopTile_engine_ne p cyc s e hi]
    exact h

/-- Stopping tiles stops every engine of theirs that runs. -/
theorem foldl_stopTile_runs {p cyc t e : Nat} {l : List Nat} (ht : t ∈ l) {s : State} (h : engineRuns (s.engine t e) = true) :
    ((l.foldl (stopTile p cyc) s).engine t e).mode = .peerHalted := by
  induction l generalizing s with
  | nil => cases ht
  | cons b l ih =>
    rw [List.foldl_cons]
    by_cases hb : t = b
    · subst hb
      have hstopped : ((stopTile p cyc s t).engine t e).mode = .peerHalted := by
        rw [stopTile_engine p cyc s t e fun hidle => by rw [hidle] at h; cases h]
        exact stopEngine_runs h
      exact List.foldlRecOn (motive := fun s' : State => (s'.engine t e).mode = .peerHalted) l _ hstopped
        fun _ h' b _ => stopTile_peerHalted b h'
    · exact ih ((List.mem_cons.1 ht).resolve_left hb) (by rw [stopTile_engine_ne p cyc s e hb]; exact h)

theorem faultStop_holds (s b : State) (p : ParcelId) (cyc : Nat) (hb : b = s.settle p cyc) (hfault : b.noFaultYet p = false) :
    ∃ s', exec (.faultStop p cyc) s = .next s' ∧ s'.stack = s.stack ∧ (s'.parcel p).legs = (b.parcel p).legs ∧
      ∀ t ∈ b.tilesOf p, ∀ e, engineRuns (b.engine t e) = true → (s'.engine t e).mode = .peerHalted := by
  subst hb
  have hexec : exec (.faultStop p cyc) s = .next (stopParcel (s.settle p cyc) p cyc) := if_neg (by simp [hfault])
  exact ⟨_, hexec, (foldl_keeps _ State.stack (stopTile_stack p cyc) _ _).trans (settle_stack s p cyc),
    foldl_keeps _ (fun s : State => (s.parcel p).legs) (stopTile_legs p cyc) _ _,
    fun t ht e hrun => foldl_stopTile_runs ht hrun⟩

/-- Settles O25: a teardown ends with the parcel's own fields, whatever came before it; a stop meets each of the parcel's
tiles, and an engine that it has halted stays halted. -/
theorem faultsStopAndTearDown : Obligations.FaultsStopAndTearDown :=
  ⟨celuloFaultReport_holds, contextTeardown_holds, faultStop_holds⟩

end Sys2Proof.Proofs.FaultTeardown
end

section
/-! PROOFS. The family of 11_serving.md: the submission rings, their doorbell and the entries that the steward consumes (R266,
R267, R269, R270, R272, R283). -/

namespace Sys2Proof.Proofs.SubmissionRings

open Sys2Proof Sys2Proof.Machine Sys2Proof.Claims

/-! ### A change of a parcel's serving state -/

theorem withinParcel_modServing (s : State) (p : Nat) (f : Serving → Serving) : WithinParcel s (s.modServing p f) p :=
  ⟨rfl, fun _ hq => s.parcel_modParcel_ne _ hq⟩

theorem parcel_modServing_self (s : State) (p : Nat) (f : Serving → Serving) :
    (s.modServing p f).parcel p = { s.parcel p with serving := f (s.parcel p).serving } := s.parcel_modParcel_self p _

theorem serving_modServing (s : State) (p : Nat) (f : Serving → Serving) :
    ((s.modServing p f).parcel p).serving = f (s.parcel p).serving := congrArg Parcel.serving (parcel_modServing_self s p f)

/-- One event counts in the parcel's account (R307). -/
theorem count_one (s : State) (p k : Nat) : s.count (some p) k 1 =
    s.modParcel p fun P => { P with acct := { P.acct with cur := Tab.modify 0 P.acct.cur k (· + 1) } }  := rfl

section served

variable {s s₁ : State} {p : Nat} {V : Serving}

theorem served_modServing (h : Served s s₁ p V) (f : Serving → Serving) : Served s (s₁.modServing p f) p (f V) := by
  obtain ⟨hself, hwithin, hothers⟩ := h
  refine ⟨by rw [parcel_modServing_self, hself], ?_, fun q hq => (s₁.parcel_modParcel_ne _ hq).trans (hothers q hq)⟩
  calc s₁.modServing p f = { s₁ with parcels := (s₁.modServing p f).parcels } := rfl
    _ = { s with parcels := (s₁.modServing p f).parcels } := by rw [hwithin]

theorem serving_of_served (h : Served s s₁ p V) : (s₁.parcel p).serving = V := by rw [h.1]

theorem only_of_served (h : Served s s₁ p V) : s₁ = { s with parcels := s₁.parcels } := h.2.1

theorem now_of_served (h : Served s s₁ p V) : s₁.now = s.now := by rw [only_of_served h]; rfl

theorem ctlKept_of_served (h : Served s s₁ p V) : CtlKept s s₁ := fun q => by
  obtain ⟨hself, -, hothers⟩ := h
  by_cases hq : q = p
  · rw [hq, hself]
  · rw [hothers q hq]

theorem served_refuseEntry (h : Served s s₁ p V) (r reason : Nat) (tag : BitVec 32) :
    Served s (refuseEntry s₁ p r reason tag s₁.now) p (refused V r reason tag s.now) := by
  rw [now_of_served h]
  have hheld := served_modServing h fun V => { V with
    compRings := Tab.modify Ring.init V.compRings r fun R => { R with held := R.held ++ [refusal reason tag s.now] } }
  exact served_modServing hheld fun V => { V with refusedTotal := V.refusedTotal + 1 }

end served

/-! ### The entry at the head of a ring (R266, R267, R270) -/

section entries

variable {s : State} {p r : Nat}

theorem takeEntry_of_mayTake (h : MayTake s p r) :
    ∃ s₁, takeEntry s p r = some s₁ ∧ Served s s₁ p (headTaken (s.parcel p).serving r) := by
  obtain ⟨hjob, hopen, hready, hturn⟩ := h
  refine ⟨_, (if_neg ?_).trans (if_neg ?_), ?_, rfl, fun q hq => ?_⟩
  · simp [hjob, hopen, hready]
  · simpa using hturn
  · rw [count_one, State.parcel_modParcel_self, parcel_modServing_self]
    rfl
  · rw [count_one, State.parcel_modParcel_ne _ _ hq]
    exact s.parcel_modParcel_ne _ hq

/-- An entry of the row's own opcode is consumed: a bad one is refused, and else what the row does is judged in the state in
which the head has been taken. -/
theorem consume_served {op : Nat} {e : BitVec 512} {body : State → State} {W : Serving} (hop : Sub.opcode e = op)
    (h : MayTake s p r) (hbody : ∀ s₁, Served s s₁ p (headTaken (s.parcel p).serving r) → Served s (body s₁) p W) :
    Served s (consume s p r op e body) p
      (if entryBad (s.parcel p).serving e then
        refused (headTaken (s.parcel p).serving r) (Sub.ring e) 0x07 (Sub.tag e) s.now
      else W) := by
  obtain ⟨s₁, htake, hserved⟩ := takeEntry_of_mayTake h
  have hconsume : consume s p r op e body =
      if entryBad (s.parcel p).serving e then refuseEntry s₁ p (Sub.ring e) 0x07 (Sub.tag e) s₁.now else body s₁ := by
    unfold consume
    rw [htake]
    exact if_neg (by simp [hop])
  rw [hconsume]
  split
  · exact served_refuseEntry hserved _ _ _
  · exact hbody s₁ hserved

/-! ### What taking the head leaves of a request's place (R269, R270) -/

variable {s₁ : State}

theorem freeBuffer_of_headTaken (h : Served s s₁ p (headTaken (s.parcel p).serving r)) : freeBuffer s₁ p = freeBuffer s p := by
  simp only [freeBuffer, serving_of_served h, State.sectorCount, State.sectorsOf, ctlKept_of_served h p]
  rfl

theorem slotOk_of_headTaken (h : Served s s₁ p (headTaken (s.parcel p).serving r)) (u k : Nat) :
    slotOk s₁ p u k = slotOk s p u k := by
  have hchannel : ∀ c, s₁.channel c = s.channel c := fun c => by rw [only_of_served h]; rfl
  have hfailed : ∀ c, s₁.channelFailed c = s.channelFailed c := fun c => by rw [only_of_served h]; rfl
  simp only [slotOk, serving_of_served h, State.globalChannel, State.sectorsOf, ctlKept_of_served h p, hchannel, hfailed]
  rfl

theorem fitsAlone_of_headTaken (h : Served s s₁ p (headTaken (s.parcel p).serving r)) (e : BitVec 512) :
    fitsAlone s₁ p e = fitsAlone s p e := by
  have hchart : (s₁.parcel p).chart = (s.parcel p).chart := by rw [h.1]
  have horder : unitOrder s₁ p = unitOrder s p := by
    simp only [unitOrder, State.sectorCount, State.sectorsOf, ctlKept_of_served h p]
  have hslots : ∀ u, unitSlots s₁ p u = unitSlots s p u := fun u => by
    simp only [unitSlots, serving_of_served h, slotOk_of_headTaken h]
    rfl
  have hbudget : s₁.legBudget = s.legBudget := by rw [only_of_served h]; rfl
  simp only [fitsAlone, unitsWithSlots, budgetHolds, hchart, serving_of_served h, horder, hslots, hbudget]
  rfl

theorem takeRequest_served (h : Served s s₁ p (headTaken (s.parcel p).serving r)) (e : BitVec 512) :
    Served s (takeRequest p e s₁) p (entryEffect s p 0x01 e (headTaken (s.parcel p).serving r)) := by
  unfold takeRequest entryEffect
  rw [freeBuffer_of_headTaken h, fitsAlone_of_headTaken h, serving_of_served h]
  cases freeBuffer s p with
  | none => exact h
  | some b =>
    show Served s (if fitsAlone s p e then _ else _) p (if fitsAlone s p e then _ else _)
    split
    · exact served_modServing h _
    · exact served_refuseEntry h _ _ _

theorem noteChange_served (h : Served s s₁ p (headTaken (s.parcel p).serving r)) (op arg : Nat) (e : BitVec 512) :
    Served s (noteChange p op arg e s₁) p { headTaken (s.parcel p).serving r with
      changes := (headTaken (s.parcel p).serving r).changes ++
        [{ opcode := op, tick := s.now, ring := Sub.ring e, hostTag := Sub.tag e, arg := arg }] } := by
  rw [← now_of_served h]
  exact served_modServing h _

end entries

/-! ### The clauses -/

theorem doorbell_holds (s : State) (p : ParcelId) (r : Fin 8) (tail : BitVec 32) (hopen : accessOpen s (.tenant p) = true) :
    ∃ s', exec (.doorbell p r tail) s = .next s' ∧ WithinParcel s s' p ∧
      s'.parcel p = { s.parcel p with serving := { (s.parcel p).serving with
        subRings := Tab.modify Ring.init (s.parcel p).serving.subRings r fun R => { R with tail := tail } } } :=
  ⟨_, if_pos hopen, withinParcel_modServing s p _, parcel_modServing_self s p _⟩

theorem entryRead_holds (s : State) (p : ParcelId) (r : Fin 8) (h : MayTake s p r) :
    ∃ s', exec (.entryRead p r) s = .next s' ∧
      Served s s' p (refused (headTaken (s.parcel p).serving r) r 0x0E 0 s.now) := by
  obtain ⟨s₁, htake, hserved⟩ := takeEntry_of_mayTake h
  refine ⟨_, ?_, served_refuseEntry hserved r 0x0E 0⟩
  show execEntryRead p r s = _
  unfold execEntryRead
  rw [htake]

/-- A row that needs a free prompt buffer consumes its entry where there is one. -/
theorem next_of_freeBuffer {s s' : State} {p : Nat} (h : (freeBuffer s p).isSome = true) :
    (if (freeBuffer s p).isNone then .next s else .next s' : Host.Outcome State Fault Refusal) = .next s' :=
  if_neg (by simpa [Option.isSome_iff_ne_none] using h)

theorem entryRow_holds (s : State) (p : ParcelId) (r : Fin 8) (op : Nat) (e : BitVec 512) (row : Instr)
    (hrow : entryRow op p r e = some row) (hop : Sub.opcode e = op) (h : MayTake s p r)
    (hbuffer : op = 0x01 ∨ op = 0x03 → (freeBuffer s p).isSome = true) :
    ∃ s', exec row s = .next s' ∧
      Served s s' p
        (if entryBad (s.parcel p).serving e then
          refused (headTaken (s.parcel p).serving r) (Sub.ring e) 0x07 (Sub.tag e) s.now
        else entryEffect s p op e (headTaken (s.parcel p).serving r)) := by
  unfold entryRow at hrow
  split at hrow
  case h_8 => cases hrow
  all_goals cases hrow
  case h_1 => exact ⟨_, rfl, consume_served hop h fun _ h₁ => h₁⟩
  case h_2 => exact ⟨_, next_of_freeBuffer (hbuffer (.inl rfl)), consume_served hop h fun _ h₁ => takeRequest_served h₁ e⟩
  case h_3 => exact ⟨_, rfl, consume_served hop h fun _ h₁ => served_modServing h₁ _⟩
  case h_4 => exact ⟨_, next_of_freeBuffer (hbuffer (.inr rfl)), consume_served hop h fun _ h₁ => takeRequest_served h₁ e⟩
  case h_5 => exact ⟨_, rfl, consume_served hop h fun _ h₁ => noteChange_served h₁ 0x04 _ e⟩
  case h_6 => exact ⟨_, rfl, consume_served hop h fun _ h₁ => noteChange_served h₁ 0x05 _ e⟩
  case h_7 => exact ⟨_, rfl, consume_served hop h fun _ h₁ => noteChange_served h₁ 0x06 _ e⟩

/-- Settles O33: each row takes the head of its ring, and what it does then is one change of the serving state. The lowest
free buffer, the wait for one and TOO_LARGE judged with every slot free are the model's choices (log entry 45). -/
theorem submissionEntriesAreConsumed : Obligations.SubmissionEntriesAreConsumed :=
  ⟨doorbell_holds, entryRead_holds, entryRow_holds⟩

end Sys2Proof.Proofs.SubmissionRings
end

section
/-! PROOFS. The family of 11_serving.md: a prompt that is read while a copy channel waits at the channel of its buffer (R191,
R269). -/

namespace Sys2Proof.Proofs.PromptReads

open Sys2Proof Sys2Proof.Machine Sys2Proof.Claims

/-- SUBMIT of 16 prompt tokens, a whole granule, for one generated token. -/
def granuleEntry : BitVec 512 := BitVec.ofNat 512 (1 + 16 * 2 ^ 128 + 2 ^ 148)

/-- A request whose prompt is being read into buffer 0. -/
def reading : PendReq := { raw := granuleEntry, buf := 0, shared := 0, since := none, waited := 0 }

/-- A LOAD of the first granule of channel 0 that waits for its turn there, the only run of its descriptor. -/
def waitingLoad : CopyChan :=
  { CopyChan.idle with
      queue := [{ raw := 0, localBase := 0, farBase := 0, post := none, started := 1, inFlight := 1, landAt := 0 }]
      runs := [{ seq := 0, desc := 0, volatile := false, scratch := 0, channel := 0, offset := 0, len := 64, pos := 0 }] }

/-- A running job on sector 0 whose leg's LOAD waits at the channel in which the prompt buffer lies: the steward's turn there
comes after the copy channel's (R191). -/
def readingBehindLoad : State :=
  { State.reset with
      parcels := [(0, { Parcel.init with
        ctl := { ParcelCtl.init with mask := 1, mode := .sealed, job := .running }
        legs := [{ kind := .decode 0 0, template := 7, batch := [], cost := 1000, state := .running, recompute := false,
                   tick := 1, dumped := false, masked := [], launched := true }]
        serving := { Serving.init with pending := [reading] } })]
      mer := { Meridian.init with started := true, tick := 5 }
      cart := { Cartouche.init with stage := 7, result := 1, keysAlive := true }
      channels := [(0, { Channel.init with trained := true, training := false })]
      tiles := [(0, { Tile.init with engines := [(0, { Engine.idle with chans := [(1, waitingLoad)] })] })]
      vfs := [(0, { VFun.init with present := true, d0 := true })] }

/-- The tokens that the host returns. -/
def granuleTokens : List (BitVec 32) := List.replicate 16 7

/-- The runs of the copy channel. -/
def runsLeft (s : State) : List Run := (s.copyChan 0 0 1).runs

theorem runsLeft_congr {s s' : State} (h : s'.tiles = s.tiles) : runsLeft s' = runsLeft s := by
  simp only [runsLeft, State.copyChan, State.engine, State.tile, h]

/-- The prompt's write gives the LOAD its turn first: its run ends, in the tile's engine. -/
theorem promptReadDone_advancesLoad {s' : State}
    (h : exec (.promptReadDone 0 0 (some granuleTokens)) readingBehindLoad = .next s') : runsLeft s' = [] := by
  have hruns : (match exec (.promptReadDone 0 0 (some granuleTokens)) readingBehindLoad with
      | .next s => runsLeft s
      | _ => runsLeft readingBehindLoad) = [] := by decide +kernel
  rwa [h] at hruns

/-- Refutes O34: the tiles do not stay. The steward writes the prompt in its turn at the buffer's channel, which comes after
those of the copy channels that the rotation puts before it (R191); a LOAD that waits there ends its run in its tile. -/
theorem not_promptsAndCompletions : ¬ Obligations.PromptsAndCompletions := by
  rintro ⟨hread, -, -⟩
  obtain ⟨s', hexec, -, -, htiles⟩ := hread readingBehindLoad 0 0 granuleTokens reading (by decide +kernel)
    (by decide +kernel) (by decide +kernel)
  have hwaits : runsLeft readingBehindLoad ≠ [] := by decide +kernel
  exact hwaits ((runsLeft_congr htiles).symm.trans (promptReadDone_advancesLoad hexec))

end Sys2Proof.Proofs.PromptReads
end

section
/-! PROOFS. The family of 11_serving.md: the mailboxes, the registers of BAR0, factory access and the I3C bus (R266, R441, R443,
R447, R449, R456). -/

namespace Sys2Proof.Proofs.MailboxRegisters

open Sys2Proof Sys2Proof.Machine Sys2Proof.Claims Sys2Proof.Proofs.SubmissionRings

/-! ### A change of one mailbox (R443) -/

section mailboxes

variable (s : State) {p : Nat} (f : Mailbox → Mailbox)

@[simp] theorem vfun_modVf_self (g : VFun → VFun) : vfun (modVf s p g) p = g (vfun s p) := Tab.get_set_self _ _ _ _

theorem vfun_modVf_ne {q : Nat} (g : VFun → VFun) (h : q ≠ p) : vfun (modVf s p g) q = vfun s q := Tab.get_set_ne _ _ _ h

@[simp] theorem mailbox_modMailbox_self : mailbox (modMailbox s p f) p = f (mailbox s p) :=
  congrArg VFun.mailbox (vfun_modVf_self s fun v => { v with mailbox := f v.mailbox })

theorem messageType_modMailbox (h : (f (mailbox s p)).request = (mailbox s p).request) :
    messageType (modMailbox s p f) p = messageType s p := by
  unfold messageType
  rw [mailbox_modMailbox_self, h]

end mailboxes

/-! ### The message in a mailbox (R443) -/

section messages

variable {s : State}

theorem mailboxOf_add {p : Nat} (h : p < 16) : mailboxOf (32 + p) = some p := by
  rw [mailboxOf, if_pos (by simp; omega), Nat.add_sub_cancel_left]

/-- Whatever a Legend message asks for, the last thing is its answer. -/
theorem mailboxLegend_answers (s : State) (p : Nat) (msg : List Byte) :
    ∃ s₁ op reqId index sub st ticket offset data,
      mailboxLegend s p msg = respondLegend s₁ (32 + p) op reqId index sub st ticket offset data := by
  unfold mailboxLegend
  dsimp only
  split
  · exact ⟨_, _, _, _, _, _, _, _, _, rfl⟩
  · split
    · exact ⟨_, _, _, _, _, _, _, _, _, rfl⟩
    · split <;> exact ⟨_, _, _, _, _, _, _, _, _, rfl⟩
    · exact ⟨_, _, _, _, _, _, _, _, _, rfl⟩
    · split <;> exact ⟨_, _, _, _, _, _, _, _, _, rfl⟩
    · exact ⟨_, _, _, _, _, _, _, _, _, rfl⟩

/-- The response of a mailbox is ready, and it holds no request. -/
theorem mailbox_mailboxAnswer (s : State) (p : Nat) (bytes : List Byte) :
    (mailbox (mailboxAnswer s p bytes) p).ready = true ∧ (mailbox (mailboxAnswer s p bytes) p).busy = false := by
  unfold mailboxAnswer mailbox vfun
  rw [State.raise_vfs]
  simp

theorem mailboxServe_legend {p : Nat} (hp : p < 16) (h : messageType s p = 0x7E) :
    (mailbox (mailboxServe s p) p).ready = true ∧ (mailbox (mailboxServe s p) p).busy = false := by
  have hserve : mailboxServe s p = mailboxLegend s p (Mem.readBytes (mailbox s p).request 0 (mailbox s p).reqLen) := if_pos h
  obtain ⟨s₁, op, reqId, index, sub, st, ticket, offset, data, hanswer⟩ :=
    mailboxLegend_answers s p (Mem.readBytes (mailbox s p).request 0 (mailbox s p).reqLen)
  rw [hserve, hanswer, respondLegend, mailboxOf_add hp]
  exact mailbox_mailboxAnswer _ p _

theorem mailboxServe_spdm {p : Nat} (h : messageType s p = 0x05 ∨ messageType s p = 0x06) : mailboxServe s p = s :=
  (if_neg (show messageType s p ≠ 0x7E by omega)).trans (if_pos (by simpa [messageType, mailbox] using h))

theorem mailboxServe_other {p : Nat} (hlegend : messageType s p ≠ 0x7E)
    (hspdm : ¬(messageType s p = 0x05 ∨ messageType s p = 0x06)) :
    mailboxServe s p = modMailbox s p fun B => { B with busy := false, error := true } :=
  (if_neg hlegend).trans (if_neg (by simpa [messageType, mailbox] using hspdm))

/-! ### Accesses to BAR0 (R447, R449) -/

theorem onBar_open {fn offset size : Nat} {tee : Bool} (hopen : functionOpen s fn tee = true) (hsize : size = 4 ∨ size = 8)
    (halign : offset % size = 0) (f : State → State) : onBar s fn offset size tee f = f s :=
  if_pos (by simp [hopen, hsize, halign])

theorem onBar_unsupported {fn offset size : Nat} {tee : Bool} (hthere : functionThere s fn = true)
    (h : ¬(functionOpen s fn tee = true ∧ (size = 4 ∨ size = 8) ∧ offset % size = 0)) (f : State → State) :
    onBar s fn offset size tee f = s.send (.unsupported fn) :=
  (if_neg (by simpa [and_assoc] using h)).trans (if_pos hthere)

/-! ### The doorbell and the acknowledgement of a mailbox (R443) -/

theorem mbDoorbell_holds (s : State) (p : ParcelId) (n : BitVec 32) (hopen : functionOpen s (1 + p) true = true) :
    ∃ s', exec (.mbDoorbell p n) s = .next s' ∧
      if (mailbox s p).busy = true then s' = modMailbox s p fun B => { B with overrun := true }
      else if n = 0 ∨ 4096 < n.toNat then s' = modMailbox s p fun B => { B with error := true }
      else if (mailbox s p).ready = true ∨ messageType s p = 0x05 ∨ messageType s p = 0x06 then
        s' = modMailbox s p fun B => { B with busy := true, reqLen := n.toNat }
      else if messageType s p = 0x7E then (mailbox s' p).ready = true ∧ (mailbox s' p).busy = false
      else (mailbox s' p).error = true ∧ (mailbox s' p).busy = false ∧ s'.sent = s.sent := by
  let taken := modMailbox s p fun B => { B with busy := true, reqLen := n.toNat }
  have htype : messageType taken p = messageType s p := messageType_modMailbox s _ rfl
  have hzero : n = 0 ↔ n.toNat = 0 := (BitVec.toNat_eq (y := 0)).trans (by simp)
  have hdoorbell : doorbell s p n.toNat =
      if (mailbox s p).busy = true then modMailbox s p fun B => { B with overrun := true }
      else if n = 0 ∨ 4096 < n.toNat then modMailbox s p fun B => { B with error := true }
      else if (mailbox s p).ready = true then taken else mailboxServe taken p := by
    simp only [doorbell, hzero, Bool.or_eq_true, decide_eq_true_eq]
    rfl
  refine ⟨_, congrArg Host.Outcome.next (onBar_open hopen (.inl rfl) rfl _), ?_⟩
  rw [hdoorbell]
  split
  · rfl
  · split
    · rfl
    · by_cases hready : (mailbox s p).ready = true
      · rw [if_pos hready, if_pos (.inl hready)]
      · rw [if_neg hready]
        by_cases hspdm : messageType s p = 0x05 ∨ messageType s p = 0x06
        · rw [if_pos (.inr hspdm)]
          exact mailboxServe_spdm (by rwa [htype])
        · rw [if_neg (not_or.2 ⟨hready, hspdm⟩)]
          by_cases hlegend : messageType s p = 0x7E
          · rw [if_pos hlegend]
            exact mailboxServe_legend p.isLt (by rwa [htype])
          · rw [if_neg hlegend, mailboxServe_other (by rwa [htype]) (by rwa [htype]), mailbox_modMailbox_self]
            exact ⟨rfl, rfl, rfl⟩

theorem mbAck_holds (s : State) (p : ParcelId) (hopen : functionOpen s (1 + p) true = true)
    (h : (mailbox s p).busy = false ∨ (mailbox s p).ready = false ∨ messageType s p = 0x05 ∨ messageType s p = 0x06) :
    ∃ s', exec (.mbAck p 1) s = .next s' ∧
      mailbox s' p = { mailbox s p with
        ready := false
        error := false
        overrun := false
        response := []
        len := 0 } ∧
      (∀ q, q ≠ p.val → vfun s' q = vfun s q) ∧ s' = { s with vfs := s'.vfs } := by
  let freed := modMailbox s p fun B => { B with
    ready := false
    error := false
    overrun := false
    response := []
    len := 0 }
  have htype : messageType freed p = messageType s p := messageType_modMailbox s _ rfl
  have hack : mailboxAck s p 1 = if ((mailbox s p).busy && (mailbox s p).ready) = true then mailboxServe freed p else freed := rfl
  have hfreed : mailboxAck s p 1 = freed := by
    rw [hack]
    split
    next hwaits =>
      obtain ⟨hbusy, hready⟩ := Bool.and_eq_true_iff.1 hwaits
      refine mailboxServe_spdm ?_
      rw [htype]
      simpa [hbusy, hready] using h
    next => rfl
  exact ⟨freed, congrArg Host.Outcome.next ((onBar_open hopen (.inl rfl) rfl _).trans hfreed), mailbox_modMailbox_self s _,
    fun _ hq => vfun_modVf_ne s _ hq, rfl⟩

end messages

/-! ### The registers of the rings and of the request buffer (R266, R449) -/

section registers

variable (s : State) (p : Nat) {r o : Nat} (v : Nat)

theorem vfWrite_subRing (hr : r < 8) (ho : o < 0x40) : vfWrite s p (0x1000 + 0x40 * r + o) 4 v =
    s.modServing p fun V => { V with subRings := Tab.modify Ring.init V.subRings r fun R => writeRing R true o 4 v } := by
  have hplace : (0x1000 + 0x40 * r + o - 0x1000) / 0x40 = r ∧ (0x1000 + 0x40 * r + o) % 0x40 = o := by omega
  rw [vfWrite, if_pos (by simp; omega), hplace.1, hplace.2]

theorem vfWrite_compRing (hr : r < 8) (ho : o < 0x40) : vfWrite s p (0x1200 + 0x40 * r + o) 4 v =
    s.modServing p fun V => { V with compRings := Tab.modify Ring.init V.compRings r fun R => writeRing R false o 4 v } := by
  have hplace : (0x1200 + 0x40 * r + o - 0x1200) / 0x40 = r ∧ (0x1200 + 0x40 * r + o) % 0x40 = o := by omega
  rw [vfWrite, if_neg (by simp; omega), if_pos (by simp; omega), hplace.1, hplace.2]

theorem vfWrite_request (ho : o < 4096) : vfWrite s p (0x3000 + o) 4 v =
    modMailbox s p fun B => { B with request := Mem.writeBytes B.request o (bytesOfNat v 4) } := by
  rw [vfWrite, if_neg (by simp; omega), if_neg (by simp; omega), if_neg (by omega), if_neg (by omega), if_pos (by simp; omega),
    Nat.add_sub_cancel_left]
  rfl

variable {s v}

/-- A write of 4 bytes, aligned, to a virtual function that takes it. -/
theorem registerWrite_open {offset : Nat} {tee : Bool} (hopen : functionOpen s (1 + p) tee = true) (halign : offset % 4 = 0)
    (hv : v < 2 ^ 32) : exec (.registerWrite (1 + p) offset 4 v tee) s = .next (vfWrite s p offset 4 v) := by
  show Host.Outcome.next (onBar s (1 + p) offset 4 tee fun s =>
    let v := v % 2 ^ (8 * 4)
    if 1 + p = 0 then slotAt s 0 offset 4 v else vfWrite s (1 + p - 1) offset 4 v) = _
  rw [onBar_open hopen (.inl rfl) halign]
  dsimp only
  rw [if_neg (by omega), Nat.add_sub_cancel_left, Nat.mod_eq_of_lt hv]

end registers

theorem registerWrite_holds (s : State) (p : ParcelId) (r : Fin 8) (v : Nat) (tee : Bool)
    (hopen : functionOpen s (1 + p) tee = true) (hv : v < 2 ^ 32) :
    (∃ s', exec (.registerWrite (1 + p) (0x1000 + 0x40 * r + 0x18) 4 v tee) s = .next s' ∧ WithinParcel s s' p ∧
      (s'.parcel p).serving = { (s.parcel p).serving with
        subRings := Tab.modify Ring.init (s.parcel p).serving.subRings r fun R => { R with tail := BitVec.ofNat 32 v } }) ∧
    (∃ s', exec (.registerWrite (1 + p) (0x1200 + 0x40 * r + 0x0C) 4 v tee) s = .next s' ∧ WithinParcel s s' p ∧
      (s'.parcel p).serving = { (s.parcel p).serving with
        compRings := Tab.modify Ring.init (s.parcel p).serving.compRings r fun R => { R with enable := bitAt v 0 } }) ∧
    (∃ s', exec (.registerWrite (1 + p) (0x1200 + 0x40 * r + 0x1C) 4 v tee) s = .next s' ∧ WithinParcel s s' p ∧
      (s'.parcel p).serving = { (s.parcel p).serving with
        compRings := Tab.modify Ring.init (s.parcel p).serving.compRings r
          fun R => { R with intModeration := BitVec.ofNat 16 v } }) ∧
    (∀ o, o < 4096 → o % 4 = 0 →
      ∃ s', exec (.registerWrite (1 + p) (0x3000 + o) 4 v tee) s = .next s' ∧
        mailbox s' p = { mailbox s p with request := Mem.writeBytes (mailbox s p).request o (bytesOfNat v 4) } ∧
        s' = { s with vfs := s'.vfs }) := by
  refine ⟨⟨_, registerWrite_open _ hopen (by omega) hv, ?_⟩, ⟨_, registerWrite_open _ hopen (by omega) hv, ?_⟩,
    ⟨_, registerWrite_open _ hopen (by omega) hv, ?_⟩,
    fun o ho halign => ⟨_, registerWrite_open _ hopen (by omega) hv, ?_⟩⟩
  · rw [vfWrite_subRing s p v r.isLt (by decide)]
    exact ⟨withinParcel_modServing s p _, serving_modServing s p _⟩
  · rw [vfWrite_compRing s p v r.isLt (by decide)]
    exact ⟨withinParcel_modServing s p _, serving_modServing s p _⟩
  · rw [vfWrite_compRing s p v r.isLt (by decide)]
    exact ⟨withinParcel_modServing s p _, serving_modServing s p _⟩
  · rw [vfWrite_request s p v ho]
    exact ⟨mailbox_modMailbox_self s _, rfl⟩

theorem registerWrite_unsupported (s : State) (fn offset size v : Nat) (tee : Bool) (hthere : functionThere s fn = true)
    (h : ¬(functionOpen s fn tee = true ∧ (size = 4 ∨ size = 8) ∧ offset % size = 0)) :
    ∃ s', exec (.registerWrite fn offset size v tee) s = .next s' ∧ s' = { s with sent := s.sent ++ [.unsupported fn] } :=
  ⟨_, congrArg Host.Outcome.next (onBar_unsupported hthere h _), rfl⟩

/-! ### Factory access and the I3C bus (R441, R456) -/

/-- What FACTORY_AUTH writes on I3C is answered as it is: no crossing lies before its object. -/
theorem factoryAuth_answers {s : State} (hopen : legendOpen s 2 = true) (token : Option FactoryToken) :
    exec (.factoryAuth 2 token) s =
      .next ((setFactoryAuth s 2 token).2.send (.status .operator 0x1020 0x04 (setFactoryAuth s 2 token).1)) := by
  have hreleased : isReleased s = true := by
    simp only [legendOpen, Bool.and_eq_true] at hopen
    obtain ⟨⟨hreleased, -⟩, -⟩ := hopen
    exact hreleased
  have hcrossed : crossed 0x1020 s (setFactoryAuth s 2 token) = setFactoryAuth s 2 token := rfl
  have haccess : accessOpen s .operator = true := (Bool.and_true _).trans hreleased
  refine (if_pos (by rw [hopen]; rfl)).trans ?_
  rw [answer, hcrossed]
  exact if_pos haccess

theorem factoryAuth_token (s : State) (t : FactoryToken) (hopen : legendOpen s 2 = true) (hsigned : t.signed = true)
    (hepoch : t.epoch = s.cart.aliasEpoch) (hexpiry : s.now < t.expiry) :
    ∃ s', exec (.factoryAuth 2 (some t)) s = .next s' ∧
      if t.serial = Config.moduleSerial then
        s' = { s with
          legend := { s.legend with factory := some t.expiry }
          sent := s.sent ++ [.status .operator 0x1020 0x04 .ok] }
      else NoEffect s s' .operator 0x1020 0x04 .refused := by
  refine ⟨_, factoryAuth_answers hopen (some t), ?_⟩
  split
  next hserial =>
    have hset : setFactoryAuth s 2 (some t) = put { s with legend := { s.legend with factory := some t.expiry } } :=
      if_pos (by simp [hsigned, hserial, hepoch, hexpiry])
    rw [hset]
    rfl
  next hserial =>
    have hset : setFactoryAuth s 2 (some t) = refuse s := if_neg (by simp [hserial])
    rw [hset]
    rfl

theorem factoryAuth_empty (s : State) (hopen : legendOpen s 2 = true) :
    ∃ s', exec (.factoryAuth 2 none) s = .next s' ∧
      s' = { s with
        legend := { s.legend with factory := none }
        sent := s.sent ++ [.status .operator 0x1020 0x04 .ok] } :=
  ⟨_, factoryAuth_answers hopen none, rfl⟩

theorem entdaa_holds (s : State) (a : Nat) (hsupply : s.supply.v3p3 = true) (hreset : s.supply.inReset = false) (hpos : 0 < a)
    (hlt : a < 128) : ∃ s', exec (.entdaa a) s = .next s' ∧ s' = { s with legend := { s.legend with i3cAddress := a } } :=
  ⟨_, if_neg (by simp [hsupply, hreset]; omega), rfl⟩

theorem privateRead_holds (s : State) (hsupply : s.supply.v3p3 = true) (hreset : s.supply.inReset = false)
    (haddress : s.legend.i3cAddress ≠ 0) :
    ∃ s', exec .privateRead s = .next s' ∧
      s' = { s with sent := s.sent ++
        [.i3c (if isReleased s then none else some (bytesOfNat (cartNat s.cart 1) 4))] } := by
  refine ⟨_, ?_, rfl⟩
  refine (if_neg (by simp [hsupply, hreset, haddress])).trans ?_
  split <;> rfl

/-- Settles O54: a mailbox's doorbell and acknowledgement change that mailbox, and a Legend message ends with its answer; each
register write is one change of a ring or of the request buffer. How held and overrun requests, tokens and the bus are handled
are the model's choices (log entries 66 and 70). -/
theorem mailboxesRegistersAndBus : Obligations.MailboxesRegistersAndBus :=
  ⟨mbDoorbell_holds, mbAck_holds, registerWrite_holds, registerWrite_unsupported, factoryAuth_token, factoryAuth_empty,
    entdaa_holds, privateRead_holds⟩

end Sys2Proof.Proofs.MailboxRegisters
end

section
/-! PROOFS. The family of 12_parcels.md: what a teardown leaves alone (R305). -/

namespace Sys2Proof.Proofs.TeardownFrame

open Sys2Proof Sys2Proof.Machine

/-- The two states agree on everything but what a teardown touches. -/
def TeardownOnly (s s' : State) : Prop :=
  s' = { s with tiles := s'.tiles, channels := s'.channels, units := s'.units, posts := s'.posts, launches := s'.launches,
                parcels := s'.parcels, sectors := s'.sectors, lines := s'.lines, log := s'.log, irq := s'.irq, fresh := s'.fresh }

theorem TeardownOnly.refl (s : State) : TeardownOnly s s := Eq.refl s

theorem TeardownOnly.trans {s s' s'' : State} (h : TeardownOnly s s') (h' : TeardownOnly s' s'') : TeardownOnly s s'' := by
  unfold TeardownOnly at *
  rw [h', h]

theorem TeardownOnly.of_workOnly {s s' : State} (h : WorkOnly s s') : TeardownOnly s s' := by
  unfold TeardownOnly
  rw [h]

theorem TeardownOnly.sent {s s' : State} (h : TeardownOnly s s') : s'.sent = s.sent := by rw [h]

theorem TeardownOnly.mer {s s' : State} (h : TeardownOnly s s') : s'.mer = s.mer := by rw [h]

theorem teardownOnly_foldl {β : Type} {f : State → β → State} (h : ∀ s b, TeardownOnly s (f s b)) (l : List β)
    (s : State) : TeardownOnly s (l.foldl f s) :=
  List.foldlRecOn (motive := fun s' => TeardownOnly s s') l f (.refl s) fun _ hs b _ => hs.trans (h _ b)

theorem teardownOnly_modParcel (s : State) (p : Nat) (f : Parcel → Parcel) : TeardownOnly s (s.modParcel p f) := Eq.refl _

theorem teardownOnly_modChannel (s : State) (c : Nat) (f : Channel → Channel) : TeardownOnly s (s.modChannel c f) := Eq.refl _

theorem teardownOnly_modTile (s : State) (t : Nat) (f : Tile → Tile) : TeardownOnly s (s.modTile t f) := Eq.refl _

theorem teardownOnly_raise (s : State) (fn vec : Nat) : TeardownOnly s (s.raise fn vec) := by
  obtain ⟨i, h⟩ := s.raise_only fn vec
  rw [TeardownOnly, h]

theorem teardownOnly_logEvent (s : State) (a b c : Nat) (p : Option Nat) (d e : Nat) :
    TeardownOnly s (s.logEvent a b c p d e) := by
  obtain ⟨l, i, h⟩ := s.logEvent_only a b c p d e
  rw [TeardownOnly, h]

theorem teardownOnly_count (s : State) (p : Option Nat) (k n : Nat) : TeardownOnly s (s.count p k n) :=
  .of_workOnly (workOnly_count s p k n)

theorem teardownOnly_stopParcel (s : State) (p cyc : Nat) : TeardownOnly s (stopParcel s p cyc) := by
  refine teardownOnly_foldl (fun s t => ?_) _ s
  exact (teardownOnly_foldl (fun s _ => by exact teardownOnly_count s _ _ _) _ s).trans (Eq.refl _)

theorem teardownOnly_outcome (s : State) (p o : Nat) : TeardownOnly s (outcome s p o) :=
  (teardownOnly_modParcel s p _).trans (teardownOnly_raise _ _ _)

theorem teardownOnly_discardCommand (s : State) (p : Nat) : TeardownOnly s (discardCommand s p) := by
  have hclear : TeardownOnly s (s.modCtl p fun k => { k with held := none, sampled := 0 }) := Eq.refl _
  unfold discardCommand outcomeSampled
  dsimp only
  split
  · exact hclear.trans (teardownOnly_outcome _ _ _)
  split
  · split
    · exact hclear.trans (teardownOnly_outcome _ _ _)
    · exact hclear
  · exact hclear

theorem teardownOnly_enqueuePages (tick : Nat) (l : List (Nat × Nat)) (s : State) :
    TeardownOnly s (enqueuePages tick s l).1 := by
  induction l generalizing s with
  | nil => exact .refl s
  | cons x l ih =>
    obtain ⟨c, g⟩ := x
    rw [enqueuePages]
    cases hq : enqueueClear s c g tick with
    | none => exact ih s
    | some s' =>
      rw [enqueueClear] at hq
      split at hq
      · rw [← Option.some.inj hq]
        exact (teardownOnly_modChannel s c _).trans (ih _)
      · cases hq

theorem teardownOnly_freeColumns (s : State) (p tick : Nat) (cols : List Nat) :
    TeardownOnly s (freeColumns s p tick cols) := by
  unfold freeColumns
  split
  · refine teardownOnly_foldl (fun s c => ?_) _ s
    exact (teardownOnly_enqueuePages tick (columnPages s p c) s).trans (teardownOnly_modParcel _ p _)
  · exact .refl s

theorem teardownOnly_complete (s : State) (p r : Nat) (c : Comp) : TeardownOnly s (complete s p r c) := Eq.refl _

theorem teardownOnly_refuseEntry (s : State) (p r reason : Nat) (tag : BitVec 32) (tick : Nat) :
    TeardownOnly s (refuseEntry s p r reason tag tick) := Eq.refl _

theorem teardownOnly_endSlice (s : State) (p : Nat) : TeardownOnly s (endSlice s p) := by
  unfold endSlice
  extract_lets V completed refused freed
  have hcompleted : TeardownOnly s completed := teardownOnly_foldl (fun s g => by
    dsimp only
    split
    · exact teardownOnly_complete _ _ _ _
    split
    · exact .refl s
    · exact teardownOnly_complete _ _ _ _) _ s
  have hrefused : TeardownOnly completed refused :=
    teardownOnly_foldl (fun s _ => by exact teardownOnly_refuseEntry s _ _ _ _ _) _ _
  have hfreed : TeardownOnly refused freed := teardownOnly_foldl (fun s _ => teardownOnly_freeColumns s p s.now _) _ _
  exact ((hcompleted.trans hrefused).trans hfreed).trans (teardownOnly_modParcel _ _ _)

theorem teardownOnly_recordUnits (s : State) (p c : Nat) (primary : Option Nat) :
    TeardownOnly s (recordUnits s p c primary) := by
  refine teardownOnly_foldl (fun s u => ?_) _ s
  split
  · exact .refl s
  · exact (teardownOnly_modChannel s c _).trans (teardownOnly_logEvent _ _ _ _ _ _ _)

theorem teardownOnly_stopUnits (cyc : Nat) (s : State) (c : Nat) : TeardownOnly s (stopUnits cyc s c) :=
  teardownOnly_foldl (fun s _ => by exact (teardownOnly_count s _ _ _).trans (Eq.refl _)) _ s

theorem teardownOnly_cutDelivery (s : State) (p result state : Nat) : TeardownOnly s (cutDelivery s p result state) := by
  unfold cutDelivery
  split
  · exact (teardownOnly_modParcel s p _).trans (teardownOnly_raise _ _ _)
  · exact .refl s

theorem teardownOnly_teardown (s : State) (p cause : Nat) (sector : Option Nat) :
    TeardownOnly s (teardown s p cause sector) := by
  unfold teardown
  extract_lets cyc unit stopped discarded tiles chans flightless ended unitless tileless lineless cut rec' logged
  have hlogged : TeardownOnly cut logged := by
    show TeardownOnly cut (if cause = 6 then cut else _)
    split
    · exact .refl cut
    · exact teardownOnly_logEvent _ _ _ _ _ _ _
  have hunits : TeardownOnly ended unitless := teardownOnly_foldl (fun s c => by
    exact ((teardownOnly_stopUnits cyc s c).trans (teardownOnly_recordUnits _ p c unit)).trans (Eq.refl _)) _ _
  have hsectors : TeardownOnly tileless lineless := teardownOnly_foldl (fun _ _ => by exact Eq.refl _) _ _
  have htiles : TeardownOnly unitless tileless := teardownOnly_foldl (fun s t => teardownOnly_modTile s t clearTile) _ _
  have hflight : TeardownOnly discarded flightless := Eq.refl _
  have hslice : TeardownOnly s ended :=
    (((teardownOnly_stopParcel s p cyc).trans (teardownOnly_discardCommand stopped p)).trans hflight).trans
      (teardownOnly_endSlice flightless p)
  exact ((((hslice.trans hunits).trans htiles).trans hsectors).trans (teardownOnly_cutDelivery lineless p 0x09 5)).trans
    (hlogged.trans (teardownOnly_modParcel _ _ _))

end Sys2Proof.Proofs.TeardownFrame
end

section
/-! PROOFS. The family of 12_parcels.md: the commands of JOB_CONTROL, written and sampled (R294, R302, R305, R306,
R426). -/

namespace Sys2Proof.Proofs.JobControl

open Sys2Proof Sys2Proof.Machine Sys2Proof.Claims Sys2Proof.Proofs.FaultTeardown Sys2Proof.Proofs.TeardownFrame

/-! ### A change of one parcel's control state -/

section control

variable (s : State) (p : Nat)

@[simp] theorem parcel_modCtl_self (f : ParcelCtl → ParcelCtl) :
    (s.modCtl p f).parcel p = { s.parcel p with ctl := f (s.parcel p).ctl } := s.parcel_modParcel_self p _

theorem parcel_modCtl_ne {q : Nat} (f : ParcelCtl → ParcelCtl) (h : q ≠ p) : (s.modCtl p f).parcel q = s.parcel q :=
  s.parcel_modParcel_ne _ h

theorem withinParcelIrq_modCtl (f : ParcelCtl → ParcelCtl) : WithinParcelIrq s (s.modCtl p f) p :=
  ⟨rfl, fun _ hq => parcel_modCtl_ne s p f hq⟩

/-- An outcome is recorded in the parcel's control state with TICK. -/
@[simp] theorem parcel_outcome_self (o : Nat) : (outcome s p o).parcel p =
    { s.parcel p with ctl := { (s.parcel p).ctl with resultOutcome := o, resultTick := s.now } } :=
  calc (outcome s p o).parcel p
    _ = (s.modCtl p fun k => { k with resultOutcome := o, resultTick := s.now }).parcel p := by
        rw [State.parcel, outcome, State.raise_parcels]; rfl
    _ = _ := parcel_modCtl_self s p _

variable {s p}

theorem withinParcelIrq_trans {s₁ s₂ : State} (h : WithinParcelIrq s s₁ p) (h' : WithinParcelIrq s₁ s₂ p) :
    WithinParcelIrq s s₂ p :=
  ⟨by rw [h'.1, h.1], fun q hq => (h'.2 q hq).trans (h.2 q hq)⟩

theorem withinParcelIrq_outcome (o : Nat) : WithinParcelIrq s (outcome s p o) p := by
  refine withinParcelIrq_trans (withinParcelIrq_modCtl s p fun k => { k with resultOutcome := o, resultTick := s.now }) ?_
  obtain ⟨i, h⟩ := (s.modCtl p fun k => { k with resultOutcome := o, resultTick := s.now }).raise_only 0 2
  rw [outcome, h]
  exact ⟨rfl, fun _ _ => rfl⟩

end control

/-! ### COMMAND_SAMPLE (R294, R302, R426) -/

/-- The held command of code `c` leaves parcel `p`: refused with its outcome, pending as a preemption, or sampled. -/
def sampleHeld (s : State) (p : Nat) (c : BitVec 8) : State :=
  let taken := s.modCtl p fun k => { k with held := none }
  if sampleOutcome s (s.parcel p) c ≠ 0 then outcome taken p (sampleOutcome s (s.parcel p) c)
  else if c = 0x10 then
    (taken.modPTick p fun x => { x with preemptPending := true }).modCtl p fun k => { k with sampledLast := true }
  else taken.modCtl p fun k => { k with sampled := c, sampledLast := true }

theorem isPreempt_iff (c : BitVec 8) : c.toNat = 0x10 ↔ c = 0x10 := by rw [← BitVec.toNat_inj]; rfl

/-- The commands that a thermal stop forbids, told by their codes (R426). -/
theorem thermalForbids_eq (stopped : Bool) (c : BitVec 8) :
    (stopped && (c.toNat = 0x01 || c.toNat = 0x02 || c.toNat = 0x11)) =
      decide (stopped = true ∧ (c = 0x01 ∨ c = 0x02 ∨ c = 0x11)) := by
  simp [← BitVec.toNat_inj, Bool.or_assoc]

theorem commandSample_of_held {s : State} {p : ParcelId} {c : BitVec 8} (h : (s.parcel p).ctl.held = some c) :
    exec (.commandSample p) s = .next (sampleHeld s p c) := by
  show execCommandSample p s = _
  unfold execCommandSample sampleHeld sampleOutcome
  dsimp only
  rw [h]
  dsimp only
  cases commandListed c.toNat
  case false => rfl
  cases principalFits (s.parcel p).ctl.heldBy c.toNat
  case false => rfl
  cases commandValid (s.parcel p) c.toNat
  case false => rfl
  simp only [State.modCtl_thermal, thermalForbids_eq, isPreempt_iff, decide_eq_true_eq]
  by_cases hstop : s.thermal.stopped = true ∧ (c = 0x01 ∨ c = 0x02 ∨ c = 0x11)
  · rw [if_pos hstop, if_pos hstop]
    rfl
  · rw [if_neg hstop, if_neg hstop]
    exact (apply_ite Host.Outcome.next _ _ _).symm

theorem withinParcelIrq_sampleHeld (s : State) (p : Nat) (c : BitVec 8) : WithinParcelIrq s (sampleHeld s p c) p := by
  refine withinParcelIrq_trans (withinParcelIrq_modCtl s p fun k => { k with held := none }) ?_
  unfold sampleHeld
  dsimp only
  split
  · exact withinParcelIrq_outcome _
  split
  · exact ⟨rfl, fun q hq => (parcel_modCtl_ne _ _ _ hq).trans (State.parcel_modParcel_ne _ _ hq)⟩
  · exact withinParcelIrq_modCtl _ _ _

/-- Settles O30: the held command is taken, and one change of the parcel follows. The order in which the reasons are tested is
the model's choice (log entry 38). -/
theorem commandIsSampled : Obligations.CommandIsSampled := by
  intro s p c hheld
  refine ⟨_, commandSample_of_held hheld, withinParcelIrq_sampleHeld s p c, ?_⟩
  unfold sampleHeld
  dsimp only
  split
  · rw [parcel_outcome_self, parcel_modCtl_self]
    exact ⟨rfl, rfl, rfl⟩
  split
  · rw [parcel_modCtl_self, State.modPTick, State.parcel_modParcel_self, parcel_modCtl_self]
    exact ⟨rfl, rfl, rfl⟩
  · rw [parcel_modCtl_self, parcel_modCtl_self]
    exact ⟨rfl, rfl, rfl⟩

/-! ### JOB_CONTROL (R294, R305, R306) -/

/-- A write to an object that the device takes is answered with the status that the object's rule gives. -/
theorem answer_of_answers {s : State} {who : Principal} {index : Nat} (sub : Nat) (w : Written) (h : Answers s who index) :
    answer who index sub s w = .next (w.2.send (.status who index sub w.1)) := by
  obtain ⟨hopen, hcut⟩ := h
  have hcrossed : crossed index s w = w := by rw [crossed, hcut]
  rw [answer, hcrossed]
  exact if_pos hopen

theorem exec_jobRow {code : Nat} {who : Principal} {p : ParcelId} {row : Instr} (h : jobRow code who p = some row) (s : State) :
    exec row s = jobCommand who p code s ∧ code < 2 ^ 8 := by
  unfold jobRow at h
  split at h
  case h_9 => cases h
  all_goals (cases h; exact ⟨rfl, by decide⟩)

/-- The command of `code` has been written: the last command is this one, and nothing of an earlier one is sampled as the last. -/
def commandWritten (s : State) (p code : Nat) : State :=
  s.modCtl p fun k => { k with resultCommand := BitVec.ofNat 8 code, sampledLast := false }

/-- The command is held for its principal, in place of one held before. -/
def commandHeld (s : State) (who : Principal) (p code : Nat) : State :=
  (commandWritten s p code).modCtl p fun k => { k with held := some (BitVec.ofNat 8 code), heldBy := who }

/-- The cause of Table 12.10 of a teardown by ABORT, and else by STOP. -/
def commandCause (code : Nat) : Nat := if code = 0x04 then 0x05 else 0x04

theorem commandCause_lt (code : Nat) : commandCause code < 256 ∧ commandCause code ≠ 0x06 := by
  unfold commandCause
  split <;> decide

/-- STOP or ABORT has torn the job's context down, and is the last command. -/
def commandTornDown (s : State) (p code : Nat) : State :=
  (teardown s p (commandCause code) none).modCtl p fun k => { k with resultCommand := BitVec.ofNat 8 code }

section written

variable {s : State} {who : Principal} {p code : Nat} (hcode : code < 2 ^ 8)

include hcode

theorem setJobControl_held (h : atOnce code = false) :
    setJobControl who s p code = (.ok, outcome (commandHeld s who p code) p 0) := by
  rw [setJobControl, if_neg (by omega)]
  exact if_neg (by simpa [atOnce] using h)

theorem setJobControl_atOnce (h : atOnce code = true) :
    setJobControl who s p code =
      if principalFits who code = false then (.ok, outcome (commandWritten s p code) p 3)
      else if commandValid (s.parcel p) code = false then (.ok, outcome (commandWritten s p code) p 2)
      else (.ok, outcome (commandTornDown s p code) p 1) := by
  rw [setJobControl, if_neg (by omega)]
  refine (if_pos h).trans ?_
  cases principalFits who code
  case false => rfl
  cases commandValid (s.parcel p) code <;> rfl

end written

/-- The command is refused at once: its outcome is recorded, and nothing of the job has changed. -/
theorem refused_atOnce (s : State) (p code o : Nat) :
    let s' := outcome (commandWritten s p code) p o
    s'.sent = s.sent ∧ (s'.parcel p).ctl.resultCommand = BitVec.ofNat 8 code ∧ (s'.parcel p).ctl.resultTick = s.now ∧
      (s'.parcel p).ctl.resultOutcome = o ∧ (s'.parcel p).legs = (s.parcel p).legs ∧ s'.tiles = s.tiles := by
  dsimp only
  rw [parcel_outcome_self, commandWritten, parcel_modCtl_self]
  exact ⟨State.raise_sent _ _ _, rfl, rfl, rfl, rfl, State.raise_tiles _ _ _⟩

theorem commandHeld_ctl (s : State) (who : Principal) (p code : Nat) :
    ((outcome (commandHeld s who p code) p 0).parcel p).ctl =
      { (s.parcel p).ctl with
        held := some (BitVec.ofNat 8 code), heldBy := who, sampledLast := false
        resultCommand := BitVec.ofNat 8 code, resultOutcome := 0, resultTick := s.now } := by
  rw [parcel_outcome_self, commandHeld, parcel_modCtl_self, commandWritten, parcel_modCtl_self]
  rfl

theorem withinParcelIrq_commandHeld (s : State) (who : Principal) (p code : Nat) :
    WithinParcelIrq s (outcome (commandHeld s who p code) p 0) p :=
  withinParcelIrq_trans (withinParcelIrq_trans (withinParcelIrq_modCtl s p _) (withinParcelIrq_modCtl _ p _))
    (withinParcelIrq_outcome 0)

theorem sent_of_withinParcelIrq {s s' : State} {p : Nat} (h : WithinParcelIrq s s' p) : s'.sent = s.sent := by rw [h.1]

theorem send_of_withinParcelIrq {s s' : State} {p : Nat} (h : WithinParcelIrq s s' p) (x : Sent) :
    s'.send x = { s with parcels := (s'.send x).parcels, irq := (s'.send x).irq, sent := (s'.send x).sent } := by
  rw [h.1]
  rfl

/-- STOP or ABORT leaves the parcel with its job torn down, and names itself with outcome 1. -/
theorem commandTornDown_parcel (s : State) (p code : Nat) :
    let P := (outcome (commandTornDown s p code) p 1).parcel p
    TornDown P s.now (commandCause code) ∧ P.ctl.resultCommand = BitVec.ofNat 8 code ∧ P.ctl.resultTick = s.now ∧
      P.ctl.resultOutcome = 1 := by
  have hdown := tornDown_teardown s p (commandCause code) none
  have hmer : (commandTornDown s p code).mer = s.mer := (teardownOnly_teardown s p (commandCause code) none).mer
  dsimp only
  rw [parcel_outcome_self, State.now, hmer, commandTornDown, parcel_modCtl_self]
  exact ⟨⟨hdown.legs, hdown.nextPlan, hdown.flight, hdown.out, hdown.queue, hdown.context, hdown.record⟩, rfl, rfl, rfl⟩

theorem commandTornDown_sent (s : State) (p code : Nat) : (outcome (commandTornDown s p code) p 1).sent = s.sent :=
  (State.raise_sent _ _ _).trans (teardownOnly_teardown s p (commandCause code) none).sent

/-- A job command that the device takes is answered with OK, in the state that the write of JOB_CONTROL left. -/
theorem jobRow_answers {s s₁ : State} {who : Principal} {p : ParcelId} {code : Nat} {row : Instr}
    (hrow : jobRow code who p = some row) (hreach : reachesParcel who p = true) (hans : Answers s who (0x3060 + p))
    (h : setJobControl who s p code = (.ok, s₁)) : exec row s = .next (s₁.send (.status who (0x3060 + p) 0x03 .ok)) := by
  rw [(exec_jobRow hrow s).1, jobCommand, hreach, if_pos rfl, answer_of_answers _ _ hans, h]

theorem answered_send {s s₁ : State} (h : s₁.sent = s.sent) (who : Principal) (index sub : Nat) (st : Status) :
    Answered s (s₁.send (.status who index sub st)) who index sub st := congrArg (· ++ _) h

/-- Settles O35: a command is held with its principal, or acts at the write, where a teardown leaves what has been sent. That the
principal is tested before the state is the model's choice (log entry 38). -/
theorem jobCommandsAct : Obligations.JobCommandsAct := by
  intro s who p code row hrow hreach hans
  have hcode := (exec_jobRow hrow s).2
  cases hnow : atOnce code with
  | false =>
    have hctl := commandHeld_ctl s who p code
    have hwithin := withinParcelIrq_commandHeld s who p code
    refine ⟨_, jobRow_answers hrow hreach hans (setJobControl_held hcode hnow),
      answered_send (sent_of_withinParcelIrq hwithin) _ _ _ _, ?_⟩
    exact ⟨congrArg ParcelCtl.resultCommand hctl, congrArg ParcelCtl.resultTick hctl, hctl, send_of_withinParcelIrq hwithin _⟩
  | true =>
    have hacts := setJobControl_atOnce (s := s) (who := who) (p := p) hcode hnow
    cases hfits : principalFits who code with
    | false =>
      rw [if_pos hfits] at hacts
      obtain ⟨hsent, hcommand, htick, hrest⟩ := refused_atOnce s p code 3
      exact ⟨_, jobRow_answers hrow hreach hans hacts, answered_send hsent _ _ _ _, hcommand, htick, hrest⟩
    | true =>
      rw [if_neg (by simp [hfits])] at hacts
      cases hvalid : commandValid (s.parcel p) code with
      | false =>
        rw [if_pos hvalid] at hacts
        obtain ⟨hsent, hcommand, htick, hrest⟩ := refused_atOnce s p code 2
        exact ⟨_, jobRow_answers hrow hreach hans hacts, answered_send hsent _ _ _ _, hcommand, htick, hrest⟩
      | true =>
        rw [if_neg (by simp [hvalid])] at hacts
        obtain ⟨hdown, hcommand, htick, houtcome⟩ := commandTornDown_parcel s p code
        obtain ⟨hlt, hcause⟩ := commandCause_lt code
        obtain ⟨sector, hrecord⟩ := hdown.record
        refine ⟨_, jobRow_answers hrow hreach hans hacts, answered_send (commandTornDown_sent s p code) _ _ _ _, hcommand,
          htick, houtcome, hdown.legs, hdown.nextPlan, ?_, ?_⟩
        · exact hdown.context.trans (congrArg some (if_neg hcause))
        · exact (congrArg (fun r : BitVec 64 => fld r.toNat 48 8) hrecord).trans (fld_teardownRecord_cause _ _ hlt)

end Sys2Proof.Proofs.JobControl
end

section
/-! PROOFS. The family of 12_parcels.md: the mask of a parcel and the retirements of its parts (R293, R312, R313, R314, R365). -/

namespace Sys2Proof.Proofs.Retirement

open Sys2Proof Sys2Proof.Machine Sys2Proof.Claims Sys2Proof.Proofs.PereoStacks Sys2Proof.Proofs.JobControl

theorem parcel_send (s : State) (x : Sent) (q : Nat) : (s.send x).parcel q = s.parcel q := rfl

/-- A write by the operator that the device takes is answered with its rule's status, in the state that its rule gives. -/
theorem answer_operator_of_written {s s₁ : State} {w : Written} {st : Status} {index : Nat} (sub : Nat) (fac seen : Bool)
    (hans : Answers s .operator index) (hw : w = (st, s₁)) :
    answer .operator index sub s (operatorOnly .operator fac seen s w) = .next (s₁.send (.status .operator index sub st)) := by
  rw [answer_operator sub fac seen w hans, hw]

/-! ### PARCEL_SECTORS (R293) -/

/-- What refuses a mask: the parcel, its lowest sector, a sector that it names, or a failed bridge between them. -/
def maskRefused (s : State) (p : Nat) (m : BitVec 16) : Bool :=
  (s.parcel p).ctl.mode ≠ .free || (s.parcel p).ctl.pendingMask.isSome || (maskBits m).head? ≠ some p ||
    (maskBits m).any (fun k => sectorTaken s k || unserviceable s k || (sectorChannels k).any (channelBusy s)) ||
    (s.bridgeFailed && (maskBits m).any (· < 8) && (maskBits m).any (8 ≤ ·))

theorem setParcelSectors_of_mask (s : State) (p : Nat) {m : BitVec 16} (hm : m ≠ 0) :
    setParcelSectors s p m.toNat =
      if maskRefused s p m then refuse s else (.ok, s.modCtl p fun k => { k with pendingMask := some m }) := by
  have hzero : m.toNat ≠ 0 := fun h => hm (BitVec.eq_of_toNat_eq h)
  have hofNat : BitVec.ofNat 16 m.toNat = m := by simp
  rw [setParcelSectors, if_neg (by omega)]
  dsimp only
  rw [if_neg hzero, hofNat]
  rfl

/-- Over a failed bridge, no mask names sectors of both dies. -/
theorem noneAcross_iff (failed : Bool) (ks : List Nat) :
    (failed && ks.any (· < 8) && ks.any (8 ≤ ·)) = false ↔
      (failed = true → (∀ k, k ∈ ks → k < 8) ∨ ∀ k, k ∈ ks → 8 ≤ k) := by
  cases failed with
  | false => simp
  | true => simp only [Bool.true_and, Bool.and_eq_false_iff, List.any_eq_false, decide_eq_true_eq, not_lt, not_le, or_comm,
      forall_const]

theorem maskRefused_eq_false_iff (s : State) (p : Nat) (m : BitVec 16) : maskRefused s p m = false ↔ MaskAccepted s p m := by
  simp only [maskRefused, Bool.or_eq_false_iff, noneAcross_iff, List.any_eq_false]
  simp [and_assoc]

theorem parcelSectors_accepts (s : State) (p : ParcelId) (m : BitVec 16) (hm : m ≠ 0) (hok : MaskAccepted s p m)
    (hans : Answers s .operator (0x3060 + p)) :
    ∃ s', exec (.parcelSectors .operator p m.toNat) s = .next s' ∧ Answered s s' .operator (0x3060 + p) 0x01 .ok ∧
      (s'.parcel p).ctl = { (s.parcel p).ctl with pendingMask := some m } ∧
      s' = { s with parcels := s'.parcels, sent := s'.sent } ∧ ∀ q, q ≠ p.val → s'.parcel q = s.parcel q := by
  have hwrite := setParcelSectors_of_mask s p hm
  rw [if_neg (by simp [(maskRefused_eq_false_iff s p m).2 hok])] at hwrite
  refine ⟨_, answer_operator_of_written 0x01 false true hans hwrite, rfl, ?_, rfl, fun q hq => ?_⟩
  · rw [parcel_send, parcel_modCtl_self]
  · rw [parcel_send, parcel_modCtl_ne _ _ _ hq]

theorem parcelSectors_refuses (s : State) (p : ParcelId) (m : BitVec 16) (hm : m ≠ 0) (hnot : ¬ MaskAccepted s p m)
    (hans : Answers s .operator (0x3060 + p)) :
    ∃ s', exec (.parcelSectors .operator p m.toNat) s = .next s' ∧ NoEffect s s' .operator (0x3060 + p) 0x01 .refused := by
  have hwrite := setParcelSectors_of_mask s p hm
  rw [if_pos (by rwa [← maskRefused_eq_false_iff, Bool.not_eq_false] at hnot)] at hwrite
  exact ⟨_, answer_operator_of_written 0x01 false true hans hwrite, rfl⟩

theorem parcelSectors_releases (s : State) (p : ParcelId) (hmode : (s.parcel p).ctl.mode = .defined)
    (hans : Answers s .operator (0x3060 + p)) :
    ∃ s', exec (.parcelSectors .operator p 0) s = .next s' ∧ Answered s s' .operator (0x3060 + p) 0x01 .ok ∧
      (s'.parcel p).ctl = { (s.parcel p).ctl with pendingRelease := true } := by
  have hwrite : setParcelSectors s p 0 = (.ok, s.modCtl p fun k => { k with pendingRelease := true }) := by
    rw [setParcelSectors, if_neg (by decide)]
    exact (if_pos rfl).trans (if_pos hmode)
  refine ⟨_, answer_operator_of_written 0x01 false true hans hwrite, rfl, ?_⟩
  rw [parcel_send, parcel_modCtl_self]

/-! ### Tiles, channels and stewards (R312, R313, R314) -/

/-- A part of sector `k` is marked as retired, and the record of it is offered. -/
theorem sectorRetires_retireRecord (s : State) (k source inst sub detail : Nat) (f : Sector → Sector) :
    SectorRetires s (retireRecord (s.modSector k f) source inst sub detail k) k (f (s.sector k)) := by
  unfold retireRecord
  obtain ⟨l, i, h⟩ := (s.modSector k f).logEvent_only 0x10 source inst (sectorOwner (s.modSector k f) k) sub detail
  rw [h]
  exact ⟨State.sector_modSector_self s k f, fun j hj => Tab.get_set_ne _ _ _ hj, rfl, rfl⟩

theorem dropUnserviceable_of_staysUp {s : State} {k : Nat} (cause : Nat) (h : StaysUp s k) : dropUnserviceable s k cause = s := by
  unfold dropUnserviceable
  cases howner : sectorOwner s k with
  | none => rfl
  | some p =>
    refine if_neg ?_
    rcases h with hup | hidle
    · simp [hup]
    · simp [hidle p howner]

theorem retireTile_holds (s : State) (k : SectorId) (v : Nat) (hv : v < 32) (hallowed : retireAllowed s k = true)
    (hans : Answers s .operator (0x3040 + k)) (hnew : (s.sector k).retiredTiles.getLsbD v = false) :
    ∃ s', exec (.retireTile .operator k v) s =
        .next ((dropUnserviceable s' k 0x01).send (.status .operator (0x3040 + k) 0x04 .ok)) ∧
      SectorRetires s s' k { s.sector k with retiredTiles := (s.sector k).retiredTiles ||| ((1 : BitVec 32) <<< v) } ∧
      (StaysUp s' k → dropUnserviceable s' k 0x01 = s') := by
  refine ⟨_, answer_operator_of_written 0x04 false false hans ?_,
    sectorRetires_retireRecord s k 1 (k * 32 + v) 0 0 fun x =>
      { x with retiredTiles := x.retiredTiles ||| ((1 : BitVec 32) <<< v) },
    dropUnserviceable_of_staysUp 0x01⟩
  rw [setRetireTile, if_neg (by omega), if_neg (by simp [hallowed, hnew]; omega)]

theorem retireChannel_holds (s : State) (k : SectorId) (v : Nat) (hv : v < 24) (hallowed : retireAllowed s k = true)
    (hans : Answers s .operator (0x3040 + k)) (hnew : (s.sector k).retiredChannels.getLsbD v = false) :
    ∃ s', exec (.retireChannel .operator k v) s =
        .next ((dropUnserviceable s' k 0x02).send (.status .operator (0x3040 + k) 0x05 .ok)) ∧
      SectorRetires s s' k { s.sector k with retiredChannels := (s.sector k).retiredChannels ||| ((1 : BitVec 24) <<< v) } ∧
      (StaysUp s' k → dropUnserviceable s' k 0x02 = s') := by
  refine ⟨_, answer_operator_of_written 0x05 false false hans ?_,
    sectorRetires_retireRecord s k 2 (sectorChannel k v) 1 0 fun x =>
      { x with retiredChannels := x.retiredChannels ||| ((1 : BitVec 24) <<< v) },
    dropUnserviceable_of_staysUp 0x02⟩
  rw [setRetireChannel, if_neg (by omega), if_neg (by simp [hallowed, hnew]; omega)]

theorem retireSteward_holds (s : State) (k : SectorId) (hallowed : retireAllowed s k = true)
    (hnew : (s.sector k).stewardRetired = false) (hans : Answers s .operator (0x3040 + k)) :
    ∃ s', exec (.retireSteward .operator k 1) s = .next (s'.send (.status .operator (0x3040 + k) 0x06 .ok)) ∧
      SectorRetires s s' k { s.sector k with stewardRetired := true } := by
  refine ⟨_, answer_operator_of_written 0x06 false false hans ?_, sectorRetires_retireRecord s k 5 k 4 0 fun x =>
    { x with stewardRetired := true }⟩
  rw [setRetireSteward, if_neg (by decide), if_neg (by simp [hallowed, hnew])]

/-! ### Pages and pairs (R365) -/

theorem retireOutcome_of_fits {s : State} {c : Nat} {known overlaps : Bool} (h : RetireFits s c known overlaps) :
    retireOutcome s c known false false overlaps = 0 := by
  obtain ⟨hallowed, hnew, hfree⟩ := h
  simp [retireOutcome, hallowed, hnew, hfree]

/-- A retirement on channel `c` that is done: its result is 0, its part joins the channel's retired ones, and the record of it is
offered. -/
def retiredOn (s : State) (c : Nat) (f : Channel → Channel) (source inst sub detail : Nat) : State :=
  retireRecord ((noteRetire s c 0).modChannel c f) source inst sub detail (channelSector c)

/-- A retirement on a channel touches that channel, the log and the interrupts waiting. -/
theorem retiredOn_effect (s : State) (c : Nat) (f : Channel → Channel) (source inst sub detail : Nat) :
    let s' := retiredOn s c f source inst sub detail
    s'.channel c = f { s.channel c with retireResult := 0 } ∧ OtherChannelsKept s s' c ∧
      s' = { s with channels := s'.channels, log := s'.log, irq := s'.irq } := by
  unfold retiredOn retireRecord
  dsimp only
  obtain ⟨l, i, h⟩ := ((noteRetire s c 0).modChannel c f).logEvent_only 0x10 source inst
    (sectorOwner ((noteRetire s c 0).modChannel c f) (channelSector c)) sub detail
  rw [h]
  refine ⟨?_, fun j hj => ?_, rfl⟩
  · exact (State.channel_modChannel_self _ _ _).trans (congrArg f (State.channel_modChannel_self s c _))
  · exact (State.channel_modChannel_ne _ _ hj).trans (State.channel_modChannel_ne s _ hj)

/-- The same, with the status of the write that asked for it. -/
theorem retiredOn_answered (s : State) (c : Nat) (f : Channel → Channel) (source inst sub detail field : Nat) :
    let s' := (retiredOn s c f source inst sub detail).send (.status .operator (0x4000 + c) field .ok)
    Answered s s' .operator (0x4000 + c) field .ok ∧ s'.channel c = f { s.channel c with retireResult := 0 } ∧
      OtherChannelsKept s s' c ∧ s' = { s with channels := s'.channels, log := s'.log, irq := s'.irq, sent := s'.sent } := by
  obtain ⟨hself, hothers, honly⟩ := retiredOn_effect s c f source inst sub detail
  refine ⟨answered_send (by rw [honly]) _ _ _ _, hself, hothers, ?_⟩
  rw [honly]
  rfl

theorem retirePage_holds (s : State) (c : ChannelId) (v : Nat)
    (hfits : RetireFits s c ((s.channel c).retiredPages.contains v) (heldOverlap s c fun x => x / 32 = v)) (hv : v < 768)
    (hroom : (s.channel c).retiredPages.length < 256) (hans : Answers s .operator (0x4000 + c)) :
    ∃ s', exec (.retirePage .operator c v) s = .next s' ∧ Answered s s' .operator (0x4000 + c) 0x40 .ok ∧
      s'.channel c = { s.channel c with retiredPages := (s.channel c).retiredPages ++ [v], retireResult := 0 } ∧
      (∀ j, j ≠ c.val → s'.channel j = s.channel j) ∧
      s' = { s with channels := s'.channels, log := s'.log, irq := s'.irq, sent := s'.sent } := by
  have hwrite : setRetirePage s c v =
      (.ok, retiredOn s c (fun K => { K with retiredPages := K.retiredPages ++ [v] }) 2 c 3 v) := by
    rw [setRetirePage, if_neg (by omega)]
    dsimp only
    rw [decide_eq_false (by omega), decide_eq_false (by omega), retireOutcome_of_fits hfits]
    rfl
  exact ⟨_, answer_operator_of_written 0x40 false false hans hwrite, retiredOn_answered s c _ _ _ _ _ _⟩

theorem retirePair_holds (s : State) (c : ChannelId) (v : Nat)
    (hfits : RetireFits s c ((s.channel c).retiredPairs.contains v) (heldOverlap s c fun x => x % 64 = v)) (hv : v < 64)
    (hans : Answers s .operator (0x4000 + c)) :
    ∃ s', exec (.retirePair .operator c v) s = .next s' ∧ Answered s s' .operator (0x4000 + c) 0x41 .ok ∧
      s'.channel c = { s.channel c with retiredPairs := (s.channel c).retiredPairs ++ [v], retireResult := 0 } ∧
      (∀ j, j ≠ c.val → s'.channel j = s.channel j) ∧
      s' = { s with channels := s'.channels, log := s'.log, irq := s'.irq, sent := s'.sent } := by
  have hwrite : setRetirePair s c v =
      (.ok, retiredOn s c (fun K => { K with retiredPairs := K.retiredPairs ++ [v] }) 3 (c * 64 + v) 2 0) := by
    rw [setRetirePair, if_neg (by omega)]
    dsimp only
    rw [decide_eq_false (by omega), retireOutcome_of_fits hfits]
    rfl
  exact ⟨_, answer_operator_of_written 0x41 false false hans hwrite, retiredOn_answered s c _ _ _ _ _ _⟩

/-- Settles O36: a mask is judged by R293's conditions in one Boolean, and a retirement is one change of its sector or channel
with its record. That pending masks count as owned (log entry 39), and the causes 1 and 2 of the teardown that a tile's or a
channel's retirement may bring (log entry 47), are the model's choices. -/
theorem masksAndRetirements : Obligations.MasksAndRetirements :=
  ⟨parcelSectors_accepts, parcelSectors_refuses, parcelSectors_releases, retireTile_holds, retireChannel_holds,
    retireSteward_holds, retirePage_holds, retirePair_holds⟩

end Sys2Proof.Proofs.Retirement
end

section
/-! PROOFS. The family of 13_cartouche_security.md: the SPDM responder: requests outside and within a session, TDISP and IDE
key management, and the release of a response (R323 to R328, R330). -/

namespace Sys2Proof.Proofs.SpdmResponder

open Sys2Proof Sys2Proof.Machine Sys2Proof.Claims

/-! ### Answers (R326) -/

section answers

variable {s : State} {tr : Nat} (hopen : spdmOpen s tr = true)

include hopen

/-- A request that the responder takes is answered, and nothing but the answers held changes. -/
theorem spdmAnswer_holds (ms : Nat) (r : Spdm) :
    ∃ s', spdmAnswer s tr ms r = .next s' ∧ Held s s' tr ms r ∧ s'.fresh = s.fresh := ⟨_, if_pos hopen, rfl, rfl⟩

/-- The same, for a request that is only known to come to such an answer. -/
theorem held_of_answer {o : Host.Outcome State Fault Refusal} {ms : Nat} {r : Spdm} (h : o = spdmAnswer s tr ms r) :
    ∃ s', o = .next s' ∧ Held s s' tr ms r := ⟨_, h.trans (if_pos hopen), rfl⟩

/-! ### Requests outside a session (R323 to R325) -/

theorem getCertificate_holds {slot : Nat} {c : List Byte} (hchain : chainOf s slot = some c) (offset length : Nat) :
    ∃ s', exec (.getCertificate tr slot offset length) s = .next s' ∧
      if c.length < offset then Held s s' tr 1 .errorInvalid
      else Held s s' tr 1 (.certificate slot ((c.drop offset).take length)
        (c.length - offset - min length (c.length - offset))) := by
  have hexec : exec (.getCertificate tr slot offset length) s =
      if c.length < offset then spdmAnswer s tr 1 .errorInvalid
      else spdmAnswer s tr 1 (.certificate slot ((c.drop offset).take length)
        (c.length - offset - min length (c.length - offset))) := by
    show execGetCertificate tr slot offset length s = _
    unfold execGetCertificate
    rw [hchain]
    simp only [List.length_take, List.length_drop]
  rw [hexec]
  split
  · exact held_of_answer hopen rfl
  · exact held_of_answer hopen rfl

theorem challenge_holds {slot : Nat} {c : List Byte} (hchain : chainOf s slot = some c) (nonce : BitVec 256) :
    ∃ s' own sig, exec (.challenge tr slot nonce) s = .next s' ∧ Held s s' tr 4 (.challengeAuth slot own sig) ∧
      own = Config.random256 s.fresh ∧ s'.fresh = s.fresh + 2 := by
  show ∃ s' own sig, execChallenge tr slot nonce s = .next s' ∧ _
  unfold execChallenge
  rw [hchain]
  exact ⟨_, _, _, if_pos hopen, rfl, rfl, rfl⟩

theorem getMeasurements_holds {block : Option Nat} {fn : Option ParcelId} (hsome : blocksFor s tr fn block ≠ []) :
    (∃ s', exec (.getMeasurements tr block false fn) s = .next s' ∧
      Held s s' tr 1 (.measurements (blocksFor s tr fn block) none)) ∧
    (∃ s' sig, exec (.getMeasurements tr block true fn) s = .next s' ∧
      Held s s' tr 4 (.measurements (blocksFor s tr fn block) (some sig))) := by
  have hblocks : ¬ (blocksFor s tr fn block).isEmpty = true := by simpa using hsome
  constructor
  · exact held_of_answer hopen ((if_neg hblocks).trans (if_pos rfl))
  · exact ⟨_, _, ((if_neg hblocks).trans (if_neg Bool.false_ne_true)).trans (if_pos hopen), rfl⟩

theorem chunkGet_holds (seq : Nat) :
    ∃ s' portion, exec (.chunkGet tr seq) s = .next s' ∧ Held s s' tr 1 (.chunkResponse seq portion) :=
  ⟨_, _, if_pos hopen, rfl⟩

theorem chunkSend_holds (seq : Nat) (data : List Byte) (last : Bool) :
    ∃ s', exec (.chunkSend tr seq last data) s = .next s' ∧
      s'.cart.held = s.cart.held ++ [⟨tr, 1, .chunkSendAck seq⟩] ∧
      Tab.get [] s'.cart.chunks tr = (if last then [] else Tab.get [] s.cart.chunks tr ++ data) ∧
      (∀ j, j ≠ tr → Tab.get [] s'.cart.chunks j = Tab.get [] s.cart.chunks j) ∧ s' = { s with cart := s'.cart } :=
  ⟨_, if_neg (by simp [hopen]), rfl, Tab.get_set_self _ _ _ _, fun _ hj => Tab.get_set_ne _ _ _ hj, rfl⟩

end answers

/-! ### Release of a response (R326) -/

/-- The response at place `k` is due where every one before it waits longer. -/
theorem responseDue_eq_some {held : List SpdmHeld} {k : Nat} {h : SpdmHeld} (hk : held[k]? = some h)
    (hdue : ∀ x, x ∈ held.take k → h.latencyMs < x.latencyMs) : responseDue held k = some h := by
  unfold responseDue
  rw [hk, Option.filter_some, if_pos]
  exact List.all_eq_true.2 fun x hx => decide_eq_true (hdue x hx)

/-- The response in a mailbox touches the functions and the interrupts waiting. -/
theorem mailboxAnswer_only (s : State) (p : Nat) (bytes : List Byte) :
    ∃ v i, mailboxAnswer s p bytes = { s with vfs := v, irq := i } := by
  unfold mailboxAnswer
  obtain ⟨i, h⟩ := State.raise_only _ (1 + p) 8
  rw [h]
  exact ⟨_, i, rfl⟩

theorem spdmResponseRelease_holds (s : State) (k : Nat) (h : SpdmHeld) (hk : s.cart.held[k]? = some h)
    (hdue : ∀ x, x ∈ s.cart.held.take k → h.latencyMs < x.latencyMs) :
    ∃ s', exec (.spdmResponseRelease k) s = .next s' ∧ s'.sent = s.sent ++ [.spdm h.transport h.response] ∧
      s'.cart = { s.cart with held := s.cart.held.eraseIdx k } ∧ s'.parcels = s.parcels ∧
      ∀ p, mailboxOf h.transport = some p →
        (Tab.get VFun.init s'.vfs p).mailbox.ready = true ∧ (Tab.get VFun.init s'.vfs p).mailbox.busy = false := by
  show ∃ s', execSpdmResponseRelease k s = .next s' ∧ _
  unfold execSpdmResponseRelease
  rw [responseDue_eq_some hk hdue]
  dsimp only
  split
  next hbox =>
    refine ⟨_, rfl, rfl, rfl, rfl, fun p hp => ?_⟩
    rw [hbox] at hp
    cases hp
  next p hbox =>
    let t := ({ s with cart := { s.cart with held := s.cart.held.eraseIdx k } }).send (.spdm h.transport h.response)
    have hready := MailboxRegisters.mailbox_mailboxAnswer t p (Config.spdmBytes t.fresh h.response)
    obtain ⟨v, i, honly⟩ := mailboxAnswer_only t p (Config.spdmBytes t.fresh h.response)
    refine ⟨drawn (mailboxAnswer t p (Config.spdmBytes t.fresh h.response)), rfl, ?_, ?_, ?_, fun q hq => ?_⟩
    · rw [honly]; rfl
    · rw [honly]; rfl
    · rw [honly]; rfl
    · rw [← Option.some.inj (hbox.symm.trans hq)]
      exact hready

/-- Settles O40: every answer is held behind the others, and a mailbox's is copied into its response buffer as it goes out. What
the answers hold, the draws and the order of release by latency are the model's choices (log entry 52). -/
theorem spdmRequestsAreAnswered : Obligations.SpdmRequestsAreAnswered := by
  refine ⟨fun s tr hopen => ?_, spdmResponseRelease_holds⟩
  refine ⟨spdmAnswer_holds hopen _ _, ?_, ?_, spdmAnswer_holds hopen _ _, fun _ => held_of_answer hopen rfl,
    fun _ offset length _ hchain => getCertificate_holds hopen hchain offset length,
    fun _ nonce _ hchain => challenge_holds hopen hchain nonce, fun _ _ hsome => getMeasurements_holds hopen hsome,
    chunkGet_holds hopen, chunkSend_holds hopen⟩
  · exact ⟨_, _, if_pos hopen, rfl, by decide, by decide, rfl⟩
  · exact ⟨_, _, if_pos hopen, rfl, by decide, rfl⟩

/-! ### Sessions (R327) -/

theorem keyExchange_holds (s : State) (tr : Nat) (point : BitVec 776) (hopen : spdmOpen s tr = true) :
    ∃ s', exec (.keyExchange tr point) s = .next s' ∧
      if sessionsFull s tr = true then Held s s' tr 1 .errorSessionLimit
      else ∃ sig, HeldSessions s s' tr 8 (.keyExchangeRsp s.cart.nextSession (Config.publicPoint s.fresh) sig)
          (s.cart.sessions ++ [⟨s.cart.nextSession, tr, false, Config.random256 (s.fresh + 2)⟩]) ∧
        s'.cart.nextSession = s.cart.nextSession + 1 := by
  by_cases hfull : sessionsFull s tr = true
  · simp only [if_pos hfull]
    exact held_of_answer hopen (if_pos hfull)
  · simp only [if_neg hfull]
    exact ⟨_, (if_neg hfull).trans (if_neg (by simp [hopen])), _, rfl, rfl⟩

section sessions

variable {s : State} {tr n : Nat} {x : Session}

/-- A request within a session that it is for acts and is answered. -/
theorem inSession_found (hopen : spdmOpen s tr = true) (hfind : findSession s tr n = some x) {needs : Bool}
    (hneeds : needs = true → x.established = true) (ms : Nat) (f : State → State) (r : Spdm) :
    inSession tr n ms needs s f r = .next (respond (f s) tr ms r) := by
  unfold inSession
  rw [hfind]
  dsimp only
  rw [if_neg (by simpa using hneeds), if_pos hopen]

theorem finish_holds (hopen : spdmOpen s tr = true) (hfind : findSession s tr n = some x) :
    ∃ s', exec (.finish tr n) s = .next s' ∧
      HeldSessions s s' tr 2 (.finishRsp n) (changed s n fun x => { x with established := true }) ∧
      s'.cart.nextSession = s.cart.nextSession := by
  show ∃ s', execFinish tr n s = .next s' ∧ _
  unfold execFinish
  exact ⟨_, inSession_found hopen hfind Bool.noConfusion _ _ _, rfl, rfl⟩

/-- A key programmed for the parcel's stream, and the answer to a request about its interface, change its security state. -/
theorem heldSec_modSec (s : State) (tr ms : Nat) (r : Spdm) (p n : Nat) (f : ParcelSec → ParcelSec) :
    HeldSec s { respond (modSec s p f) tr ms r with fresh := n } tr ms r p (f (s.parcel p).sec) :=
  ⟨rfl, s.parcel_modParcel_self p fun P => { P with sec := f P.sec },
    fun _ hq => s.parcel_modParcel_ne (fun P => { P with sec := f P.sec }) hq, rfl⟩

theorem keyUpdate_holds (hopen : spdmOpen s tr = true) (hfind : findSession s tr n = some x)
    (hest : x.established = true) :
    ∃ s', exec (.keyUpdate tr n) s = .next s' ∧
      HeldSessions s s' tr 1 (.keyUpdateAck n) (changed s n fun x => { x with key := Config.random256 s.fresh }) := by
  show ∃ s', execKeyUpdate tr n s = .next s' ∧ _
  unfold execKeyUpdate
  exact ⟨_, inSession_found hopen hfind (fun _ => hest) _ _ _, rfl⟩

theorem heartbeat_holds (hopen : spdmOpen s tr = true) (hfind : findSession s tr n = some x)
    (hest : x.established = true) :
    ∃ s', exec (.heartbeat tr n) s = .next s' ∧ Held s s' tr 1 (.heartbeatAck n) ∧ s'.fresh = s.fresh := by
  show ∃ s', execHeartbeat tr n s = .next s' ∧ _
  unfold execHeartbeat
  exact ⟨_, inSession_found hopen hfind (fun _ => hest) _ _ _, rfl, rfl⟩

theorem endSession_holds (hopen : spdmOpen s tr = true) (hfind : findSession s tr n = some x)
    (hest : x.established = true) :
    ∃ s', exec (.endSession tr n) s = .next s' ∧
      HeldSessions s s' tr 1 (.endSessionAck n) (s.cart.sessions.filter fun x => x.id ≠ n) := by
  show ∃ s', execEndSession tr n s = .next s' ∧ _
  unfold execEndSession
  exact ⟨_, inSession_found hopen hfind (fun _ => hest) _ _ _, rfl⟩

/-! ### IDE key management (R330) -/

theorem ideKm_function (hopen : spdmOpen s tr = true) (hfind : findSession s tr n = some x) (hest : x.established = true)
    (p : ParcelId) (key : BitVec 256) (go : Bool) (hreach : tdispReach tr p = true) :
    ∃ s', exec (.ideKm tr n (some p) key go) s = .next s' ∧
      HeldSec s s' tr 2 (.ideKmAck (p + 1)) p { (s.parcel p).sec with
        ideKey := key
        ideSecure := (s.parcel p).sec.ideSecure || go } :=
  ⟨_, (if_neg (by simp [hreach])).trans (inSession_found hopen hfind (fun _ => hest) _ _ _),
    heldSec_modSec s tr 2 _ p s.fresh fun c => { c with ideKey := key, ideSecure := c.ideSecure || go }⟩

theorem ideKm_link (hopen : spdmOpen s tr = true) (hfind : findSession s tr n = some x) (hest : x.established = true)
    (key : BitVec 256) (go : Bool) (hmailbox : mailboxOf tr = none) :
    ∃ s', exec (.ideKm tr n none key go) s = .next s' ∧ s'.cart.linkIde = (s.cart.linkIde || go) ∧ s'.cart.linkKey = key ∧
      s'.cart.held = s.cart.held ++ [⟨tr, 2, .ideKmAck 0⟩] ∧ s' = { s with cart := s'.cart } :=
  ⟨_, (if_neg (by simp [hmailbox])).trans (inSession_found hopen hfind (fun _ => hest) _ _ _), rfl, rfl, rfl, rfl⟩

end sessions

/-! ### TDISP (R328, R329) -/

section tdisp

variable {s : State} {tr p : Nat} (hopen : spdmOpen s tr = true)

include hopen

theorem tdisp_accepts (hreach : tdispReach tr p = true) (f : State → State) (r : Spdm) :
    tdisp s tr p true f r = .next (respond (f s) tr 1 r) :=
  (if_neg (by simp [hreach])).trans (if_pos hopen)

theorem tdisp_refuses (f : State → State) (r : Spdm) :
    ∃ s', tdisp s tr p false f r = .next s' ∧ Held s s' tr 1 (.tdispError p) :=
  held_of_answer hopen (if_pos (by simp))

end tdisp

theorem lockInterface_holds (s : State) (tr : Nat) (p : ParcelId) (hopen : spdmOpen s tr = true)
    (hreach : tdispReach tr p = true) :
    ∃ s', exec (.lockInterfaceRequest tr p) s = .next s' ∧
      if (s.parcel p).ctl.mode = .sealed ∧ (s.parcel p).sec.ideSecure = true ∧ (s.parcel p).sec.tdi = .unlocked then
        HeldSec s s' tr 1 (.tdisp p 1 (some (Config.random256 s.fresh))) p { (s.parcel p).sec with tdi := .locked }
      else Held s s' tr 1 (.tdispError p) := by
  show ∃ s', execLockInterfaceRequest tr p s = .next s' ∧ _
  unfold execLockInterfaceRequest
  dsimp only
  split
  next hmay =>
    obtain ⟨hsealed, hsecure, hunlocked⟩ := hmay
    rw [show (decide ((s.parcel p).ctl.mode = .sealed) && (s.parcel p).sec.ideSecure &&
      decide ((s.parcel p).sec.tdi = .unlocked)) = true by simp [hsealed, hsecure, hunlocked]]
    exact ⟨_, tdisp_accepts hopen hreach _ _,
      heldSec_modSec s tr 1 _ p (s.fresh + 1) fun c => { c with tdi := .locked }⟩
  next hnot =>
    rw [show (decide ((s.parcel p).ctl.mode = .sealed) && (s.parcel p).sec.ideSecure &&
      decide ((s.parcel p).sec.tdi = .unlocked)) = false by simpa [and_assoc] using hnot]
    exact tdisp_refuses hopen _ _

theorem startInterface_holds (s : State) (tr : Nat) (p : ParcelId) (hopen : spdmOpen s tr = true)
    (hreach : tdispReach tr p = true) :
    ∃ s', exec (.startInterfaceRequest tr p) s = .next s' ∧
      if (s.parcel p).sec.tdi = .locked then HeldSec s s' tr 1 (.tdisp p 2 none) p { (s.parcel p).sec with tdi := .run }
      else Held s s' tr 1 (.tdispError p) := by
  show ∃ s', execStartInterfaceRequest tr p s = .next s' ∧ _
  unfold execStartInterfaceRequest
  split
  next hlocked =>
    rw [decide_eq_true hlocked]
    exact ⟨_, tdisp_accepts hopen hreach _ _, heldSec_modSec s tr 1 _ p s.fresh fun c => { c with tdi := .run }⟩
  next hnot =>
    rw [decide_eq_false hnot]
    exact tdisp_refuses hopen _ _

theorem stopInterface_holds (s : State) (tr : Nat) (p : ParcelId) (hopen : spdmOpen s tr = true)
    (hreach : tdispReach tr p = true) :
    ∃ s', exec (.stopInterfaceRequest tr p) s = .next s' ∧
      HeldSec s s' tr 1 (.tdisp p 0 none) p { (s.parcel p).sec with tdi := .unlocked } := by
  show ∃ s', execStopInterfaceRequest tr p s = .next s' ∧ _
  unfold execStopInterfaceRequest
  exact ⟨_, tdisp_accepts hopen hreach _ _, heldSec_modSec s tr 1 _ p s.fresh fun c => { c with tdi := .unlocked }⟩

theorem interfaceReport_holds (s : State) (tr : Nat) (p : ParcelId) (hopen : spdmOpen s tr = true)
    (hreach : tdispReach tr p = true) :
    ∃ s', exec (.getDeviceInterfaceReport tr p) s = .next s' ∧
      if (s.parcel p).sec.tdi = .locked ∨ (s.parcel p).sec.tdi = .run then
        ∃ ranges, Held s s' tr 1 (.interfaceReport p ranges) ∧ (0x0, 0x1000) ∈ ranges
      else Held s s' tr 1 (.tdispError p) := by
  show ∃ s', execGetDeviceInterfaceReport tr p s = .next s' ∧ _
  unfold execGetDeviceInterfaceReport
  dsimp only
  rw [← Bool.decide_or]
  split
  next hmay =>
    rw [decide_eq_true hmay]
    exact ⟨_, tdisp_accepts hopen hreach _ _, _, rfl, List.mem_cons_self⟩
  next hnot =>
    rw [decide_eq_false hnot]
    exact tdisp_refuses hopen _ _

/-- Settles O41: a session's request finds its session and acts on it, and a TDISP request is judged by the state of its
interface. Sessions without their ciphers, the key that KEY_UPDATE draws and the answers of TDISP and IDE_KM are the model's
choices (log entry 52). -/
theorem sessionsInterfacesAndStreams : Obligations.SessionsInterfacesAndStreams := by
  refine ⟨keyExchange_holds, fun s tr n x hopen hfind => finish_holds hopen hfind, fun s tr n x hopen hfind hest => ?_,
    fun s tr p hopen hreach => ?_⟩
  · exact ⟨keyUpdate_holds hopen hfind hest, heartbeat_holds hopen hfind hest, endSession_holds hopen hfind hest,
      ideKm_function hopen hfind hest, ideKm_link hopen hfind hest⟩
  · exact ⟨lockInterface_holds s tr p hopen hreach, startInterface_holds s tr p hopen hreach,
      stopInterface_holds s tr p hopen hreach, interfaceReport_holds s tr p hopen hreach⟩

end Sys2Proof.Proofs.SpdmResponder
end

section
/-! PROOFS. The family of 13_cartouche_security.md: what a reset leaves, and the supplies and pins that bring one about (R320,
R408, R409, R459 to R461, R464). -/

namespace Sys2Proof.Proofs.ResetsOfModule

open Sys2Proof Sys2Proof.Machine Sys2Proof.Claims Sys2Proof.Proofs.Boot Sys2Proof.Proofs.PereoStacks
open Sys2Proof.Proofs.Retirement

/-! ### Tables -/

theorem mem_of_find {α : Type} {t : Tab α} {k : Nat} {v : α} (h : Tab.find t k = some v) : (k, v) ∈ t := by
  induction t with
  | nil => cases h
  | cons x t ih =>
    obtain ⟨j, w⟩ := x
    unfold Tab.find at h
    split at h
    next hk => rw [← Option.some.inj h, hk]; exact List.mem_cons_self
    next => exact List.mem_cons_of_mem _ (ih h)

/-- What the default and every listed value have, each value has. -/
theorem get_of_forall {α : Type} {P : α → Prop} {d : α} {t : Tab α} (hd : P d) (h : ∀ x, x ∈ t → P x.2) (k : Nat) :
    P (Tab.get d t k) := by
  unfold Tab.get
  split
  next v hv => exact h _ (mem_of_find hv)
  next => exact hd

/-! ### What a reset leaves (Table 16.5) -/

theorem retirements_of_resetChannels {s t : State} {cut : Bool} (h : t.channels = resetChannels s cut) {c : Nat}
    (hc : c < 384) : (t.channel c).retiredPages = (s.channel c).retiredPages ∧
      (t.channel c).retiredPairs = (s.channel c).retiredPairs := by
  have hchannel : t.channel c = resetChannel cut (s.channel c) := by
    unfold State.channel
    rw [h]
    exact get_foldl_set _ _ hc
  rw [hchannel]
  exact ⟨rfl, rfl⟩

theorem channels_wipe (s : State) (standby cut : Bool) : (wipe s standby cut).channels = resetChannels s cut := by
  unfold wipe
  dsimp only

/-- No parcel keeps its control state; of a parcel with a TAMPER certificate only that certificate stays. -/
theorem ctl_wipe (s : State) (standby cut : Bool) (p : Nat) : ((wipe s standby cut).parcel p).ctl = ParcelCtl.init := by
  refine get_of_forall (P := fun P : Parcel => P.ctl = ParcelCtl.init) rfl (fun x hx => ?_) p
  cases standby with
  | false => cases hx
  | true =>
    obtain ⟨y, -, hy⟩ := List.mem_filterMap.1 hx
    split at hy
    · split at hy
      · exact congrArg (fun x : Nat × Parcel => x.2.ctl) (Option.some.inj hy).symm
      · cases hy
    · cases hy

theorem wiped_wipe (s : State) (standby cut : Bool) : Wiped s (wipe s standby cut) :=
  ⟨rfl, rfl, rfl, rfl, rfl, rfl, rfl, rfl, rfl, ctl_wipe s standby cut, rfl,
    fun _ hc => retirements_of_resetChannels (channels_wipe s standby cut) hc, rfl, rfl, rfl, rfl, rfl, rfl, rfl⟩

/-- What Table 16.5 says holds whatever the supplies, clocks and log are set to after the reset. -/
theorem wiped_with {s t : State} (h : Wiped s t) (u : Supply) (k : Clocks) (l : ErrorLog) (i : List (Nat × Nat)) :
    Wiped s { t with supply := u, clocks := k, log := l, irq := i } := h

/-- Nor does it matter what they were set to just before it. -/
theorem wiped_before {s t : State} {u : Supply} (h : Wiped { s with supply := u } t) : Wiped s t := h

/-- Logging the trainings that a reset cuts short touches the log and the interrupts waiting. -/
theorem logCutTrainings_only (cs : List Nat) (s : State) :
    ∃ l i, cs.foldl (fun t c =>
      let K := t.channel c
      if K.trainResult = 0x04000000 then t.logEvent 0xF 2 c none 4 K.trainResult.toNat else t) s =
        { s with log := l, irq := i } := by
  induction cs generalizing s with
  | nil => exact ⟨s.log, s.irq, rfl⟩
  | cons c cs ih =>
    rw [List.foldl_cons]
    dsimp only
    split
    · obtain ⟨l, i, hlog⟩ := s.logEvent_only 0xF 2 c none 4 (s.channel c).trainResult.toNat
      rw [hlog]
      exact ih { s with log := l, irq := i }
    · exact ih s

/-- What a module reset leaves. -/
theorem resetModule_leaves (s : State) (cause : Nat) :
    ∃ t, resetModule s cause = t ∧ Wiped s t ∧ t.clocks.resetCause = cause ∧ t.supply = s.supply ∧ t.sent = s.sent := by
  unfold resetModule
  dsimp only
  obtain ⟨w, hw⟩ : ∃ w, w = wipe s true (s.supply.converters && !s.supply.inReset) := ⟨_, rfl⟩
  have hwiped : Wiped s w := hw ▸ wiped_wipe s true _
  have hsupply : w.supply = s.supply := by rw [hw]; rfl
  have hsent : w.sent = s.sent := by rw [hw]; rfl
  rw [← hw]
  obtain ⟨l, i, h⟩ := logCutTrainings_only (List.range 384) { w with clocks := { w.clocks with resetCause := cause } }
  exact ⟨_, h, wiped_with hwiped _ _ _ _, rfl, hsupply, hsent⟩

theorem wiped_powerLoss (s : State) : Wiped s (powerLoss s) := wiped_with (wiped_wipe s true false) _ _ _ _

/-! ### Supplies (R459 to R461) -/

theorem powerOnReset_holds (s : State) (hsb : s.supply.v3p3 = false) :
    ∃ s', exec .powerOnReset s = .next (boot s') ∧ Wiped s s' ∧
      s'.supply = { s.supply with
        v3p3 := true
        converters := s.supply.v48
        inReset := s.supply.resetLow
        flashJoined := s.supply.resetLow && s.supply.flashLow } :=
  ⟨_, if_neg (by simp [hsb]), wiped_with (wiped_wipe s false false) _ _ _ _, rfl⟩

theorem v48InRange_holds (s : State) (h48 : s.supply.v48 = false) (hsb : s.supply.v3p3 = true)
    (htrip : s.supply.thermTrip = false) :
    ∃ s', exec .v48InRange s = .next (boot s') ∧ Wiped s s' ∧ s'.clocks.resetCause = 1 ∧
      s'.supply = { s.supply with v48 := true, converters := true } := by
  obtain ⟨t, ht, hwiped, hcause, hsupply, -⟩ := resetModule_leaves { s with supply := { s.supply with v48 := true } } 1
  have hexec : exec .v48InRange s = .next (boot { t with supply := { t.supply with converters := true } }) := by
    show execV48InRange s = _
    unfold execV48InRange
    dsimp only
    rw [if_neg (by simp [h48]), if_neg (by simp [hsb, htrip]), ht]
  exact ⟨_, hexec, wiped_with hwiped _ _ _ _, hcause, by rw [hsupply]⟩

theorem v48Loss_holds (s : State) (h48 : s.supply.v48 = true) :
    ∃ s', exec .v48Loss s = .next s' ∧ Wiped s s' ∧ s'.supply = { s.supply with v48 := false, converters := false } := by
  have hwiped := wiped_powerLoss { s with supply := { s.supply with v48 := false } }
  exact ⟨_, if_neg (by simp [h48]), wiped_before hwiped, rfl⟩

theorem v48Dip_holds (s : State) (mv us : Nat) (h48 : s.supply.v48 = true) :
    ∃ s', exec (.v48Dip mv us) s = .next s' ∧
      if 30000 ≤ mv ∧ us ≤ 2000 then s' = s
      else Wiped s s' ∧ s'.supply = { s.supply with v48 := false, converters := false } := by
  by_cases hride : 30000 ≤ mv ∧ us ≤ 2000
  · simp only [if_pos hride]
    exact ⟨s, if_pos (by simpa using hride), rfl⟩
  · simp only [if_neg hride]
    obtain ⟨s', hexec, hleft⟩ := v48Loss_holds s h48
    exact ⟨s', (if_neg (by simpa using hride)).trans hexec, hleft⟩

theorem v3p3SbLoss_holds (s : State) (hsb : s.supply.v3p3 = true) :
    ∃ s', exec .v3p3SbLoss s = .next s' ∧ Wiped s s' ∧ s'.supply.v3p3 = false ∧ s'.supply.converters = false ∧
      s'.supply.thermTrip = false ∧ s'.supply.v48 = s.supply.v48 :=
  ⟨_, if_neg (by simp [hsb]), wiped_with (wiped_wipe s false false) _ _ _ _, rfl, rfl, rfl, rfl⟩

theorem thermTripRelease_holds (s : State) (ms : Nat) (h48 : s.supply.v48 = false) (hms : 100 ≤ ms) :
    ∃ s', exec (.thermTripRelease ms) s = .next s' ∧ s' = { s with supply := { s.supply with thermTrip := false } } :=
  ⟨_, if_neg (by simp [h48, hms]), rfl⟩

/-! ### Module reset and the recovery pins (R408, R409, R464) -/

theorem moduleResetN_holds (s : State) (us : Nat) :
    ∃ s', exec (.moduleResetN us) s = .next s' ∧
      if us < 1000 then s' = s
      else if s.supply.v3p3 = false then s' = { s with supply := { s.supply with resetLow := true } }
      else Wiped s s' ∧ s'.clocks.resetCause = 2 ∧
        s'.supply = { s.supply with resetLow := true, inReset := true, flashJoined := s.supply.flashLow } := by
  by_cases hshort : us < 1000
  · simp only [if_pos hshort]
    exact ⟨s, if_pos hshort, rfl⟩
  by_cases hsb : s.supply.v3p3 = false
  · simp only [if_neg hshort, if_pos hsb]
    exact ⟨_, (if_neg hshort).trans (if_pos (by simp [hsb])), rfl⟩
  · simp only [if_neg hshort, if_neg hsb]
    obtain ⟨t, ht, hwiped, hcause, hsupply, -⟩ := resetModule_leaves s 2
    have hexec : exec (.moduleResetN us) s = .next { t with supply := { t.supply with
        resetLow := true, inReset := true, flashJoined := t.supply.flashLow } } := by
      rw [← ht]
      exact (if_neg hshort).trans (if_neg (by simpa using hsb))
    exact ⟨_, hexec, wiped_with hwiped _ _ _ _, hcause, by rw [hsupply]⟩

theorem moduleResetNRise_holds (s : State) (hlow : s.supply.resetLow = true) :
    ∃ s', exec .moduleResetNRise s = .next (boot s') ∧
      s' = { s with supply := { s.supply with
        resetLow := false
        inReset := s.supply.flashJoined && s.supply.flashLow
        flashJoined := s.supply.flashJoined && s.supply.flashLow } } :=
  ⟨_, if_neg (by simp [hlow]), rfl⟩

theorem moduleReset_holds (s : State) (hans : Answers s .operator 0x2000) :
    ∃ s', exec (.moduleReset .operator 0xA5) s = .next ((boot s').send (.status .operator 0x2000 0x05 .ok)) ∧ Wiped s s' ∧
      s'.clocks.resetCause = 3 ∧ s'.supply = s.supply ∧ s'.sent = s.sent := by
  obtain ⟨t, ht, hwiped, hcause, hsupply, hsent⟩ := resetModule_leaves s 3
  have hwrite : setModuleReset s 0xA5 = (.ok, boot t) := by
    rw [← ht]
    exact (if_neg (by decide)).trans (if_neg (by decide))
  exact ⟨t, answer_operator_of_written 0x05 false false hans hwrite, hwiped, hcause, hsupply, hsent⟩

theorem flashExtN_low (s : State) (images : List (Nat × FwImage)) :
    ∃ s', exec (.flashExtN true images) s = .next s' ∧ s' = { s with supply := { s.supply with
      flashLow := true
      flashJoined := s.supply.flashJoined || (s.supply.resetLow && s.supply.v3p3) } } :=
  ⟨_, rfl, rfl⟩

theorem flashExtN_high (s : State) (images : List (Nat × FwImage)) :
    ∃ s', exec (.flashExtN false images) s = .next (boot s') ∧
      s'.supply = { s.supply with flashLow := false, flashJoined := false, inReset := s.supply.resetLow } ∧
      s'.cart = (if s.supply.flashJoined then { s.cart with
        active := images.foldl (fun t x => Tab.put t x.1 x.2) s.cart.active } else s.cart) ∧
      s' = { s with supply := s'.supply, cart := s'.cart } := by
  refine ⟨_, rfl, ?_⟩
  by_cases hjoined : s.supply.flashJoined = true
  · simp only [if_pos hjoined, and_self]
  · simp only [if_neg hjoined, and_self]

/-- Settles O42: each reset is one wipe of the state, and what differs is the supplies and the cause that it sets. How the supplies,
the standby rail, the pin that holds the reset and the flash combine, and that boot follows in the same step, are the model's
choices (log entries 59 and 60). -/
theorem resetsAndSupplies : Obligations.ResetsAndSupplies :=
  ⟨powerOnReset_holds, v48InRange_holds, v48Loss_holds, v48Dip_holds, v3p3SbLoss_holds, moduleResetN_holds,
    moduleResetNRise_holds, moduleReset_holds, thermTripRelease_holds,
    fun s images => ⟨flashExtN_low s images, flashExtN_high s images⟩⟩

end Sys2Proof.Proofs.ResetsOfModule
end

section
/-! PROOFS. The family of 13_cartouche_security.md: what a teardown leaves of the parcels, and the turns of the controllers of
their security state (R191, R305). -/

namespace Sys2Proof.Proofs.SecurityFrame

open Sys2Proof Sys2Proof.Machine Sys2Proof.Claims Sys2Proof.Proofs.ArrayTiles Sys2Proof.Proofs.Engines
open Sys2Proof.Proofs.PereoStacks Sys2Proof.Proofs.FaultTeardown Sys2Proof.Proofs.TeardownFrame

/-! ### A fold over things that are each met once -/

/-- Where a fold takes each element once, and only the step at `x` matters, it is that one step. -/
theorem foldl_once {α β : Type} {f : α → β → α} {R : α → α → Prop} (hrefl : ∀ a, R a a)
    (htrans : ∀ {a b c}, R a b → R b c → R a c) {x : β} (hother : ∀ a b, b ≠ x → R a (f a b)) {l : List β} (hmem : x ∈ l)
    (hnodup : l.Nodup) (a : α) : ∃ a₁, R a a₁ ∧ R (f a₁ x) (l.foldl f a) := by
  have hkeeps {l : List β} (hnot : x ∉ l) (a : α) : R a (l.foldl f a) := by
    induction l generalizing a with
    | nil => exact hrefl a
    | cons b l ih =>
      obtain ⟨hb, hl⟩ := not_or.1 (mt List.mem_cons.2 hnot)
      exact htrans (hother a b (Ne.symm hb)) (ih hl _)
  induction l generalizing a with
  | nil => cases hmem
  | cons b l ih =>
    obtain ⟨hb, hl⟩ := List.nodup_cons.1 hnodup
    by_cases hx : b = x
    · subst hx
      exact ⟨a, hrefl a, hkeeps hb _⟩
    · obtain ⟨a₁, h₁, h₂⟩ := ih ((List.mem_cons.1 hmem).resolve_left (Ne.symm hx)) hl (f a b)
      exact ⟨a₁, htrans (hother a b hx) h₁, h₂⟩

/-! ### A change of one parcel's security state -/

theorem parcel_modSec_self (s : State) (p : Nat) (f : ParcelSec → ParcelSec) :
    (modSec s p f).parcel p = { s.parcel p with sec := f (s.parcel p).sec } := s.parcel_modParcel_self p _

theorem parcel_modSec_ne (s : State) {p q : Nat} (f : ParcelSec → ParcelSec) (h : q ≠ p) :
    (modSec s p f).parcel q = s.parcel q := s.parcel_modParcel_ne _ h

theorem sec_modSec (s : State) (p : Nat) (f : ParcelSec → ParcelSec) :
    ((modSec s p f).parcel p).sec = f (s.parcel p).sec := congrArg Parcel.sec (parcel_modSec_self s p f)

/-! ### What a teardown leaves of the parcels (R305) -/

/-- The part of a parcel's state that a teardown leaves: its mode, its interface and its stream. -/
def standing (P : Parcel) : ParcelMode × TdiState × Bool × BitVec 256 :=
  (P.ctl.mode, P.sec.tdi, P.sec.ideSecure, P.sec.ideKey)

/-- From `s` to `s'` every parcel but `p` is as it was but for its accounts, and the standing of `p` is. -/
structure OneParcel (s s' : State) (p : Nat) : Prop where
  others : ∀ q, q ≠ p → s'.parcel q = { s.parcel q with acct := (s'.parcel q).acct }
  own : standing (s'.parcel p) = standing (s.parcel p)

theorem OneParcel.of_parcels {s s' : State} {p : Nat} (h : s'.parcels = s.parcels) : OneParcel s s' p where
  others q _ := by rw [parcel_congr h]
  own := by rw [parcel_congr h]

theorem OneParcel.trans {s s' s'' : State} {p : Nat} (h : OneParcel s s' p) (h' : OneParcel s' s'' p) : OneParcel s s'' p where
  others q hq := by rw [h'.others q hq, h.others q hq]
  own := h'.own.trans h.own

theorem OneParcel.tdi {s s' : State} {p : Nat} (h : OneParcel s s' p) : (s'.parcel p).sec.tdi = (s.parcel p).sec.tdi :=
  congrArg (fun x => x.2.1) h.own

theorem OneParcel.stream {s s' : State} {p : Nat} (h : OneParcel s s' p) :
    ((s'.parcel p).sec.ideSecure, (s'.parcel p).sec.ideKey) = ((s.parcel p).sec.ideSecure, (s.parcel p).sec.ideKey) :=
  congrArg (fun x => x.2.2) h.own

theorem oneParcel_foldl {β : Type} {f : State → β → State} {p : Nat} (h : ∀ s b, OneParcel s (f s b) p) (l : List β)
    (s : State) : OneParcel s (l.foldl f s) p :=
  List.foldlRecOn (motive := fun s' => OneParcel s s' p) l f (.of_parcels rfl) fun _ hs b _ => hs.trans (h _ b)

theorem oneParcel_modParcel (s : State) {p : Nat} {f : Parcel → Parcel} (h : standing (f (s.parcel p)) = standing (s.parcel p)) :
    OneParcel s (s.modParcel p f) p where
  others _ hq := by rw [State.parcel_modParcel_ne _ _ hq]
  own := by rw [State.parcel_modParcel_self, h]

theorem oneParcel_modServing (s : State) (p : Nat) (f : Serving → Serving) : OneParcel s (s.modServing p f) p :=
  oneParcel_modParcel s rfl

theorem oneParcel_count (s : State) (q : Option Nat) (k n p : Nat) : OneParcel s (s.count q k n) p where
  others i _ := State.count_parcel s q k n i
  own := by rw [State.count_parcel]; rfl

theorem oneParcel_raise (s : State) (fn vec p : Nat) : OneParcel s (s.raise fn vec) p := .of_parcels (s.raise_parcels _ _)

theorem oneParcel_logEvent (s : State) (a b c : Nat) (q : Option Nat) (d e p : Nat) :
    OneParcel s (s.logEvent a b c q d e) p := .of_parcels (s.logEvent_parcels _ _ _ _ _ _)

theorem oneParcel_modChannel (s : State) (c : Nat) (f : Channel → Channel) (p : Nat) : OneParcel s (s.modChannel c f) p :=
  .of_parcels rfl

theorem oneParcel_stopParcel (s : State) (q cyc p : Nat) : OneParcel s (stopParcel s q cyc) p := by
  refine oneParcel_foldl (fun s t => ?_) _ s
  exact (oneParcel_foldl (fun s _ => by exact oneParcel_count s _ _ _ p) _ s).trans (.of_parcels rfl)

theorem oneParcel_outcome (s : State) (p o : Nat) : OneParcel s (outcome s p o) p :=
  OneParcel.trans (s' := s.modCtl p fun k => { k with resultOutcome := o, resultTick := s.now }) (oneParcel_modParcel s rfl)
    (oneParcel_raise _ _ _ _)

theorem oneParcel_discardCommand (s : State) (p : Nat) : OneParcel s (discardCommand s p) p := by
  have hclear : OneParcel s (s.modCtl p fun k => { k with held := none, sampled := 0 }) p := oneParcel_modParcel s rfl
  unfold discardCommand outcomeSampled
  dsimp only
  split
  · exact hclear.trans (oneParcel_outcome _ _ _)
  split
  · split
    · exact hclear.trans (oneParcel_outcome _ _ _)
    · exact hclear
  · exact hclear

theorem enqueuePages_parcels (tick : Nat) (l : List (Nat × Nat)) (s : State) :
    (enqueuePages tick s l).1.parcels = s.parcels := by
  induction l generalizing s with
  | nil => rfl
  | cons x l ih =>
    obtain ⟨c, g⟩ := x
    rw [enqueuePages]
    cases hq : enqueueClear s c g tick with
    | none => exact ih s
    | some s' =>
      rw [enqueueClear] at hq
      split at hq
      · rw [← Option.some.inj hq]
        exact ih _
      · cases hq

theorem oneParcel_freeColumns (s : State) (p tick : Nat) (cols : List Nat) : OneParcel s (freeColumns s p tick cols) p := by
  unfold freeColumns
  split
  · exact oneParcel_foldl (fun s c => OneParcel.trans (.of_parcels (enqueuePages_parcels tick (columnPages s p c) s))
      (oneParcel_modServing _ p _)) _ s
  · exact .of_parcels rfl

theorem oneParcel_complete (s : State) (p r : Nat) (c : Comp) : OneParcel s (complete s p r c) p := by
  unfold complete holdComp
  exact oneParcel_modServing s p _

theorem oneParcel_refuseEntry (s : State) (p r reason : Nat) (tag : BitVec 32) (tick : Nat) :
    OneParcel s (refuseEntry s p r reason tag tick) p := (oneParcel_complete s p r _).trans (oneParcel_modServing _ p _)

theorem oneParcel_endSlice (s : State) (p : Nat) : OneParcel s (endSlice s p) p := by
  unfold endSlice
  extract_lets V completed refused freed
  have hcompleted : OneParcel s completed p := oneParcel_foldl (fun s g => by
    dsimp only
    split
    · exact oneParcel_complete _ _ _ _
    split
    · exact .of_parcels rfl
    · exact oneParcel_complete _ _ _ _) _ s
  have hrefused : OneParcel completed refused p :=
    oneParcel_foldl (fun s _ => by exact oneParcel_refuseEntry s _ _ _ _ _) _ _
  have hfreed : OneParcel refused freed p := oneParcel_foldl (fun s _ => oneParcel_freeColumns s p s.now _) _ _
  exact ((hcompleted.trans hrefused).trans hfreed).trans (oneParcel_modServing _ p _)

theorem oneParcel_recordUnits (s : State) (q c : Nat) (primary : Option Nat) (p : Nat) :
    OneParcel s (recordUnits s q c primary) p := by
  refine oneParcel_foldl (fun s u => ?_) _ s
  split
  · exact .of_parcels rfl
  · exact (oneParcel_modChannel s c _ p).trans (oneParcel_logEvent _ _ _ _ _ _ _ p)

theorem oneParcel_stopUnits (cyc : Nat) (s : State) (c p : Nat) : OneParcel s (stopUnits cyc s c) p :=
  oneParcel_foldl (fun s _ => by exact (oneParcel_count s _ _ _ p).trans (.of_parcels rfl)) _ s

theorem oneParcel_modTile (s : State) (t : Nat) (f : Tile → Tile) (p : Nat) : OneParcel s (s.modTile t f) p := .of_parcels rfl

theorem oneParcel_clearUnits (s : State) (c p : Nat) : OneParcel s (clearUnits s c) p := .of_parcels rfl

theorem oneParcel_cutDelivery (s : State) (p result state : Nat) : OneParcel s (cutDelivery s p result state) p := by
  unfold cutDelivery
  split
  · exact (oneParcel_modParcel s rfl).trans (oneParcel_raise _ _ _ p)
  · exact .of_parcels rfl

/-- The parcel a teardown ends with stands as it did. -/
theorem standing_tornDown (P : Parcel) (record : BitVec 64) (job : JobMode) :
    standing { dropLeg P with
      tick := { P.tick with preemptPending := false, preempted := false }
      remote := { P.remote with queue := [], out := [], counters := [], deferred := false }
      sec := { P.sec with exporting := none }
      ctl := { P.ctl with teardownRecord := record, tearingDown := some job } } = standing P := rfl

theorem oneParcel_teardown (s : State) (p cause : Nat) (sector : Option Nat) : OneParcel s (teardown s p cause sector) p := by
  unfold teardown
  extract_lets cyc unit stopped discarded tiles chans flightless ended unitless tileless lineless cut rec' logged
  have hflight : OneParcel discarded flightless p := .of_parcels rfl
  have hslice : OneParcel s ended p :=
    (((oneParcel_stopParcel s p cyc p).trans (oneParcel_discardCommand stopped p)).trans hflight).trans
      (oneParcel_endSlice flightless p)
  have hunits : OneParcel ended unitless p := oneParcel_foldl (fun s c =>
    ((oneParcel_stopUnits cyc s c p).trans (oneParcel_recordUnits _ p c unit p)).trans (oneParcel_clearUnits _ c p)) _ _
  have htiles : OneParcel unitless tileless p := oneParcel_foldl (fun s t => oneParcel_modTile s t clearTile p) _ _
  have hsectors : OneParcel tileless lineless p := oneParcel_foldl (fun s k =>
    .of_parcels (State.modSector_parcels (dropSectorLines s k) k fun K => { K with coreErr := 0 })) _ _
  have hlogged : OneParcel cut logged p := by
    show OneParcel cut (if cause = 6 then cut else _) p
    split
    · exact .of_parcels rfl
    · exact oneParcel_logEvent _ _ _ _ _ _ _ p
  have hcut : OneParcel lineless cut p := oneParcel_cutDelivery lineless p 0x09 5
  have hall : OneParcel s logged p := ((((hslice.trans hunits).trans htiles).trans hsectors).trans hcut).trans hlogged
  refine hall.trans ?_
  clear_value logged
  exact oneParcel_modParcel logged (standing_tornDown _ _ _)

theorem oneParcel_stopJob (s : State) (p : Nat) : OneParcel s (stopJob s p) p := by
  unfold stopJob
  split
  · exact oneParcel_teardown _ _ _ _
  · exact .of_parcels rfl

theorem teardownOnly_stopJob (s : State) (p : Nat) : TeardownOnly s (stopJob s p) := by
  unfold stopJob
  split
  · exact teardownOnly_teardown _ _ _ _
  · exact .refl s

/-! ### What the turns of a controller leave of the security state (R191) -/

/-- No parcel's security state has changed, and nothing has been sent. -/
structure SecKept (s s' : State) : Prop where
  sec : ∀ q, (s'.parcel q).sec = (s.parcel q).sec
  sent : s'.sent = s.sent

theorem SecKept.of_parcels {s s' : State} (h : s'.parcels = s.parcels) (hsent : s'.sent = s.sent) : SecKept s s' where
  sec q := by rw [parcel_congr h]
  sent := hsent

theorem SecKept.refl (s : State) : SecKept s s := .of_parcels rfl rfl

theorem SecKept.trans {s s' s'' : State} (h : SecKept s s') (h' : SecKept s' s'') : SecKept s s'' where
  sec q := (h'.sec q).trans (h.sec q)
  sent := h'.sent.trans h.sent

theorem secKept_modParcel (s : State) (p : Nat) {f : Parcel → Parcel} (h : (f (s.parcel p)).sec = (s.parcel p).sec) :
    SecKept s (s.modParcel p f) where
  sec q := by
    by_cases hq : q = p
    · rw [hq, State.parcel_modParcel_self, h]
    · rw [State.parcel_modParcel_ne _ _ hq]
  sent := rfl

theorem secKept_modServing (s : State) (p : Nat) (f : Serving → Serving) : SecKept s (s.modServing p f) :=
  secKept_modParcel s p rfl

theorem secKept_count (s : State) (q : Option Nat) (k n : Nat) : SecKept s (s.count q k n) where
  sec i := by rw [State.count_parcel]
  sent := s.count_sent q k n

theorem secKept_logCycle (s : State) (y a b c : Nat) (q : Option Nat) (d e : Nat) : SecKept s (s.logCycle y a b c q d e) :=
  .of_parcels (s.logCycle_parcels _ _ _ _ _ _ _) (s.logCycle_sent _ _ _ _ _ _ _)

theorem secKept_markLegFaulted (s : State) (p : Nat) : SecKept s (s.markLegFaulted p) :=
  secKept_modParcel s p (by split <;> rfl)

theorem secKept_engineFaultAt (s : State) (t e cyc : Nat) (pc : BitVec 12) (idx : Nat) (cause : Cause) (chan cairn : Nat) :
    SecKept s (s.engineFaultAt t e cyc pc idx cause chan cairn) := by
  have hset (s : State) (x : Engine) : SecKept s (s.setEngine t e x) := .of_parcels rfl rfl
  unfold State.engineFaultAt
  cases s.tileParcel t with
  | none =>
    dsimp only
    split
    · exact .refl s
    · exact (hset s _).trans (secKept_logCycle _ _ _ _ _ _ _ _)
  | some p =>
    dsimp only
    split
    · exact .refl s
    · refine .trans (.trans (.trans ?_ (hset _ _)) (secKept_logCycle _ _ _ _ _ _ _ _)) (secKept_markLegFaulted _ _)
      split
      · refine .trans ?_ (secKept_modParcel _ _ rfl)
        split
        · exact .of_parcels rfl rfl
        · exact .refl s
      · exact .refl s

theorem secKept_copyFault (s : State) (t e ch cyc : Nat) (cause : Cause) : SecKept s (copyFault s t e ch cyc cause) := by
  unfold copyFault
  exact SecKept.trans (s' := s.modCopyChan t e ch fun K => { K with halted := true }) (.of_parcels rfl rfl)
    (secKept_engineFaultAt _ _ _ _ _ _ _ _ _)

theorem secKept_copyUncorr (s : State) (c t e ch cyc o reader : Nat) : SecKept s (copyUncorr s c t e ch cyc o reader) :=
  (secKept_logCycle s cyc 3 2 c (s.channelParcel c) (reader + pairOf o * 256) (o / 64 * 64)).trans
    (secKept_copyFault _ _ _ _ _ _)

theorem secKept_bucketEvents (s : State) (source i : Nat) (p : Option Nat) (n : Nat) :
    SecKept s (s.bucketEvents source i p n) :=
  .of_parcels (s.bucketEvents_parcels _ _ _ _) (s.bucketEvents_sent _ _ _ _)

theorem secKept_bucketEvent (s : State) (source i : Nat) (p : Option Nat) : SecKept s (s.bucketEvent source i p) :=
  .of_parcels (s.bucketEvent_parcels _ _ _) (s.bucketEvent_sent _ _ _)

theorem secKept_readTurn (s : State) (c o n : Nat) (volatile : Bool) : SecKept s (readTurn s c o n volatile).1 := by
  unfold readTurn
  extract_lets g gs inLine fromBank
  have hfrom : ∀ s, SecKept s (fromBank s).1 := fun s => by
    show SecKept s (match gs.find? fun x => granuleErr s x = 2 with
      | some x => (s, .error (x * 64 - stackKey c 0))
      | none => (placeLine (countCorrected s c gs) c g, .ok (bankRead s c o n)) : State × Except Nat (List Byte)).1
    split
    · exact .refl s
    · exact (secKept_bucketEvents s _ _ _ _).trans (.of_parcels rfl rfl)
  split
  · split
    · exact hfrom s
    · split
      · exact SecKept.trans (s' := dropLine s c g) (.of_parcels rfl rfl) ((secKept_bucketEvent _ _ _ _).trans (hfrom _))
      · exact secKept_bucketEvents s _ _ _ _
  · exact hfrom s

theorem secKept_countLanes (s : State) (c g : Nat) (errs : List (Nat × Nat)) (gs : List Nat) :
    SecKept s (countLanes s c g errs gs) := by
  have h := (lanesOnly_countLanes s c g errs gs).within
  exact .of_parcels (by rw [h]) (by rw [h])

theorem secKept_countBridge (s : State) (p : Option Nat) (a b n : Nat) : SecKept s (countBridge s p a b n) := by
  unfold countBridge
  split
  · exact .refl s
  · exact secKept_count s _ _ _

theorem secKept_advanceRun (s : State) (t e ch cyc : Nat) (r : Run) (n : Nat) : SecKept s (advanceRun s t e ch cyc r n) :=
  .of_parcels rfl rfl

theorem secKept_readScratch (s : State) (p t a n : Nat) : SecKept s (s.readScratch p t a n) := by
  obtain ⟨l, i, h⟩ := s.readScratch_only p t a n
  rw [h]
  exact .of_parcels rfl rfl

theorem secKept_writeTurn (s : State) (c o : Nat) (bytes : List Byte) : SecKept s (writeTurn s c o bytes) :=
  .of_parcels rfl rfl

/-- The bytes of a turn are counted, and its run goes on. -/
theorem secKept_turnCounted (s : State) (t e ch cyc p key k a b n m : Nat) (r : Run) :
    SecKept s (advanceRun (countBridge (s.count (some p) key k) (some p) a b n) t e ch cyc r m) :=
  ((secKept_count s _ _ _).trans (secKept_countBridge _ _ _ _ _)).trans (secKept_advanceRun _ _ _ _ _ _ _)

theorem secKept_loadTurn (s : State) (c t e ch cyc p : Nat) (r : Run) (errs : List (Nat × Nat)) :
    SecKept s (loadTurn s c t e ch cyc p r errs) := by
  have hread := secKept_readTurn s c (r.offset + r.pos) (turnBytes (r.offset + r.pos) (r.len - r.pos)) r.volatile
  unfold loadTurn
  dsimp only
  split
  · exact hread.trans (secKept_copyUncorr _ _ _ _ _ _ _ _)
  · exact hread.trans (secKept_copyUncorr _ _ _ _ _ _ _ _)
  · exact ((hread.trans (secKept_countLanes _ _ _ _ _)).trans (secKept_modParcel _ p rfl)).trans
      (secKept_turnCounted _ _ _ _ _ _ _ _ _ _ _ _ _)

theorem secKept_storeTurn (s : State) (c t e ch cyc p : Nat) (r : Run) (errs : List (Nat × Nat)) :
    SecKept s (storeTurn s c t e ch cyc p r errs) := by
  unfold storeTurn
  dsimp only
  split
  · exact (secKept_logCycle s _ _ _ _ _ _ _).trans (secKept_copyFault _ _ _ _ _ _)
  · have hread := secKept_readScratch s p t (r.scratch + r.pos) (turnBytes (r.offset + r.pos) (r.len - r.pos))
    split
    · exact (hread.trans (secKept_writeTurn _ _ _ _)).trans (secKept_copyUncorr _ _ _ _ _ _ _ _)
    · exact ((hread.trans (secKept_writeTurn _ _ _ _)).trans (secKept_countLanes _ _ _ _ _)).trans
        (secKept_turnCounted _ _ _ _ _ _ _ _ _ _ _ _ _)

theorem secKept_modChannel (s : State) (c : Nat) (f : Channel → Channel) : SecKept s (s.modChannel c f) :=
  .of_parcels rfl rfl

theorem secKept_copyTurn (s : State) (c cyc : Nat) (errs : List (Nat × Nat)) : SecKept s (copyTurn s c cyc errs) := by
  unfold copyTurn
  split
  · dsimp only
    split
    · exact (secKept_modChannel s c _).trans (secKept_loadTurn _ _ _ _ _ _ _ _ _)
    · exact (secKept_modChannel s c _).trans (secKept_storeTurn _ _ _ _ _ _ _ _ _)
  · exact .refl s

theorem secKept_turnsBefore (c cyc n : Nat) (s : State) : SecKept s (turnsBefore c cyc n s) := by
  induction n generalizing s with
  | zero => exact .refl s
  | succ n ih =>
    unfold turnsBefore
    dsimp only
    split
    · split
      · exact (secKept_copyTurn s _ _ _).trans (ih _)
      · exact .refl s
    · exact .refl s

/-- The copy channels that come before the steward, and its own grant. -/
theorem secKept_stewardGrant (p : Nat) (write : Bool) (c : Nat) (s : State) : SecKept s (stewardGrant p write c s) :=
  (secKept_turnsBefore _ _ _ s).trans (.of_parcels rfl rfl)

theorem secKept_fetchTurns (p : Nat) (volatile : Bool) (xs : List Piece) (got : List Byte) (s : State) :
    SecKept s (fetchTurns (stewardGrant p false) p volatile xs got s).1 := by
  induction xs generalizing got s with
  | nil => exact .refl s
  | cons x xs ih =>
    have hturn := (secKept_stewardGrant p false x.channel s).trans
      (secKept_readTurn (stewardGrant p false x.channel s) x.channel x.offset x.len volatile)
    unfold fetchTurns
    split
    next heq => rw [heq] at hturn; exact hturn
    next heq =>
      rw [heq] at hturn
      exact (hturn.trans (secKept_count _ _ _ _)).trans (ih _ _)

theorem secKept_stewardWrite (s : State) (p sub a : Nat) (bytes : List Byte) : SecKept s (stewardWrite s p sub a bytes).1 := by
  unfold stewardWrite
  split
  · exact .refl s
  split
  · unfold refusedWrite
    split
    · exact .of_parcels (s.logEvent_parcels _ _ _ _ _ _) (s.logEvent_sent _ _ _ _ _ _)
    · exact .of_parcels (s.logEvent_parcels _ _ _ _ _ _) (s.logEvent_sent _ _ _ _ _ _)
  · refine List.foldlRecOn (motive := fun s' => SecKept s s') _ _ (.refl s) fun s' hs x _ => ?_
    exact ((hs.trans (secKept_stewardGrant p true x.channel s')).trans (secKept_writeTurn _ _ _ _)).trans
      (secKept_count _ _ _ _)

theorem secKept_stewardRead (s : State) (p sub a n : Nat) (volatile : Bool) :
    SecKept s (stewardRead s p sub a n volatile).1 := by
  unfold stewardRead
  split
  · exact .refl s
  next xs _ =>
    have hfetch := secKept_fetchTurns p volatile xs [] s
    split
    next heq => rw [heq] at hfetch; exact hfetch
    next heq =>
      rw [heq] at hfetch
      exact hfetch.trans (.of_parcels (State.logEvent_parcels _ _ _ _ _ _ _) (State.logEvent_sent _ _ _ _ _ _ _))

end Sys2Proof.Proofs.SecurityFrame
end

section
/-! PROOFS. The family of 13_cartouche_security.md: resets and power states of the host's functions, insecure streams and
configuration requests (R329, R330, R408, R446, R447). -/

namespace Sys2Proof.Proofs.HostFunctions

open Sys2Proof Sys2Proof.Machine Sys2Proof.Claims Sys2Proof.Proofs.ArrayTiles Sys2Proof.Proofs.PereoStacks
open Sys2Proof.Proofs.SubmissionRings Sys2Proof.Proofs.FaultTeardown Sys2Proof.Proofs.TeardownFrame
open Sys2Proof.Proofs.MailboxRegisters Sys2Proof.Proofs.SecurityFrame

theorem vfun_congr {s s' : State} (h : s'.vfs = s.vfs) (p : Nat) : vfun s' p = vfun s p := by rw [vfun, vfun, h]

theorem parcel_modVf (s : State) (p : Nat) (f : VFun → VFun) (q : Nat) : (modVf s p f).parcel q = s.parcel q :=
  parcel_congr rfl q

/-! ### An interface in ERROR (R329) -/

/-- The context of parcel `p`'s job has been torn down. -/
def ContextGone (s' : State) (p : Nat) : Prop := (s'.parcel p).ctl.tearingDown = some .tornDown ∧ (s'.parcel p).legs = []

theorem stopJob_of_live {s : State} {p : Nat} (h : jobLive (s.parcel p) = true) : ContextGone (stopJob s p) p := by
  have hdown := tornDown_teardown s p 0x04 none
  rw [stopJob, if_pos h]
  exact ⟨hdown.context, hdown.legs⟩

theorem stopJob_of_gone {s : State} {p : Nat} (h : ContextGone s p) : stopJob s p = s :=
  if_neg (by simp [jobLive, h.1])

/-- An interface that goes to ERROR takes its job with it; nothing but a teardown and the interface's state changes. -/
structure InterfaceStops (s s' : State) (p : Nat) : Prop where
  only : TeardownOnly s s'
  others : ∀ q, q ≠ p → s'.parcel q = { s.parcel q with acct := (s'.parcel q).acct }
  interface : InterfaceLeft s s' p
  stream : ((s'.parcel p).sec.ideSecure, (s'.parcel p).sec.ideKey) = ((s.parcel p).sec.ideSecure, (s.parcel p).sec.ideKey)
  context : jobLive (s.parcel p) = true → ContextGone s' p ∨ s'.parcel p = s.parcel p

theorem interfaceStops_interfaceError (s : State) (p : Nat) : InterfaceStops s (interfaceError s p) p := by
  unfold interfaceError
  dsimp only
  split
  next hopen =>
    have hopen : (s.parcel p).sec.tdi = .locked ∨ (s.parcel p).sec.tdi = .run := by simpa using hopen
    let t := modSec s p fun c => { c with tdi := .error }
    have ht : t.parcel p = { s.parcel p with sec := { (s.parcel p).sec with tdi := .error } } := parcel_modSec_self s p _
    have hone := oneParcel_stopJob t p
    refine ⟨TeardownOnly.trans (s' := t) (Eq.refl _) (teardownOnly_stopJob t p), fun q hq => ?_, ?_, ?_, fun hlive => ?_⟩
    · rw [hone.others q hq, parcel_modSec_ne s _ hq]
    · rw [InterfaceLeft, if_pos hopen, hone.tdi, ht]
    · rw [hone.stream, ht]
    · exact .inl (stopJob_of_live (by rw [ht]; exact hlive))
  next hclosed =>
    have hclosed : ¬ ((s.parcel p).sec.tdi = .locked ∨ (s.parcel p).sec.tdi = .run) := by simpa using hclosed
    exact ⟨.refl s, fun _ _ => rfl, (if_neg hclosed).symm, rfl, fun _ => .inr rfl⟩

/-! ### The reset of a function (R329, R408) -/

/-- A ring with its registers at their reset values; the completions held for it stay. -/
def ringReset (R : Ring) : Ring := { Ring.init with held := R.held }

theorem rings_of_reset (t : Tab Ring) (r : Nat) :
    { Tab.get Ring.init (Tab.update Ring.init (fun _ => ringReset) t) r with held := [] } = Ring.init := by
  rw [Tab.get_update _ _ _ _ rfl]
  rfl

/-- What the reset of function `p` leaves. -/
structure FunctionReset (s s' : State) (p : Nat) : Prop where
  function : vfun s' p = { vfun s p with d0 := true, mailbox := .init, refused := .init }
  functions : ∀ q, q ≠ p → vfun s' q = vfun s q
  others : ∀ q, q ≠ p → s'.parcel q = { s.parcel q with acct := (s'.parcel q).acct }
  rings : RingsReset s' p
  interface : InterfaceLeft s s' p
  stream : ((s'.parcel p).sec.ideSecure, (s'.parcel p).sec.ideKey) = ((s.parcel p).sec.ideSecure, (s.parcel p).sec.ideKey)
  context : jobLive (s.parcel p) = true → ContextGone s' p
  outside : (s'.legend, s'.cart, s'.clocks) = (s.legend, s.cart, s.clocks)

theorem functionReset_resetFunction (s : State) (p : Nat) : FunctionReset s (resetFunction s p) p := by
  have herr := interfaceStops_interfaceError s p
  have hone := oneParcel_stopJob (interfaceError s p) p
  let t := stopJob (interfaceError s p) p
  have honly : TeardownOnly s t := herr.only.trans (teardownOnly_stopJob _ p)
  have hcontext (hlive : jobLive (s.parcel p) = true) : ContextGone t p := by
    rcases herr.context hlive with hgone | hsame
    · show ContextGone (stopJob (interfaceError s p) p) p
      rw [stopJob_of_gone hgone]
      exact hgone
    · exact stopJob_of_live (by rw [hsame]; exact hlive)
  have htdi : (t.parcel p).sec.tdi = ((interfaceError s p).parcel p).sec.tdi := hone.tdi
  have hstream : ((t.parcel p).sec.ideSecure, (t.parcel p).sec.ideKey) = _ := hone.stream.trans herr.stream
  have hothers (q : Nat) (hq : q ≠ p) : t.parcel q = { s.parcel q with acct := (t.parcel q).acct } :=
    (hone.others q hq).trans (by rw [herr.others q hq])
  have hreset : resetFunction s p =
      modVf (resetRings t p) p fun f => { f with d0 := true, mailbox := .init, refused := .init } := rfl
  clear_value t
  have hself : (resetFunction s p).parcel p = { t.parcel p with serving := { (t.parcel p).serving with
      subRings := Tab.update Ring.init (fun _ => ringReset) (t.parcel p).serving.subRings
      compRings := Tab.update Ring.init (fun _ => ringReset) (t.parcel p).serving.compRings } } := by
    rw [hreset, parcel_modVf]
    exact parcel_modServing_self t p _
  have hvfs : t.vfs = s.vfs := by rw [honly]
  refine ⟨?_, fun q hq => ?_, fun q hq => ?_, fun r => ?_, ?_, ?_, fun hlive => ?_, ?_⟩
  · rw [hreset, vfun_modVf_self]
    exact congrArg (fun f : VFun => { f with d0 := true, mailbox := .init, refused := .init }) (vfun_congr hvfs p)
  · rw [hreset, vfun_modVf_ne _ _ hq]
    exact vfun_congr hvfs q
  · have hq' : (resetFunction s p).parcel q = t.parcel q := by
      rw [hreset, parcel_modVf]
      exact State.parcel_modParcel_ne t _ hq
    rw [hq']
    exact hothers q hq
  · rw [hself]
    exact ⟨rings_of_reset _ r, rings_of_reset _ r⟩
  · rw [InterfaceLeft, hself]
    exact htdi.trans herr.interface
  · rw [hself]
    exact hstream
  · rw [ContextGone, hself]
    exact hcontext hlive
  · rw [hreset]
    show (t.legend, t.cart, t.clocks) = _
    rw [honly]

theorem clockRecord_only (s : State) (a b c d : Nat) : ∃ l i, clockRecord s a b c d = { s with log := l, irq := i } :=
  s.logEvent_only _ _ _ _ _ _

theorem vfFlr_holds (s : State) (p : ParcelId) (hpresent : (vfun s p).present = true) :
    ∃ s', exec (.vfFlr p) s = .next s' ∧
      vfun s' p = { vfun s p with d0 := true, mailbox := .init, refused := .init } ∧ RingsReset s' p ∧
      InterfaceLeft s s' p ∧
      (jobLive (s.parcel p) = true → (s'.parcel p).ctl.tearingDown = some .tornDown ∧ (s'.parcel p).legs = []) ∧
      ∀ q, q ≠ p.val → vfun s' q = vfun s q ∧ s'.parcel q = { s.parcel q with acct := (s'.parcel q).acct } := by
  obtain ⟨l, i, hrecord⟩ := clockRecord_only s 0x185 4 4 p
  have hreset := functionReset_resetFunction { s with log := l, irq := i } p
  have hexec : exec (.vfFlr p) s = .next (resetFunction { s with log := l, irq := i } p) := by
    rw [← hrecord]
    exact if_neg (by simp [hpresent])
  exact ⟨_, hexec, hreset.function, hreset.rings, hreset.interface, hreset.context,
    fun q hq => ⟨hreset.functions q hq, hreset.others q hq⟩⟩

/-! ### The reset of the host interface (R408) -/

/-- Function `p` after a reset of the host interface: its stream insecure, its registers reset, and gone. -/
def functionGone (s : State) (p : Nat) : State :=
  modVf (resetFunction (modSec s p fun c => { c with ideSecure := false, ideKey := 0 }) p) p fun f => { f with present := false }

/-- Function `p` and its parcel are as they were, but for the parcel's accounts. -/
def FunctionKept (p : Nat) (s s' : State) : Prop :=
  vfun s' p = vfun s p ∧ s'.parcel p = { s.parcel p with acct := (s'.parcel p).acct }

theorem FunctionKept.trans {p : Nat} {s s' s'' : State} (h : FunctionKept p s s') (h' : FunctionKept p s' s'') :
    FunctionKept p s s'' := ⟨h'.1.trans h.1, by rw [h'.2, h.2]⟩

/-- What the going of function `p` leaves. -/
structure FunctionGone (s s' : State) (p : Nat) : Prop where
  function : vfun s' p = { VFun.init with present := false }
  functions : ∀ q, q ≠ p → FunctionKept q s s'
  secure : (s'.parcel p).sec.ideSecure = false
  rings : RingsReset s' p
  interface : InterfaceLeft s s' p
  outside : (s'.legend, s'.cart, s'.clocks) = (s.legend, s.cart, s.clocks)

theorem functionGone_holds (s : State) (p : Nat) : FunctionGone s (functionGone s p) p := by
  let u := modSec s p fun c => { c with ideSecure := false, ideKey := 0 }
  have hself : u.parcel p = { s.parcel p with sec := { (s.parcel p).sec with ideSecure := false, ideKey := 0 } } :=
    parcel_modSec_self s p _
  obtain ⟨t, ht, hreset⟩ : ∃ t, functionGone s p = modVf t p (fun f => { f with present := false }) ∧ FunctionReset u t p :=
    ⟨_, rfl, functionReset_resetFunction u p⟩
  have hstream := hreset.stream
  have hinterface := hreset.interface
  rw [hself] at hstream
  rw [InterfaceLeft, hself] at hinterface
  rw [ht]
  refine ⟨?_, fun q hq => ⟨?_, ?_⟩, ?_, fun r => ?_, ?_, hreset.outside⟩
  · rw [vfun_modVf_self, hreset.function]
    rfl
  · rw [vfun_modVf_ne _ _ hq]
    exact hreset.functions q hq
  · rw [parcel_modVf, hreset.others q hq, parcel_modSec_ne s _ hq]
  · rw [parcel_modVf]
    exact (Prod.mk.inj hstream).1
  · rw [parcel_modVf]
    exact hreset.rings r
  · rw [InterfaceLeft, parcel_modVf]
    exact hinterface

/-- After every function has gone, each is gone, and each interface is left as it was when the first went. -/
theorem allGone (s : State) (p : Nat) (hp : p < 16) (s' : State) (hall : (List.range 16).foldl functionGone s = s') :
    vfun s' p = { VFun.init with present := false } ∧ (s'.parcel p).sec.ideSecure = false ∧ RingsReset s' p ∧
      InterfaceLeft s s' p := by
  obtain ⟨s₁, h₁, h₂⟩ := foldl_once (R := FunctionKept p) (fun _ => ⟨rfl, rfl⟩) (fun h h' => h.trans h')
    (fun s q hq => (functionGone_holds s q).functions p hq.symm) (List.mem_range.2 hp) List.nodup_range s
  rw [hall] at h₂
  obtain ⟨t, ht⟩ : ∃ t, functionGone s₁ p = t := ⟨_, rfl⟩
  have hgone := functionGone_holds s₁ p
  rw [ht] at hgone h₂
  have hinterface := hgone.interface
  obtain ⟨hvfun, hparcel⟩ := h₂
  refine ⟨hvfun.trans hgone.function, ?_, fun r => ?_, ?_⟩
  · rw [hparcel]
    exact hgone.secure
  · rw [hparcel]
    exact hgone.rings r
  · rw [InterfaceLeft, hparcel]
    rw [InterfaceLeft, h₁.2] at hinterface
    exact hinterface

theorem domain_modDomain_self (s : State) (n : Nat) (f : Domain → Domain) : domain (modDomain s n f) n = f (domain s n) :=
  Tab.get_set_self _ _ _ _

/-- A domain whose crossing is disconnected, with one more reset. -/
def disconnectedOnce (d : Domain) : Domain := { d with disconnected := true, resets := min (d.resets + 1) 0xFFFFFFFF }

/-- The host crossing disconnected with one more reset, and the link stream and the physical function's register reset. -/
def crossingReset (t : State) : State :=
  let u := modDomain t 4 disconnectedOnce
  { u with cart := { u.cart with linkIde := false, linkKey := 0 }, legend := { u.legend with refused := .init } }

theorem exec_hostInterfaceReset (s : State) (kind : Fin 4) (hconv : s.supply.converters = true) :
    exec (.hostInterfaceReset kind) s =
      .next (crossingReset ((List.range 16).foldl functionGone (clockRecord s 0x185 4 kind 0))) := by
  show execHostInterfaceReset kind s = _
  unfold execHostInterfaceReset
  rw [if_neg (by simp [hconv])]
  generalize List.range 16 = l
  rfl

theorem domain_crossingReset (t : State) : domain (crossingReset t) 4 = disconnectedOnce (domain t 4) :=
  domain_modDomain_self t 4 disconnectedOnce

theorem hostInterfaceReset_holds (s : State) (kind : Fin 4) (hconv : s.supply.converters = true) :
    ∃ s', exec (.hostInterfaceReset kind) s = .next s' ∧
      (∀ p, p < 16 → vfun s' p = { VFun.init with present := false } ∧ (s'.parcel p).sec.ideSecure = false ∧
        RingsReset s' p ∧ InterfaceLeft s s' p) ∧
      s'.cart.linkIde = false ∧ s'.cart.linkKey = 0 ∧ s'.legend = { s.legend with refused := .init } ∧
      (domain s' 4).disconnected = true ∧ (domain s' 4).resets = min ((domain s 4).resets + 1) 0xFFFFFFFF := by
  obtain ⟨l, i, hrecord⟩ := clockRecord_only s 0x185 4 kind 0
  have hexec := exec_hostInterfaceReset s kind hconv
  rw [hrecord] at hexec
  obtain ⟨t, ht⟩ : ∃ t, (List.range 16).foldl functionGone { s with log := l, irq := i } = t := ⟨_, rfl⟩
  have hgone (p : Nat) (hp : p < 16) := allGone { s with log := l, irq := i } p hp t ht
  have houtside := foldl_keeps _ (fun s : State => (s.legend, s.cart, s.clocks))
    (fun s p => (functionGone_holds s p).outside) (List.range 16) { s with log := l, irq := i }
  rw [ht] at hexec houtside
  simp only [Prod.mk.injEq] at houtside
  obtain ⟨hlegend, -, hclocks⟩ := houtside
  have hdomain := domain_crossingReset t
  rw [show domain t 4 = domain s 4 by rw [domain, hclocks]; rfl] at hdomain
  refine ⟨_, hexec, hgone, rfl, rfl, ?_, congrArg Domain.disconnected hdomain, congrArg Domain.resets hdomain⟩
  show { t.legend with refused := .init } = _
  rw [hlegend]

/-! ### Power states, insecure streams and configuration requests (R329, R330, R446, R447) -/

theorem vfPowerState_holds (s : State) (p : ParcelId) (present d0 : Bool) :
    ∃ s', exec (.vfPowerState p present d0) s = .next s' ∧
      vfun s' p = { vfun s p with present := present, d0 := d0 } ∧ (∀ q, q ≠ p.val → vfun s' q = vfun s q) ∧
      s' = { s with vfs := s'.vfs } :=
  ⟨_, rfl, vfun_modVf_self s _, fun _ hq => vfun_modVf_ne s _ hq, rfl⟩

theorem ideStreamInsecure_function (s : State) (p : ParcelId) :
    ∃ s', exec (.ideStreamInsecure (some p)) s = .next s' ∧
      (s'.parcel p).sec.ideSecure = false ∧ (s'.parcel p).sec.ideKey = 0 ∧ InterfaceLeft s s' p ∧ s'.vfs = s.vfs := by
  have herr := interfaceStops_interfaceError (modSec s p fun c => { c with ideSecure := false, ideKey := 0 }) p
  have hstream := herr.stream
  have hinterface := herr.interface
  rw [parcel_modSec_self] at hstream
  rw [InterfaceLeft, parcel_modSec_self] at hinterface
  obtain ⟨hsecure, hkey⟩ := Prod.mk.inj hstream
  refine ⟨_, rfl, hsecure, hkey, hinterface, ?_⟩
  rw [herr.only]
  rfl

theorem configRequest_holds (s : State) (fn register : Nat) (hconv : s.supply.converters = true)
    (hreset : s.supply.inReset = false) :
    ∃ s' v, exec (.configRequest fn register) s = .next s' ∧ s'.sent = s.sent ++ [.config fn register v] ∧
      s' = { s with sent := s'.sent, fresh := s'.fresh } ∧
      if isReleased s = false then v = none
      else if fn ≠ 0 ∧ (16 < fn ∨ (vfun s (fn - 1)).present = false) then v = some 0xFFFFFFFF
      else register = 0 → v = some ((if fn = 0 then 0x5A04 else 0x5A05) * 65536 + Config.pciVendorId.toNat) := by
  have hon : ¬ (!s.supply.converters || s.supply.inReset) = true := by simp [hconv, hreset]
  cases hreleased : isReleased s with
  | false => exact ⟨_, none, (if_neg hon).trans (if_pos (by simp [hreleased])), rfl, rfl, rfl⟩
  | true =>
    refine ⟨_, _, (if_neg hon).trans (if_neg (by simp [hreleased])), rfl, rfl, ?_⟩
    rw [if_neg (Bool.noConfusion : true ≠ false)]
    unfold configValue
    dsimp only
    split
    next habsent => rw [if_pos (by simpa using habsent)]
    next hthere => exact fun hzero => by rw [if_neg (by simpa using hthere), if_pos hzero]

/-- Settles O44: a function's reset acts on its parcel and on itself alone, so that a reset of the host interface, which resets each
once, leaves what each reset left. Which registers go to reset values, and what CONFIG_REQUEST answers, are the model's choices
(log entry 61). -/
theorem functionsAndStreams : Obligations.FunctionsAndStreams :=
  ⟨hostInterfaceReset_holds, vfFlr_holds, vfPowerState_holds, fun _ => ⟨_, rfl, rfl⟩, ideStreamInsecure_function,
    configRequest_holds⟩

end Sys2Proof.Proofs.HostFunctions
end

section
/-! PROOFS. The family of 13_cartouche_security.md: the firmware update of PLDM type 5 (R320, R322, R339, R454, R455). -/

namespace Sys2Proof.Proofs.FirmwareUpdate

open Sys2Proof Sys2Proof.Machine Sys2Proof.Claims Sys2Proof.Proofs.ResetsOfModule

/-! ### Commands on an open binding -/

section binding

variable {s : State} {tr : Nat} (hopen : bindingOpen s tr = true)
include hopen

theorem pldmAnswer_open (command : String) (code : PldmCode) (data : List Nat) :
    pldmAnswer s tr command code data = .next (s.send (.pldm tr command code data)) :=
  congrArg Host.Outcome.next (if_pos hopen)

theorem pldmAct_open (command : String) (code : PldmCode) (effect : State → State) :
    pldmAct s tr command code effect = .next (effect (s.send (.pldm tr command code []))) :=
  congrArg Host.Outcome.next (if_pos hopen)

/-- A command that changes the update, and nothing else. -/
theorem pldmAct_modUpdate (command : String) (code : PldmCode) (f : Update → Update) :
    ∃ s', pldmAct s tr command code (fun s => modUpdate s f) = .next s' ∧
      UpdateIs s s' tr command code (f s.legend.update) :=
  ⟨_, pldmAct_open hopen command code _, rfl⟩

/-! ### The walk of an update (R454) -/

theorem requestUpdate_holds (n : Nat) : ∃ s', exec (.requestUpdate tr n) s = .next s' ∧
    if s.legend.update.mode = .idle then
      UpdateIs s s' tr "REQUEST_UPDATE" .success { Update.init with mode := .learnComponents, transport := tr, maxTransfer := n }
    else PldmSays s s' tr "REQUEST_UPDATE" .alreadyInUpdateMode [] := by
  show ∃ s', execRequestUpdate tr n s = .next s' ∧ _
  unfold execRequestUpdate
  by_cases hidle : s.legend.update.mode = .idle
  · rw [if_neg (not_not.2 hidle)]
    simp only [if_pos hidle]
    exact pldmAct_modUpdate hopen _ _ _
  · rw [if_pos hidle]
    simp only [if_neg hidle]
    exact ⟨_, pldmAnswer_open hopen _ _ _, rfl⟩

theorem passComponentTable_last {c : Nat} (hpos : 0 < c) (hlast : c ≤ 4) (hmode : s.legend.update.mode = .learnComponents) :
    ∃ s', exec (.passComponentTable tr c true) s = .next s' ∧
      UpdateIs s s' tr "PASS_COMPONENT_TABLE" .success (moved s .readyXfer) := by
  show ∃ s', execPassComponentTable tr c true s = .next s' ∧ _
  unfold execPassComponentTable
  rw [if_neg (not_not.2 hmode), if_neg (by simp; omega)]
  exact pldmAct_modUpdate hopen _ _ (updateTo .readyXfer)

theorem updateComponent_holds {c : Nat} (size : Nat) (image : FwImage) (hpos : 0 < c) (hlast : c ≤ 4)
    (hmode : s.legend.update.mode = .readyXfer) :
    ∃ s', exec (.updateComponent tr c size image) s = .next s' ∧ UpdateIs s s' tr "UPDATE_COMPONENT" .success
      { moved s .download with component := c, size := size, got := 0, image := image } := by
  show ∃ s', execUpdateComponent tr c size image s = .next s' ∧ _
  unfold execUpdateComponent
  rw [if_neg (not_not.2 hmode), if_neg (by simp; omega)]
  exact pldmAct_modUpdate hopen _ _ fun u =>
    { updateTo .download u with component := c, size := size, got := 0, image := image }

theorem transferComplete_holds (htr : s.legend.update.transport = tr) (hmode : s.legend.update.mode = .download)
    (hall : s.legend.update.size ≤ s.legend.update.got) :
    ∃ s', exec (.transferComplete tr true) s = .next s' ∧
      UpdateIs s s' tr "TRANSFER_COMPLETE" .success (moved s .verify) := by
  show ∃ s', execTransferComplete tr true s = .next s' ∧ _
  unfold execTransferComplete
  rw [if_neg (by simp [hmode, htr, hall])]
  exact pldmAct_modUpdate hopen _ _ (updateTo .verify)

theorem verifyComplete_holds (htr : s.legend.update.transport = tr) (hmode : s.legend.update.mode = .verify) :
    ∃ s', exec (.verifyComplete tr) s = .next s' ∧
      if s.legend.update.image.signed = true ∧ s.cart.securityVersion ≤ s.legend.update.image.secVersion then
        UpdateIs s s' tr "VERIFY_COMPLETE" .success (moved s .apply)
      else UpdateIs s s' tr "VERIFY_COMPLETE" .verifyFailed (moved s .readyXfer) := by
  show ∃ s', execVerifyComplete tr s = .next s' ∧ _
  unfold execVerifyComplete
  rw [if_neg (by simp [hmode, htr])]
  by_cases hok : s.legend.update.image.signed = true ∧ s.cart.securityVersion ≤ s.legend.update.image.secVersion
  · simp only [hok, Bool.and_self, decide_true]
    exact pldmAct_modUpdate hopen _ _ (updateTo .apply)
  · have hno : (s.legend.update.image.signed && decide (s.cart.securityVersion ≤ s.legend.update.image.secVersion)) = false := by
      simpa using hok
    simp only [if_neg hok, hno]
    exact pldmAct_modUpdate hopen _ _ (updateTo .readyXfer)

theorem applyComplete_holds (htr : s.legend.update.transport = tr) (hmode : s.legend.update.mode = .apply) :
    ∃ s', exec (.applyComplete tr) s = .next s' ∧
      Tab.find s'.cart.inactive s.legend.update.component = some s.legend.update.image ∧
      (∀ c, c ≠ s.legend.update.component → Tab.find s'.cart.inactive c = Tab.find s.cart.inactive c) ∧
      s'.cart.active = s.cart.active ∧ s'.legend.update.mode = .readyXfer ∧
      s'.legend.update.applied = s.legend.update.applied ++ [s.legend.update.component] :=
  ⟨_, (if_neg (by simp [hmode, htr])).trans (pldmAct_open hopen _ _ _), Tab.find_put_self _ _ _,
    fun _ hc => Tab.find_put_ne _ _ hc, rfl, rfl, rfl⟩

theorem cancelUpdateComponent_holds
    (hmode : s.legend.update.mode = .download ∨ s.legend.update.mode = .verify ∨ s.legend.update.mode = .apply) :
    ∃ s', exec (.cancelUpdateComponent tr) s = .next s' ∧
      UpdateIs s s' tr "CANCEL_UPDATE_COMPONENT" .success (moved s .readyXfer) := by
  show ∃ s', execCancelUpdateComponent tr s = .next s' ∧ _
  unfold execCancelUpdateComponent
  rw [if_pos (by simpa [or_assoc] using hmode)]
  exact pldmAct_modUpdate hopen _ _ (updateTo .readyXfer)

theorem cancelUpdate_holds (hmode : s.legend.update.mode ≠ .idle) :
    ∃ s', exec (.cancelUpdate tr) s = .next s' ∧
      UpdateIs s s' tr "CANCEL_UPDATE" .success { Update.init with previous := s.legend.update.mode } := by
  show ∃ s', execCancelUpdate tr s = .next s' ∧ _
  unfold execCancelUpdate
  rw [if_neg hmode]
  exact pldmAct_modUpdate hopen _ _ fun u => { Update.init with previous := u.mode }

end binding

/-! ### Activation (R454, R455) -/

/-- What boot leaves alone. -/
def bootKept (s : State) : Tab FwImage × Tab FwImage × Legend × Meridian × Clocks :=
  (s.cart.active, s.cart.inactive, s.legend, s.mer, s.clocks)

theorem bootKept_boot (s : State) : bootKept (boot s) = bootKept s := by
  unfold boot
  extract_lets u fail keyed cart t
  have ht : bootKept t = bootKept s := by
    show bootKept (if keyed = true then _ else s) = _
    split <;> rfl
  clear_value fail t
  split
  · rfl
  · rcases fail with _ | ⟨c, r⟩ <;> exact ht

/-- Images that take effect: the banks change places, and the module starts again with nothing of the update left. -/
theorem activate_leaves (s : State) :
    ∃ s', activate s = s' ∧ s'.legend = Legend.init ∧ s'.cart.active = s.cart.inactive ∧
      s'.cart.inactive = s.cart.active ∧ s'.clocks.resetCause = 5 ∧ s'.mer = Meridian.init := by
  obtain ⟨t, ht, hwiped, hcause, -, -⟩ := resetModule_leaves
    { s with cart := { s.cart with active := s.cart.inactive, inactive := s.cart.active, bootedActivated := true } } 5
  obtain ⟨-, -, -, -, -, -, -, hmer, hlegend, -, -, -, -, hactive, hinactive, -⟩ := hwiped
  have hkept := bootKept_boot t
  simp only [bootKept, Prod.mk.injEq] at hkept
  obtain ⟨hbactive, hbinactive, hblegend, hbmer, hbclocks⟩ := hkept
  exact ⟨boot t, congrArg boot ht, hblegend.trans hlegend, hbactive.trans hactive, hbinactive.trans hinactive,
    (congrArg Clocks.resetCause hbclocks).trans hcause, hbmer.trans hmer⟩

/-- ACTIVATE_FIRMWARE's effect with an image applied: the update is over, and the images take effect or wait. -/
def activateOrWait (s : State) : State :=
  let s := modUpdate s fun u => { Update.init with previous := u.mode }
  if allFree s then activate s else { s with cart := { s.cart with activation := true } }

theorem activateOrWait_leaves (s : State) : (activateOrWait s).legend.update.mode = .idle ∧
    if allFree s = true then
      (activateOrWait s).cart.active = s.cart.inactive ∧ (activateOrWait s).cart.inactive = s.cart.active ∧
        (activateOrWait s).clocks.resetCause = 5 ∧ (activateOrWait s).mer = Meridian.init
    else (activateOrWait s).cart = { s.cart with activation := true } ∧ (activateOrWait s).mer = s.mer := by
  obtain ⟨t, ht⟩ : ∃ t, modUpdate s (fun u => { Update.init with previous := u.mode }) = t := ⟨_, rfl⟩
  have hfree : allFree t = allFree s := by rw [← ht]; rfl
  have hcart : t.cart = s.cart := by rw [← ht]; rfl
  unfold activateOrWait
  rw [ht]
  dsimp only
  by_cases h : allFree s = true
  · obtain ⟨u, hu, hlegend, hactive, hinactive, hcause, hmer⟩ := activate_leaves t
    rw [hcart] at hactive hinactive
    rw [hfree, if_pos h, if_pos h, hu]
    exact ⟨by rw [hlegend]; rfl, hactive, hinactive, hcause, hmer⟩
  · rw [hfree, if_neg h, if_neg h, ← ht]
    exact ⟨rfl, rfl, rfl⟩

theorem activateFirmware_applied {s : State} {tr : Nat} (hopen : bindingOpen s tr = true)
    (hmode : s.legend.update.mode = .readyXfer) (happlied : s.legend.update.applied ≠ []) :
    ∃ s', exec (.activateFirmware tr) s = .next s' ∧ s'.legend.update.mode = .idle ∧
      if allFree s = true then
        s'.cart.active = s.cart.inactive ∧ s'.cart.inactive = s.cart.active ∧ s'.clocks.resetCause = 5 ∧
        s'.mer = Meridian.init
      else s'.cart = { s.cart with activation := true } ∧ s'.mer = s.mer :=
  ⟨_, (if_pos (by simp [hmode, happlied])).trans (pldmAct_open hopen "ACTIVATE_FIRMWARE" .success activateOrWait),
    activateOrWait_leaves (s.send (.pldm tr "ACTIVATE_FIRMWARE" .success []))⟩

theorem activateFirmware_confirms {s : State} {tr : Nat} (hopen : bindingOpen s tr = true)
    (hmode : s.legend.update.mode = .idle) (hbooted : s.cart.bootedActivated = true)
    (hfused : s.cart.securityVersion < lowestBooted s) (hmost : lowestBooted s ≤ 64) :
    ∃ s', exec (.activateFirmware tr) s = .next s' ∧ s'.cart = { s.cart with securityVersion := lowestBooted s } ∧
      s' = { s with cart := s'.cart, sent := s.sent ++ [.pldm tr "ACTIVATE_FIRMWARE" .success []] } := by
  refine ⟨{ s.send (.pldm tr "ACTIVATE_FIRMWARE" .success []) with
    cart := { s.cart with securityVersion := lowestBooted s } }, ?_, rfl, rfl⟩
  show execActivateFirmware tr s = _
  unfold execActivateFirmware
  dsimp only
  rw [if_neg (by simp [hmode]), if_pos (by simp [hmode, hbooted]), if_neg (Nat.not_le.2 hfused),
    if_neg (Nat.not_lt.2 hmost)]
  exact pldmAct_open hopen _ _ _

theorem requestFirmwareData_holds (s : State) (tr n : Nat) (hmode : s.legend.update.mode = .download)
    (htr : s.legend.update.transport = tr) (hmore : s.legend.update.got < s.legend.update.size) :
    let ask := min (min 1024 s.legend.update.maxTransfer) (s.legend.update.size - s.legend.update.got)
    ∃ s', exec (.requestFirmwareData tr n) s = .next s' ∧
      s' = { s with
        legend := { s.legend with update := { s.legend.update with got := s.legend.update.got + min ask n } }
        sent := s.sent ++ [.requestFirmwareData tr s.legend.update.component s.legend.update.got ask] } :=
  ⟨_, if_neg (by simp [hmode, htr, hmore]), rfl⟩

/-- Settles O56: each command of the update is turned away outside its states, and in them changes the update alone; the module
starts again only where the activation meets every parcel FREE. The states and their refusals (log entry 69), and the reset with
boot in the activation's own step (log entry 60), are the model's choices. -/
theorem firmwareUpdates : Obligations.FirmwareUpdates :=
  ⟨fun s _ hopen =>
    ⟨⟨_, _, pldmAnswer_open hopen _ _ _, rfl, by simp⟩,
      ⟨_, _, pldmAnswer_open hopen _ _ _, rfl, rfl⟩,
      ⟨_, pldmAnswer_open hopen _ _ _, rfl⟩,
      requestUpdate_holds hopen,
      fun _ => passComponentTable_last hopen,
      fun _ => updateComponent_holds hopen,
      transferComplete_holds hopen, verifyComplete_holds hopen, applyComplete_holds hopen,
      cancelUpdateComponent_holds hopen, cancelUpdate_holds hopen, activateFirmware_applied hopen,
      activateFirmware_confirms hopen⟩,
    requestFirmwareData_holds⟩

end Sys2Proof.Proofs.FirmwareUpdate
end

section
/-! PROOFS. The family of 13_cartouche_security.md: the delivery of bundles (R332 to R336). -/

namespace Sys2Proof.Proofs.Deliveries

open Sys2Proof Sys2Proof.Machine Sys2Proof.Claims Sys2Proof.Proofs.JobControl Sys2Proof.Proofs.SecurityFrame
open Sys2Proof.Proofs.ArrayTiles Sys2Proof.Proofs.PereoStacks Sys2Proof.Proofs.Engines

/-! ### The end of a delivery -/

section ending

variable (s : State) (p result st : Nat)

theorem sec_endDelivery : ((endDelivery s p result st).parcel p).sec =
    { (s.parcel p).sec with delivery := none, result := result, state := st } := by
  unfold endDelivery
  rw [parcel_congr (State.raise_parcels _ _ _)]
  exact congrArg Parcel.sec (s.parcel_modParcel_self p _)

theorem deliveryEnded_endDelivery : DeliveryEnded (endDelivery s p result st) p result st := by
  unfold DeliveryEnded
  rw [sec_endDelivery]
  exact ⟨rfl, rfl, rfl⟩

theorem stack_endDelivery : (endDelivery s p result st).stack = s.stack := State.raise_stack _ _ _

theorem sent_endDelivery : (endDelivery s p result st).sent = s.sent := State.raise_sent _ _ _

end ending

/-! ### DELIVERY_START (R333, Table 13.5) -/

/-- What a write of DELIVERY_START clears first. -/
def deliveryCleared (s : State) (p : Nat) : State :=
  modSec s p fun c => { c with bytesDelivered := 0, tensorId := 0, result := 0 }

/-- A header has failed a check with `result`; where it is a chart's, CHART_VERIFIED is clear (R336). -/
def headerFailed (s : State) (p : Nat) (h : BitVec 2048) (result : Nat) : State :=
  endDelivery (modSec (deliveryCleared s p) p fun c => { c with chartVerified := c.chartVerified && Hdr.kind h ≠ 0 }) p result 4

section start

variable {s : State} {p : Nat} {a : BitVec 64}

theorem setDeliveryStart_refused (header : Option (BitVec 2048))
    (hbar : a.toNat % 4096 ≠ 0 ∨ (s.parcel p).sec.delivery.isSome = true) : setDeliveryStart s p a header = refuse s :=
  if_pos (by simpa using hbar)

variable (ha : a.toNat % 4096 = 0) (hnone : (s.parcel p).sec.delivery = none)
include ha hnone

theorem setDeliveryStart_unread : setDeliveryStart s p a none = (.ok, endDelivery (deliveryCleared s p) p 0x06 4) :=
  if_neg (by simp [ha, hnone])

theorem setDeliveryStart_checked {h : BitVec 2048} (hfail : headerResult (s.parcel p) h ≠ 0) :
    setDeliveryStart s p a (some h) = (.ok, headerFailed s p h (headerResult (s.parcel p) h)) :=
  (if_neg (by simp [ha, hnone])).trans (if_pos hfail)

theorem setDeliveryStart_keyless {h : BitVec 2048} (hpass : headerResult (s.parcel p) h = 0)
    (hkey : unwrapped s p h = none) : setDeliveryStart s p a (some h) = (.ok, headerFailed s p h 0x02) := by
  unfold unwrapped at hkey
  refine ((if_neg (by simp [ha, hnone])).trans (if_neg (not_not.2 hpass))).trans ?_
  rw [hkey]
  rfl

theorem setDeliveryStart_begins {h : BitVec 2048} {k : BitVec 256} (hpass : headerResult (s.parcel p) h = 0)
    (hkey : unwrapped s p h = some k) :
    setDeliveryStart s p a (some h) = (.ok, beginDelivery (deliveryCleared s p) p h k) := by
  unfold unwrapped at hkey
  refine ((if_neg (by simp [ha, hnone])).trans (if_neg (not_not.2 hpass))).trans ?_
  rw [hkey]
  rfl

end start

/-- The write is answered with the status that its rule gives. -/
theorem exec_deliveryStart {s : State} {p : ParcelId} (a : BitVec 64) (header : Option (BitVec 2048))
    (hans : Answers s (.tenant p) (0x8010 + p)) :
    exec (.deliveryStart (.tenant p) p a header) s = .next ((setDeliveryStart s p a header).2.send
      (.status (.tenant p) (0x8010 + p) 0x05 (setDeliveryStart s p a header).1)) := by
  have htenant : tenantWrite (.tenant p) p s (setDeliveryStart s p a header) = setDeliveryStart s p a header := if_pos rfl
  exact (congrArg (answer (.tenant p) (0x8010 + p) 0x05 s) htenant).trans (answer_of_answers _ _ hans)

theorem sec_deliveryCleared (s : State) (p : Nat) : ((deliveryCleared s p).parcel p).sec =
    { (s.parcel p).sec with bytesDelivered := 0, tensorId := 0, result := 0 } := sec_modSec s p _

theorem sec_headerFailed (s : State) (p : Nat) (h : BitVec 2048) (result : Nat) :
    DeliveryEnded (headerFailed s p h result) p result 4 ∧
      (Hdr.kind h = 0 → ((headerFailed s p h result).parcel p).sec.chartVerified = false) := by
  refine ⟨deliveryEnded_endDelivery _ _ _ _, fun hchart => ?_⟩
  rw [headerFailed, sec_endDelivery, sec_modSec]
  simp [hchart]

/-- A delivery begins: nothing but the parcel changes, and its delivery stands before its first chunk. -/
theorem beginDelivery_leaves (s : State) (p : Nat) (h : BitVec 2048) (k : BitVec 256) :
    (beginDelivery s p h k).stack = s.stack ∧ (beginDelivery s p h k).sent = s.sent ∧
      ∃ d, ((beginDelivery s p h k).parcel p).sec = { (s.parcel p).sec with
          state := 2, delivery := some d, usedIds := (s.parcel p).sec.usedIds ++ [Hdr.bundle h]
          chartVerified := (s.parcel p).sec.chartVerified && Hdr.kind h ≠ 0 } ∧
        d.key = k ∧ d.kind = Hdr.kind h ∧ d.chunks = Hdr.chunks h ∧
        d.bundleId = Hdr.bundle h ∧ d.next = 0 ∧ d.moved = 0 ∧ d.plain = [] ∧ d.aborting = false := by
  unfold beginDelivery
  extract_lets P kind region d t
  have ht : (t.parcel p).sec = _ := sec_modSec s p _
  split
  · refine ⟨rfl, rfl, d, ?_, rfl, rfl, rfl, rfl, rfl, rfl, rfl, rfl⟩
    exact ((secKept_modServing t p _).sec p).trans ht
  · exact ⟨rfl, rfl, d, ht, rfl, rfl, rfl, rfl, rfl, rfl, rfl, rfl⟩

/-- The delivery of parcel `p` is in progress before its first chunk, with the content key `k`. -/
abbrev DeliveryBegun (s s' : State) (p : Nat) (h : BitVec 2048) (k : BitVec 256) : Prop :=
  (s'.parcel p).sec.state = 2 ∧ (s'.parcel p).sec.bytesDelivered = 0 ∧
    (s'.parcel p).sec.usedIds = (s.parcel p).sec.usedIds ++ [Hdr.bundle h] ∧
    ∃ d, (s'.parcel p).sec.delivery = some d ∧ d.key = k ∧ d.kind = Hdr.kind h ∧ d.chunks = Hdr.chunks h ∧
      d.bundleId = Hdr.bundle h ∧ d.next = 0 ∧ d.moved = 0 ∧ d.plain = [] ∧ d.aborting = false

section headers

variable {s : State} {p : ParcelId} {a : BitVec 64} {h : BitVec 2048} (ha : a.toNat % 4096 = 0)
  (hnone : (s.parcel p).sec.delivery = none) (hans : Answers s (.tenant p) (0x8010 + p))
include hans

theorem deliveryStart_fails {r : Nat} (hset : setDeliveryStart s p a (some h) = (.ok, headerFailed s p h r)) :
    ∃ s', exec (.deliveryStart (.tenant p) p a (some h)) s = .next s' ∧
      Answered s s' (.tenant p) (0x8010 + p) 0x05 .ok ∧ s'.stack = s.stack ∧
      (Hdr.kind h = 0 → (s'.parcel p).sec.chartVerified = false) ∧ DeliveryEnded s' p r 4 := by
  have hexec := exec_deliveryStart a (some h) hans
  rw [hset] at hexec
  obtain ⟨hended, hchart⟩ := sec_headerFailed s p h r
  have hsent : (headerFailed s p h r).sent = s.sent := sent_endDelivery _ _ _ _
  have hstack : (headerFailed s p h r).stack = s.stack := stack_endDelivery _ _ _ _
  exact ⟨_, hexec, congrArg (· ++ _) hsent, hstack, hchart, hended⟩

include ha hnone

theorem deliveryStart_begins {k : BitVec 256} (hpass : headerResult (s.parcel p) h = 0) (hkey : unwrapped s p h = some k) :
    ∃ s', exec (.deliveryStart (.tenant p) p a (some h)) s = .next s' ∧
      Answered s s' (.tenant p) (0x8010 + p) 0x05 .ok ∧ s'.stack = s.stack ∧
      (Hdr.kind h = 0 → (s'.parcel p).sec.chartVerified = false) ∧ DeliveryBegun s s' p h k := by
  have hexec := exec_deliveryStart a (some h) hans
  rw [setDeliveryStart_begins ha hnone hpass hkey] at hexec
  obtain ⟨hstack, hsent, d, hsec, hd⟩ := beginDelivery_leaves (deliveryCleared s p) p h k
  rw [sec_deliveryCleared] at hsec
  refine ⟨_, hexec, congrArg (· ++ _) hsent, hstack, fun hchart => ?_, ?_⟩
  · refine (congrArg ParcelSec.chartVerified hsec).trans ?_
    simp [hchart]
  · exact ⟨congrArg ParcelSec.state hsec, congrArg ParcelSec.bytesDelivered hsec, congrArg ParcelSec.usedIds hsec, d,
      congrArg ParcelSec.delivery hsec, hd⟩

end headers

theorem deliveryStart_unread (s : State) (p : ParcelId) (a : BitVec 64) (ha : a.toNat % 4096 = 0)
    (hnone : (s.parcel p).sec.delivery = none) (hans : Answers s (.tenant p) (0x8010 + p)) :
    ∃ s', exec (.deliveryStart (.tenant p) p a none) s = .next s' ∧ DeliveryEnded s' p 0x06 4 ∧ s'.stack = s.stack := by
  have hexec := exec_deliveryStart a none hans
  rw [setDeliveryStart_unread ha hnone] at hexec
  exact ⟨_, hexec, deliveryEnded_endDelivery _ _ _ _, stack_endDelivery _ _ _ _⟩

theorem deliveryStart_refused (s : State) (p : ParcelId) (a : BitVec 64) (h : Option (BitVec 2048))
    (hbar : a.toNat % 4096 ≠ 0 ∨ (s.parcel p).sec.delivery.isSome = true) (hans : Answers s (.tenant p) (0x8010 + p)) :
    ∃ s', exec (.deliveryStart (.tenant p) p a h) s = .next s' ∧
      NoEffect s s' (.tenant p) (0x8010 + p) 0x05 .refused := by
  have hexec := exec_deliveryStart a h hans
  rw [setDeliveryStart_refused h hbar] at hexec
  exact ⟨_, hexec, rfl⟩

/-! ### DELIVERY_CHUNK (R333 to R336) -/

section chunk

variable {s : State} {p : ParcelId} {d : Delivery} {x : BitVec 512} {bytes : List Byte} {chart : Option Chart}

/-- A chunk that can be judged is judged by its tag, then by its place. -/
theorem exec_deliveryChunk (hready : ChunkReady s p d x bytes chart) :
    exec (.deliveryChunk p (some x) (some bytes) chart) s =
      if wantedTag s p d x bytes ≠ Chunk.tag x then .next (endDelivery s p 0x01 4)
      else if !chunkDestOk s p d (Chunk.tensor x) (Chunk.dest x) (Chunk.len x) then
        if d.kind = 1 then .next (endDelivery (modSec s p fun c => { c with tensorId := Chunk.tensor x }) p 0x04 4)
        else .next (endDelivery s p 0x08 4)
      else .next (takeChunk s p d (Chunk.dest x) (cryptChunk d.key d.next bytes) chart) := by
  obtain ⟨hdelivery, hopen, hinset, hok, hlen, hchart⟩ := hready
  have hspelt : (decide (d.kind = 0) && decide (d.next + 1 = d.chunks) && chart.isNone) = false := by
    cases chart with
    | some c => simp
    | none => simpa using hchart
  show execDeliveryChunk p (some x) (some bytes) chart s = _
  unfold execDeliveryChunk
  simp only [hdelivery, hopen, hinset, hok, hlen, hspelt, Bool.not_true, Bool.false_eq_true, if_false, ne_eq,
    not_true_eq_false]
  rfl

theorem chunk_failing (hready : ChunkReady s p d x bytes chart) (hfails : ¬ ChunkPasses s p d x bytes) :
    ∃ s', exec (.deliveryChunk p (some x) (some bytes) chart) s = .next s' ∧ s'.stack = s.stack ∧
      if wantedTag s p d x bytes ≠ Chunk.tag x then DeliveryEnded s' p 0x01 4
      else DeliveryEnded s' p (if d.kind = 1 then 0x04 else 0x08) 4 := by
  rw [exec_deliveryChunk hready]
  by_cases htag : wantedTag s p d x bytes = Chunk.tag x
  · have hplace : chunkDestOk s p d (Chunk.tensor x) (Chunk.dest x) (Chunk.len x) = false :=
      Bool.eq_false_iff.2 fun hplace => hfails ⟨htag, hplace⟩
    rw [if_neg (not_not.2 htag), if_pos (by simp [hplace])]
    simp only [if_neg (not_not.2 htag)]
    by_cases hkind : d.kind = 1
    · rw [if_pos hkind, if_pos hkind]
      exact ⟨_, rfl, stack_endDelivery _ _ _ _, deliveryEnded_endDelivery _ _ _ _⟩
    · rw [if_neg hkind, if_neg hkind]
      exact ⟨_, rfl, stack_endDelivery _ _ _ _, deliveryEnded_endDelivery _ _ _ _⟩
  · rw [if_pos htag]
    simp only [if_pos htag]
    exact ⟨_, rfl, stack_endDelivery _ _ _ _, deliveryEnded_endDelivery _ _ _ _⟩

end chunk

theorem length_cryptChunk (key : BitVec 256) (i : Nat) (bytes : List Byte) : (cryptChunk key i bytes).length = bytes.length := by
  simp [cryptChunk]

/-- A bundle that is complete ends its delivery and is recorded. -/
theorem finishBundle_leaves (s : State) (p : Nat) (d : Delivery) (plain : List Byte) (chart : Option Chart) :
    DeliveryEnded (finishBundle s p d plain chart) p 0x00 3 ∧ (finishBundle s p d plain chart).stack = s.stack ∧
      ((finishBundle s p d plain chart).parcel p).sec.bytesDelivered = (s.parcel p).sec.bytesDelivered ∧
      ((finishBundle s p d plain chart).parcel p).sec.bundles.length = (s.parcel p).sec.bundles.length + 1 := by
  unfold finishBundle
  extract_lets digest t u
  have ht : (t.parcel p).sec = _ := sec_modSec s p _
  have hu : u.stack = t.stack ∧ (u.parcel p).sec.bytesDelivered = (t.parcel p).sec.bytesDelivered ∧
      (u.parcel p).sec.bundles = (t.parcel p).sec.bundles := by
    unfold u
    split
    · refine ⟨rfl, ?_, ?_⟩ <;> rw [takeChart, State.parcel_modParcel_self]
    · have hkept (f : Serving → Serving) := (secKept_modServing t p f).sec p
      exact ⟨rfl, congrArg ParcelSec.bytesDelivered (hkept _), congrArg ParcelSec.bundles (hkept _)⟩
    · exact ⟨rfl, rfl, rfl⟩
  obtain ⟨hstack, hbytes, hbundles⟩ := hu
  refine ⟨deliveryEnded_endDelivery _ _ _ _, (stack_endDelivery _ _ _ _).trans hstack, ?_, ?_⟩
  · rw [sec_endDelivery, hbytes, ht]
  · rw [sec_endDelivery, hbundles, ht]
    exact List.length_append

theorem stewardPut_of_none {s : State} {p a : Nat} {bytes : List Byte} (h : (stewardWrite s p 5 a bytes).2 = none) :
    stewardPut s p a bytes = (stewardWrite s p 5 a bytes).1 := by
  unfold stewardPut
  split
  next hwrite => rw [hwrite]
  next hwrite => rw [hwrite] at h; cases h

/-- A chunk, or the part of it that may move, that has been written: the delivery goes on or ends. -/
def partTaken (t : State) (p : Nat) (d : Delivery) (n : Nat) (bytes : List Byte) (chart : Option Chart) : State :=
  let s := modSec t p fun c => { c with bytesDelivered := c.bytesDelivered + n }
  if d.moved + n < bytes.length then
    modSec s p fun c => { c with delivery := some { d with moved := d.moved + n, credit := d.credit - n } }
  else if d.next + 1 = d.chunks then finishBundle s p d (d.plain ++ bytes) chart
  else if d.aborting then endDelivery s p 0x09 5
  else modSec s p fun c => { c with
    delivery := some { d with next := d.next + 1, plain := d.plain ++ bytes, credit := d.credit - n, moved := 0 } }

theorem takeChunk_written {s t : State} {p dest n : Nat} {d : Delivery} {bytes : List Byte} (chart : Option Chart)
    (hn : chunkStep (s.parcel p) d bytes.length = n) (hcut : rangeCut s p (dest + d.moved) n = none)
    (hput : stewardPut s p (dest + d.moved) ((bytes.drop d.moved).take n) = t)
    (hdelivery : (t.parcel p).sec.delivery = some d) :
    takeChunk s p d dest bytes chart = partTaken t p d n bytes chart := by
  unfold takeChunk partTaken
  simp only [hn, hcut, hput, hdelivery, Option.isNone_some, Bool.false_eq_true, if_false]

theorem partTaken_leaves (t : State) (p : Nat) (d : Delivery) (n : Nat) (bytes : List Byte) (chart : Option Chart) :
    (partTaken t p d n bytes chart).stack = t.stack ∧
      ((partTaken t p d n bytes chart).parcel p).sec.bytesDelivered = (t.parcel p).sec.bytesDelivered + n ∧
      if d.moved + n < bytes.length then
        ((partTaken t p d n bytes chart).parcel p).sec.delivery =
          some { d with moved := d.moved + n, credit := d.credit - n }
      else if d.next + 1 = d.chunks then
        DeliveryEnded (partTaken t p d n bytes chart) p 0x00 3 ∧
          ((partTaken t p d n bytes chart).parcel p).sec.bundles.length = (t.parcel p).sec.bundles.length + 1
      else if d.aborting = true then DeliveryEnded (partTaken t p d n bytes chart) p 0x09 5
      else ((partTaken t p d n bytes chart).parcel p).sec.delivery = some { d with
        next := d.next + 1, plain := d.plain ++ bytes, credit := d.credit - n, moved := 0 } := by
  unfold partTaken
  extract_lets u
  have hu : (u.parcel p).sec = _ := sec_modSec t p _
  have hmore (f : ParcelSec → ParcelSec) : ((modSec u p f).parcel p).sec = f (u.parcel p).sec := sec_modSec u p f
  split
  · exact ⟨rfl, by rw [hmore, hu], by rw [hmore]⟩
  · split
    · obtain ⟨hended, hstack, hbytes, hbundles⟩ := finishBundle_leaves u p d (d.plain ++ bytes) chart
      exact ⟨hstack, by rw [hbytes, hu], hended, by rw [hbundles, hu]⟩
    · split
      · exact ⟨stack_endDelivery _ _ _ _, by rw [sec_endDelivery, hu], deliveryEnded_endDelivery _ _ _ _⟩
      · exact ⟨rfl, by rw [hmore, hu], by rw [hmore]⟩

theorem chunk_taken (s : State) (p : ParcelId) (d : Delivery) (x : BitVec 512) (bytes : List Byte) (chart : Option Chart)
    (hready : ChunkReady s p d x bytes chart) (hpasses : ChunkPasses s p d x bytes) (hfits : PartFits s p d x bytes) :
    let n := chunkStep (s.parcel p) d (Chunk.len x)
    ∃ s', exec (.deliveryChunk p (some x) (some bytes) chart) s = .next s' ∧
      s'.stack = (stewardWrite s p 5 (partAt d x) (partBytes s p d x bytes)).1.stack ∧
      (s'.parcel p).sec.bytesDelivered = (s.parcel p).sec.bytesDelivered + n ∧
      if d.moved + n < Chunk.len x then
        (s'.parcel p).sec.delivery = some { d with moved := d.moved + n, credit := d.credit - n }
      else if d.next + 1 = d.chunks then
        DeliveryEnded s' p 0x00 3 ∧ (s'.parcel p).sec.bundles.length = (s.parcel p).sec.bundles.length + 1
      else if d.aborting = true then DeliveryEnded s' p 0x09 5
      else (s'.parcel p).sec.delivery = some { d with
        next := d.next + 1
        plain := d.plain ++ cryptChunk d.key d.next bytes
        credit := d.credit - n
        moved := 0 } := by
  intro n
  obtain ⟨htag, hplace⟩ := hpasses
  obtain ⟨hcut, hwrite⟩ := hfits
  obtain ⟨hdelivery, -, -, -, hlen, -⟩ := id hready
  have hlen' : (cryptChunk d.key d.next bytes).length = Chunk.len x := (length_cryptChunk _ _ _).trans hlen
  have hkept := secKept_stewardWrite s p 5 (partAt d x) (partBytes s p d x bytes)
  have hput : stewardPut s p (partAt d x) (partBytes s p d x bytes) = _ := stewardPut_of_none hwrite
  obtain ⟨t, ht⟩ : ∃ t, (stewardWrite s p 5 (partAt d x) (partBytes s p d x bytes)).1 = t := ⟨_, rfl⟩
  rw [ht] at hkept hput ⊢
  have htaken := takeChunk_written chart (congrArg _ hlen') hcut hput ((congrArg _ (hkept.sec p)).trans hdelivery)
  have hleaves := partTaken_leaves t p d n (cryptChunk d.key d.next bytes) chart
  rw [hlen', hkept.sec p] at hleaves
  refine ⟨_, ?_, hleaves⟩
  rw [exec_deliveryChunk hready, if_neg (not_not.2 (show wantedTag s p d x bytes = _ from htag)), if_neg (by simp [hplace]), htaken]

theorem chunk_barred (s : State) (p : ParcelId) (d : Delivery) (x : Option (BitVec 512)) (bytes : Option (List Byte))
    (chart : Option Chart) (hdelivery : (s.parcel p).sec.delivery = some d) (hopen : hostOpen s p = true)
    (hbar : insetBarred (s.parcel p) d = true) :
    ∃ s', exec (.deliveryChunk p x bytes chart) s = .next s' ∧ s'.stack = s.stack ∧ DeliveryEnded s' p 0x05 4 := by
  refine ⟨endDelivery s p 0x05 4, ?_, stack_endDelivery _ _ _ _, deliveryEnded_endDelivery _ _ _ _⟩
  show execDeliveryChunk p x bytes chart s = _
  unfold execDeliveryChunk
  simp only [hdelivery, hopen, hbar, Bool.not_true, Bool.false_eq_true, if_false, if_true]

/-- The delivery in progress, if there is one, is to end after its chunk (R336). -/
def markedAborting (c : ParcelSec) : ParcelSec :=
  { c with delivery := c.delivery.map fun d => { d with aborting := true } }

theorem deliveryAbort_holds (s : State) (p : ParcelId) (d : Delivery) (hdelivery : (s.parcel p).sec.delivery = some d)
    (hans : Answers s (.tenant p) (0x8010 + p)) :
    ∃ s', exec (.deliveryAbort (.tenant p) p 1) s = .next s' ∧ Answered s s' (.tenant p) (0x8010 + p) 0x06 .ok ∧
      (s'.parcel p).sec = { (s.parcel p).sec with delivery := some { d with aborting := true } } ∧
      s' = { s with parcels := s'.parcels, sent := s'.sent } := by
  have hset : tenantWrite (.tenant p) p s (setDeliveryAbort s p 1) = (.ok, modSec s p markedAborting) := if_pos rfl
  have hexec : exec (.deliveryAbort (.tenant p) p 1) s = _ :=
    (congrArg (answer (.tenant p) (0x8010 + p) 0x06 s) hset).trans (answer_of_answers _ _ hans)
  refine ⟨_, hexec, rfl, (sec_modSec s p markedAborting).trans ?_, rfl⟩
  rw [markedAborting, hdelivery]
  rfl

/-- Settles O38: a header is checked before anything else happens, a chunk is judged by its tag and its place before its part is
written, and a write of the steward leaves every parcel's security state. The part of a chunk that moves in a tick, the moment of
an abort and the order in which a chunk is judged are the model's choices (log entry 49). -/
theorem deliveriesRun : Obligations.DeliveriesRun := by
  refine ⟨fun s p a h ha hnone hans => ?_, deliveryStart_unread, deliveryStart_refused,
    fun _ _ _ _ _ _ hready hfails => chunk_failing hready hfails, chunk_taken, chunk_barred, deliveryAbort_holds⟩
  by_cases hpass : headerResult (s.parcel p) h = 0
  · simp only [if_neg (not_not.2 hpass)]
    cases hkey : unwrapped s p h with
    | none => exact deliveryStart_fails hans (setDeliveryStart_keyless ha hnone hpass hkey)
    | some k => exact deliveryStart_begins ha hnone hans hpass hkey
  · simp only [if_pos hpass]
    exact deliveryStart_fails hans (setDeliveryStart_checked ha hnone hpass)

end Sys2Proof.Proofs.Deliveries
end

section
/-! PROOFS. The family of 13_cartouche_security.md: exports and tamper events (R319, R337, R345 to R347). -/

namespace Sys2Proof.Proofs.ExportsAndTamper

open Sys2Proof Sys2Proof.Machine Sys2Proof.Claims Sys2Proof.Proofs.JobControl Sys2Proof.Proofs.SecurityFrame
open Sys2Proof.Proofs.TeardownFrame Sys2Proof.Proofs.ArrayTiles Sys2Proof.Proofs.PereoStacks

/-! ### Exports (R337) -/

/-- The outgoing bundle of the regions asked for stands before its first chunk; of no region there is none. -/
def exportBegun (r : ExportRequest) (key : BitVec 256) (c : ParcelSec) : ParcelSec :=
  { c with exporting := if r.regions.isEmpty then none else some { request := r, key := key, chunk := 0, region := 0, pos := 0 } }

/-- An outgoing bundle begins with its header, under a key newly drawn. -/
theorem setExportAuth_of_mayExport {s : State} {p : Nat} {r : ExportRequest} (hmay : MayExport s p r) :
    setExportAuth s p r = (.ok, (modSec (drawn (drawn s)) p (exportBegun r (Config.random256 s.fresh))).send
      (.exportHeader p r.address (exportHeader r (Config.publicPoint (s.fresh + 1)) (Config.wrapKey r.dkPublic r.nonce r.serial
        r.parcel r.bundleId (s.fresh + 1) (Config.random256 s.fresh))) ((s.parcel p).sec.tdi = .run))) := by
  obtain ⟨hjob, hnone, hok, hkeys⟩ := hmay
  exact if_neg (by simp [hjob, hnone, hok, hkeys])

theorem exportAuth_holds (s : State) (p : ParcelId) (r : ExportRequest) (hmay : MayExport s p r)
    (hans : Answers s (.tenant p) (0x8010 + p)) :
    let key := Config.random256 s.fresh
    let eph := s.fresh + 1
    ∃ s', exec (.exportAuth (.tenant p) p r) s = .next s' ∧
      s'.sent = s.sent ++ [.exportHeader p r.address (exportHeader r (Config.publicPoint eph)
        (Config.wrapKey r.dkPublic r.nonce r.serial r.parcel r.bundleId eph key))
          ((s.parcel p).sec.tdi = .run),
        .status (.tenant p) (0x8010 + p) 0x08 .ok] ∧
      (s'.parcel p).sec.exporting = (if r.regions = [] then none else some ⟨r, key, 0, 0, 0⟩) ∧
      s'.fresh = s.fresh + 2 ∧ s'.stack = s.stack ∧
      s' = { s with parcels := s'.parcels, sent := s'.sent, fresh := s'.fresh } := by
  intro key eph
  have hset : tenantWrite (.tenant p) p s (setExportAuth s p r) = _ := (if_pos rfl).trans (setExportAuth_of_mayExport hmay)
  have hexporting := congrArg ParcelSec.exporting (sec_modSec (drawn (drawn s)) p (exportBegun r key))
  obtain ⟨t, ht⟩ : ∃ t, (modSec (drawn (drawn s)) p (exportBegun r key)).parcels = t := ⟨_, rfl⟩
  have hbegun : modSec (drawn (drawn s)) p (exportBegun r key) = { s with parcels := t, fresh := s.fresh + 2 } := by
    rw [← ht]
    rfl
  rw [hbegun] at hset hexporting
  have hexec : exec (.exportAuth (.tenant p) p r) s = _ :=
    (congrArg (answer (.tenant p) (0x8010 + p) 0x08 s) hset).trans (answer_of_answers _ _ hans)
  refine ⟨_, hexec, List.append_assoc _ _ _, hexporting.trans ?_, rfl, rfl, rfl⟩
  simp [exportBegun]

/-- The outgoing bundle after the chunk that it stands at, of `n` bytes of a region of `len`. -/
def chunkExported (x : Export) (len n : Nat) : Export :=
  let done : Bool := len ≤ x.pos + n
  { x with chunk := x.chunk + 1, region := if done then x.region + 1 else x.region, pos := if done then 0 else x.pos + n }

/-- The outgoing bundle that goes on after that chunk, where it was not the last. -/
def exportGoesOn (x : Export) (len n : Nat) : Option Export :=
  if x.request.regions.length ≤ (chunkExported x len n).region then none else some (chunkExported x len n)

theorem exportGoesOn_eq {x : Export} {len n : Nat} (h : x.region < x.request.regions.length) : exportGoesOn x len n =
    if x.pos + n < len then some { x with chunk := x.chunk + 1, pos := x.pos + n }
    else if x.request.regions.length ≤ x.region + 1 then none
    else some { x with chunk := x.chunk + 1, region := x.region + 1, pos := 0 } := by
  by_cases hmore : x.pos + n < len
  · have hdone : decide (len ≤ x.pos + n) = false := decide_eq_false (Nat.not_le.2 hmore)
    simp only [exportGoesOn, chunkExported, hdone, if_pos hmore, Bool.false_eq_true, if_false]
    exact if_neg (Nat.not_le.2 h)
  · have hdone : decide (len ≤ x.pos + n) = true := decide_eq_true (Nat.not_lt.1 hmore)
    simp only [exportGoesOn, chunkExported, hdone, if_neg hmore, if_true]

section chunk

variable {s t : State} {p : ParcelId} {x : Export} {base len : Nat} (hexport : (s.parcel p).sec.exporting = some x)
  (hopen : hostOpen s p = true) (hregion : x.request.regions[x.region]? = some (base, len))
  (hcut : rangeCut s p (base + x.pos) (min 0x100000 (len - x.pos)) = none)
include hexport hopen hregion hcut

theorem exec_exportChunk_error {c : Cause}
    (hread : stewardRead s p 5 (base + x.pos) (min 0x100000 (len - x.pos)) false = (t, .error c)) :
    exec (.exportChunk p) s = .next (modSec t p fun c => { c with exporting := none }) := by
  show execExportChunk p s = _
  unfold execExportChunk
  simp only [hexport, hopen, hregion, hcut, hread, Bool.not_true, Bool.false_eq_true, if_false]

theorem exec_exportChunk_ok {plain : List Byte}
    (hread : stewardRead s p 5 (base + x.pos) (min 0x100000 (len - x.pos)) false = (t, .ok plain)) :
    exec (.exportChunk p) s = .next (modSec
      (t.send (.exportChunk p x.chunk (base + x.pos) (min 0x100000 (len - x.pos)) (cryptChunk x.key x.chunk plain)
        (Config.gcmTag x.key x.chunk [x.request.nonce.toNat, x.request.bundleId.toNat, x.chunk, 0, base + x.pos,
          min 0x100000 (len - x.pos)] (cryptChunk x.key x.chunk plain)) ((t.parcel p).sec.tdi = .run))) p
      fun c => { c with exporting := exportGoesOn x len (min 0x100000 (len - x.pos)) }) := by
  show execExportChunk p s = _
  unfold execExportChunk
  simp only [hexport, hopen, hregion, hcut, hread, Bool.not_true, Bool.false_eq_true, if_false]
  rfl

end chunk

/-! ### Tamper (R345 to R347) -/

/-- The security state of a parcel with its keys overwritten. -/
def keysOverwritten (c : ParcelSec) : ParcelSec :=
  { c with
    dk := 0, ideSecure := false, ideKey := 0, exporting := none
    delivery := c.delivery.map fun d => { d with key := 0 } }

theorem parcel_zeroise (s : State) {p : Nat} (hp : p < 16) :
    (zeroise s).parcel p = { s.parcel p with sec := keysOverwritten (s.parcel p).sec } := by
  let u : State := { s with cart :=
    { s.cart with keysAlive := false, sessions := [], linkIde := false, linkKey := 0, chunks := [], held := [] } }
  obtain ⟨t, hbefore, hafter⟩ := foldl_once (R := fun a b : State => b.parcel p = a.parcel p) (fun _ => rfl)
    (fun h h' => h'.trans h) (f := fun s q => modSec s q keysOverwritten)
    (fun s q hq => parcel_modSec_ne s _ (Ne.symm hq)) (List.mem_range.2 hp) List.nodup_range u
  refine Eq.trans hafter ?_
  rw [parcel_modSec_self, hbefore]
  rfl

theorem cart_zeroise (s : State) : (zeroise s).cart =
    { s.cart with keysAlive := false, sessions := [], linkIde := false, linkKey := 0, chunks := [], held := [] } :=
  foldl_keeps _ State.cart (fun _ _ => rfl) (List.range 16) _

/-- Every key is gone, and of the tamper record and of the boot's state nothing. -/
structure KeysGone (u v : State) : Prop where
  zeroised : Zeroised v
  tamper : v.cart.tamper = u.cart.tamper
  tick : v.cart.tamperTick = u.cart.tamperTick
  seen : v.cart.tamperSeen = u.cart.tamperSeen

theorem keysGone_zeroise (u : State) : KeysGone u (zeroise u) where
  zeroised := by
    unfold Zeroised
    rw [cart_zeroise]
    refine ⟨rfl, rfl, rfl, rfl, rfl, fun p hp => ?_⟩
    rw [parcel_zeroise u hp]
    exact ⟨rfl, rfl, rfl, rfl⟩
  tamper := by rw [cart_zeroise]
  tick := by rw [cart_zeroise]
  seen := by rw [cart_zeroise]

theorem KeysGone.quarantine {u v : State} (h : KeysGone u v) (result : Nat) : KeysGone u (quarantine v result) :=
  ⟨h.zeroised, h.tamper, h.tick, h.seen⟩

theorem parcel_quarantine (s : State) (result p : Nat) : (quarantine s result).parcel p = s.parcel p := parcel_congr rfl p

/-- Nothing but the accounts of parcel `p` has changed. -/
def ParcelKept (p : Nat) (s s' : State) : Prop := s'.parcel p = { s.parcel p with acct := (s'.parcel p).acct }

theorem ParcelKept.of_eq {p : Nat} {s s' : State} (h : s'.parcel p = s.parcel p) : ParcelKept p s s' := by
  unfold ParcelKept
  rw [h]

theorem ParcelKept.trans {p : Nat} {s s' s'' : State} (h : ParcelKept p s s') (h' : ParcelKept p s' s'') :
    ParcelKept p s s'' := by
  unfold ParcelKept at *
  rw [h', h]

/-- What the response in service leaves for parcel `p`. -/
structure TamperedParcel (s s' : State) (p : Nat) : Prop where
  others : ∀ q, q ≠ p → ParcelKept q s s'
  interface : (s'.parcel p).sec.tdi = .error
  release : (s.parcel p).ctl.mode ≠ .free → (s'.parcel p).ctl.pendingRelease = true
  cart : s'.cart = s.cart

/-- The response as far as the end of the parcel's delivery and its job: its interface is in ERROR. -/
def tamperStopped (s : State) (p : Nat) : State :=
  stopJob (modSec (cutDelivery s p 0x0A 4) p fun c => { c with tdi := .error }) p

theorem tamperStopped_leaves (s : State) (p : Nat) : (∀ q, q ≠ p → ParcelKept q s (tamperStopped s p)) ∧
    ((tamperStopped s p).parcel p).sec.tdi = .error ∧
    ((tamperStopped s p).parcel p).ctl.mode = (s.parcel p).ctl.mode ∧ (tamperStopped s p).cart = s.cart := by
  unfold tamperStopped
  have hcut := oneParcel_cutDelivery s p 0x0A 4
  have hcutcart : (cutDelivery s p 0x0A 4).cart = s.cart := by rw [teardownOnly_cutDelivery s p 0x0A 4]
  generalize cutDelivery s p 0x0A 4 = c at *
  have hself := parcel_modSec_self c p fun c => { c with tdi := .error }
  have hother (q : Nat) (hq : q ≠ p) := parcel_modSec_ne c (fun c => { c with tdi := .error }) hq
  have hcart : (modSec c p fun c => { c with tdi := .error }).cart = c.cart := rfl
  generalize (modSec c p fun c => { c with tdi := .error }) = u at *
  have hstop := oneParcel_stopJob u p
  have hstopcart : (stopJob u p).cart = u.cart := by rw [teardownOnly_stopJob u p]
  have htdi := hstop.tdi
  have hmode : ((stopJob u p).parcel p).ctl.mode = (u.parcel p).ctl.mode := congrArg Prod.fst hstop.own
  rw [hself] at htdi hmode
  refine ⟨fun q hq => ?_, htdi, hmode.trans (congrArg Prod.fst hcut.own), (hstopcart.trans hcart).trans hcutcart⟩
  exact ParcelKept.trans (s' := c) (hcut.others q hq) ((hstop.others q hq).trans (by rw [hother q hq]))

theorem tamperedParcel_tamperParcel (s : State) (p : Nat) : TamperedParcel s (tamperParcel s p) p := by
  have hunfold : tamperParcel s p = if ((tamperStopped s p).parcel p).ctl.mode = .free then tamperStopped s p
    else ((tamperStopped s p).modCtl p fun k => { k with pendingRelease := true }).modParcel p fun P =>
      { P with sec := { P.sec with tamperRelease := true } } := rfl
  obtain ⟨hothers, htdi, hmode, hcart⟩ := tamperStopped_leaves s p
  rw [hunfold]
  generalize tamperStopped s p = t at *
  by_cases hfree : (t.parcel p).ctl.mode = .free
  · rw [if_pos hfree]
    exact ⟨hothers, htdi, fun hmine => absurd (hmode.symm.trans hfree) hmine, hcart⟩
  · rw [if_neg hfree]
    refine ⟨fun q hq => ?_, ?_, fun _ => ?_, hcart⟩
    · exact (hothers q hq).trans (.of_eq (by rw [State.parcel_modParcel_ne _ _ hq, parcel_modCtl_ne t p _ hq]))
    · rw [State.parcel_modParcel_self, parcel_modCtl_self]
      exact htdi
    · rw [State.parcel_modParcel_self, parcel_modCtl_self]

/-- After the response in service has met every parcel, each was met as it stood. -/
theorem allTampered (s : State) {p : Nat} (hp : p < 16) :
    (((List.range 16).foldl tamperParcel s).parcel p).sec.tdi = .error ∧
      ((s.parcel p).ctl.mode ≠ .free → (((List.range 16).foldl tamperParcel s).parcel p).ctl.pendingRelease = true) := by
  obtain ⟨t, hbefore, hafter⟩ := foldl_once (R := ParcelKept p) (f := tamperParcel) (fun _ => rfl) (fun h h' => h.trans h')
    (fun s q hq => (tamperedParcel_tamperParcel s q).others p (Ne.symm hq)) (List.mem_range.2 hp) List.nodup_range s
  have hmet := tamperedParcel_tamperParcel t p
  generalize tamperParcel t p = u at *
  generalize (List.range 16).foldl tamperParcel s = v at *
  have hrelease := hmet.release
  rw [hbefore] at hrelease
  rw [hafter]
  exact ⟨hmet.interface, hrelease⟩

/-- A bit that was set, or is one of those listed, is set once all those listed are. -/
theorem getLsbD_foldl_or {l : List Nat} {a : BitVec 32} {i : Nat} (h : a.getLsbD i = true ∨ i < 32 ∧ i ∈ l) :
    (l.foldl (fun (a : BitVec 32) i => a ||| ((1 : BitVec 32) <<< i)) a).getLsbD i = true := by
  induction l generalizing a with
  | nil => exact h.resolve_right fun h => List.not_mem_nil h.2
  | cons j l ih =>
    refine ih ?_
    rw [BitVec.getLsbD_or, Bool.or_eq_true]
    rcases h with hset | ⟨hlt, hmem⟩
    · exact .inl (.inl hset)
    · rcases List.mem_cons.1 hmem with rfl | hmem
      · exact .inl (.inr (by simp [hlt]))
      · exact .inr ⟨hlt, hmem⟩

theorem tamperBit_lt (x : TamperSource) : tamperBit x < 32 := by cases x <;> decide

theorem tamperWhere_lt {s : State} {keyOp : Bool} {i : Nat} (h : i ∈ tamperWhere s keyOp) : i < 32 := by
  have hall : ∀ i ∈ tamperWhere s keyOp, i ∈ [6, 7, 8, 9] := by
    unfold tamperWhere
    intro i hi
    rcases List.mem_append.1 hi with hi | hi
    · split at hi
      · simp_all
      · split at hi
        · simp_all
        · split at hi <;> simp_all
    · split at hi <;> simp_all
  have := hall i h
  simp at this
  omega

/-- The tamper record after an event (R345). -/
def tamperRecorded (sources : List TamperSource) (keyOp : Bool) (s : State) : State :=
  let bits := (sources.map tamperBit ++ tamperWhere s keyOp).foldl (fun (a : BitVec 32) i => a ||| ((1 : BitVec 32) <<< i)) 0
  { s with cart :=
    { s.cart with
        tamper := s.cart.tamper ||| bits
        tamperTick := if s.cart.tamperSeen then s.cart.tamperTick
          else if s.mer.started && !idleSleep s then s.now else 0
        tamperSeen := true } }

theorem tamper_tamperRecorded (sources : List TamperSource) (keyOp : Bool) (s : State) {i : Nat}
    (h : s.cart.tamper.getLsbD i = true ∨ i < 32 ∧ i ∈ sources.map tamperBit ++ tamperWhere s keyOp) :
    (tamperRecorded sources keyOp s).cart.tamper.getLsbD i = true := by
  show (s.cart.tamper ||| _).getLsbD i = true
  rw [BitVec.getLsbD_or, Bool.or_eq_true]
  exact h.imp_right fun h => getLsbD_foldl_or (.inr h)

/-- An event with standby power leaves no key; in service it also takes every parcel out of it. -/
theorem exec_tamperEvent {s : State} {sources : List TamperSource} (keyOp : Bool) (hsome : sources ≠ [])
    (hsb : s.supply.v3p3 = true) :
    ∃ v, exec (.tamperEvent sources keyOp) s = .next v ∧ KeysGone (tamperRecorded sources keyOp s) v ∧
      (isReleased s = true → s.supply.v48 = true → v.cart.result = 4 ∧
        ∀ p, p < 16 → (v.parcel p).sec.tdi = .error ∧
          ((s.parcel p).ctl.mode ≠ .free → (v.parcel p).ctl.pendingRelease = true)) := by
  obtain ⟨u, hu⟩ : ∃ u, tamperRecorded sources keyOp s = u := ⟨_, rfl⟩
  have hparcel (p : Nat) : u.parcel p = s.parcel p := by rw [← hu]; rfl
  have hexec : exec (.tamperEvent sources keyOp) s =
      if idleSleep s then .next (zeroise u)
      else if isReleased s && !idleSleep s then
        .next (quarantine (zeroise ((List.range 16).foldl tamperParcel u)) 4)
      else if u.cart.result = 0 then .next (quarantine (zeroise u) 4) else .next (zeroise u) := by
    rw [← hu]
    show execTamperEvent sources keyOp s = _
    unfold execTamperEvent
    rw [if_neg (by simp [hsome, hsb])]
    generalize List.range 16 = l
    rfl
  rw [hu, hexec]
  by_cases hsleep : idleSleep s = true
  · rw [if_pos hsleep]
    refine ⟨_, rfl, keysGone_zeroise u, fun _ h48 => ?_⟩
    simp [idleSleep, h48] at hsleep
  · rw [if_neg hsleep]
    by_cases hservice : isReleased s = true
    · rw [if_pos (by simp [hservice, hsleep])]
      have hall (p : Nat) (hp : p < 16) := allTampered u hp
      have hcart := foldl_keeps tamperParcel State.cart (fun s p => (tamperedParcel_tamperParcel s p).cart) (List.range 16) u
      generalize (List.range 16).foldl tamperParcel u = t at *
      obtain ⟨hzeroised, htamper, htick, hseen⟩ := (keysGone_zeroise t).quarantine 4
      rw [hcart] at htamper htick hseen
      refine ⟨_, rfl, ⟨hzeroised, htamper, htick, hseen⟩, fun _ _ => ⟨rfl, fun p hp => ?_⟩⟩
      rw [parcel_quarantine, parcel_zeroise t hp, ← hparcel p]
      exact hall p hp
    · rw [if_neg (by simp [hservice])]
      split
      · exact ⟨_, rfl, (keysGone_zeroise u).quarantine 4, fun h => absurd h hservice⟩
      · exact ⟨_, rfl, keysGone_zeroise u, fun h => absurd h hservice⟩

theorem tamperEvent_holds (s : State) (sources : List TamperSource) (keyOp : Bool) (hsome : sources ≠ [])
    (hsb : s.supply.v3p3 = true) :
    ∃ s', exec (.tamperEvent sources keyOp) s = .next s' ∧ Zeroised s' ∧ s'.cart.tamperSeen = true ∧
      (∀ i, s.cart.tamper.getLsbD i = true → s'.cart.tamper.getLsbD i = true) ∧
      (∀ x, x ∈ sources → s'.cart.tamper.getLsbD (tamperBit x) = true) ∧
      (∀ i, i ∈ tamperWhere s keyOp → s'.cart.tamper.getLsbD i = true) ∧
      (s.cart.tamperSeen = true → s'.cart.tamperTick = s.cart.tamperTick) ∧
      (isReleased s = true → s.supply.v48 = true →
        s'.cart.result = 4 ∧ ∀ p, p < 16 → (s'.parcel p).sec.tdi = .error ∧
          ((s.parcel p).ctl.mode ≠ .free → (s'.parcel p).ctl.pendingRelease = true)) := by
  obtain ⟨v, hexec, hgone, hservice⟩ := exec_tamperEvent keyOp hsome hsb
  refine ⟨v, hexec, hgone.zeroised, hgone.seen, fun i hi => ?_, fun x hx => ?_, fun i hi => ?_, fun hseen => ?_, hservice⟩
  · rw [hgone.tamper]
    exact tamper_tamperRecorded sources keyOp s (.inl hi)
  · rw [hgone.tamper]
    exact tamper_tamperRecorded sources keyOp s
      (.inr ⟨tamperBit_lt x, List.mem_append_left _ (List.mem_map_of_mem hx)⟩)
  · rw [hgone.tamper]
    exact tamper_tamperRecorded sources keyOp s (.inr ⟨tamperWhere_lt hi, List.mem_append_right _ hi⟩)
  · exact hgone.tick.trans (if_pos hseen)

/-- Settles O39: the steward's read of a chunk leaves every parcel's security state, and each parcel meets a tamper event once, as
it stood. The end of an outgoing bundle when a read is refused and its use of draws (log entry 50), and the combined effect of the event in
service (log entry 51), are the model's choices. -/
theorem exportsAndTamper : Obligations.ExportsAndTamper := by
  refine ⟨exportAuth_holds, fun s p x base len hexport hopen hregion hcut => ?_, tamperEvent_holds⟩
  intro n r
  have hkept : SecKept s r.1 := secKept_stewardRead s p 5 (base + x.pos) n false
  have hread : stewardRead s p 5 (base + x.pos) n false = r := rfl
  have hinside : x.region < x.request.regions.length := (List.getElem?_eq_some_iff.1 hregion).1
  clear_value r
  obtain ⟨t, out⟩ := r
  cases out with
  | error c =>
    exact ⟨_, exec_exportChunk_error hexport hopen hregion hcut hread, rfl, congrArg ParcelSec.exporting (sec_modSec t p _),
      hkept.sent⟩
  | ok plain =>
    have hexec := exec_exportChunk_ok hexport hopen hregion hcut hread
    rw [hkept.sec p] at hexec
    refine ⟨_, hexec, rfl, congrArg (· ++ _) hkept.sent, ?_⟩
    rw [sec_modSec]
    exact exportGoesOn_eq hinside

end Sys2Proof.Proofs.ExportsAndTamper
end
